-- ==== Sys2Proof/Word.lean ====
section
/-!
DEFINITION. The widths the KT2860 manual treats as bits: octets of the control link, of the chain
frames and of the time messages, the check sequence, and the operator's user word.  Every other
quantity of the manual (seconds, picoseconds, ppt, counts) is a number and is modelled as one.
-/

namespace Sys2Proof

/-- One octet of a frame, message or notice record (11.7). -/
abbrev Byte := BitVec 8

/-- The 16-bit check sequence and length field of 11.7. -/
abbrev Word16 := BitVec 16

/-- The operator's user word carried by the chain (R141, R155). -/
abbrev Word32 := BitVec 32

end Sys2Proof
end

