-- ==== Sys2Proof/Config.lean ====
section
/-!
DEFINITION. What the manual fixes for every part (ranges, capacities) as named constants, and the
one value it leaves open as a constant without a body.
-/

namespace Sys2Proof.Config

/-- One second in picoseconds: the fraction runs below it (R1). -/
abbrev second : Nat := 1000000000000

/-- Half a second in picoseconds, the boundary of R5 and R6. -/
abbrev half : Nat := 500000000000

/-- The greatest value of base seconds, 2^48 − 1 (R1). -/
abbrev maxSeconds : Nat := 281474976710655

/-- The last instant of the time base, in picoseconds since second 0 (R4, R9). -/
abbrev lastInstant : Nat := maxSeconds * second + 999999999999

/-- The saturation limit of the 16-bit counters. -/
abbrev count16 : Nat := 65535

/-- The saturation limit of the time error estimate, 10^12 ps (R96). -/
abbrev maxTee : Nat := 1000000000000

/-- The saturation limit of an accumulated or locked allowance, 10^9 ps (R141, R151). -/
abbrev maxAllowance : Nat := 1000000000

/-- The greatest effective delay of a port, 10^7 ps (R117, R134). -/
abbrev maxDelay : Nat := 10000000

/-- The capacity of the notice queue (R175). -/
abbrev queueSize : Nat := 32

/-- The capacity of the action table (R160). -/
abbrev tableSize : Nat := 8

/-- The capacity of a port's adjustment queue (R131). -/
abbrev adjustSize : Nat := 8

/-- The capacity of the sample window (R49). -/
abbrev windowSize : Nat := 64

/-- The capacity of the frequency history ring (R97). -/
abbrev historySize : Nat := 64

/-- The length of a LINE monitor's frequency ring (R27). -/
abbrev ringSize : Nat := 16

/-- Time-base time without an edge after which a line clock is lost, 1 ms in ps (R27). -/
abbrev lineSilence : Nat := 1000000000

/-- The greatest control-frame body length (R183). -/
abbrev maxBody : Nat := 512

/-- FREE VALUE (log entry 3).  R27 counts a line clock in nominal periods of 10^12 / f ps and states
the accumulation in picoseconds, and no rule says how a count of periods that is not a whole number
of picoseconds is brought to one.  Whether that phase is taken at the picosecond above rather than
the one below is this constant applied to the period count and the nominal frequency; it has no
body, so nothing can be proved of it. -/
opaque linePhaseUp (periods frequency : Nat) : Bool

end Sys2Proof.Config
end

