-- ==== Sys2Proof/Machine/Types.lean ====
section
/-!
DEFINITION. The names and records of the manual that commands carry and blocks hold: slots, grades,
states, reasons, configuration records, TIME frames, the stored profile.  Types only.
-/

namespace Sys2Proof

/-! ## Slots, grades, leaps -/

/-- The six reference slots, numbered 0 to 5 (00_scope.md, "Reference slots"). -/
inductive Slot where
  | satA | satB | lineA | lineB | pkt | chain
  deriving DecidableEq, Repr

/-- The two satellite slots, which have a pulse pin (R26). -/
inductive SatSlot where
  | satA | satB
  deriving DecidableEq, Repr

/-- The two LINE slots, which have a line-clock pin (R27). -/
inductive LineSlot where
  | lineA | lineB
  deriving DecidableEq, Repr

/-- One value for each reference slot. -/
structure PerSlot (α : Type) where
  satA : α
  satB : α
  lineA : α
  lineB : α
  pkt : α
  chain : α
  deriving DecidableEq, Repr

/-- The site time grade, A the best (00_scope.md, "Site time grade"). -/
inductive Grade where
  | A | B | C | D | E | F
  deriving DecidableEq, Repr

/-- The direction of a leap second. -/
inductive LeapDir where
  | insert | delete
  deriving DecidableEq, Repr

/-- A leap: direction and due second (R16). -/
structure Leap where
  dir : LeapDir
  due : Nat
  deriving DecidableEq, Repr

/-! ## Part and link -/

/-- Part states (R188, R189). -/
inductive PartState where
  | loading | running | saving
  deriving DecidableEq, Repr

/-- The link mode strap: low is SPI target, high is UART (R182). -/
inductive LinkMode where
  | spi | uart
  deriving DecidableEq, Repr

/-- Reply statuses, in the order of their codes 0 to 10 (R185). -/
inductive Status where
  | ok | notReady | busy | invalid | wrongState | tooLate | unknownId | full | notLeader | overrun
  | unknownKind
  deriving DecidableEq, Repr

/-! ## Monitors -/

/-- Monitor states (R22). -/
inductive MonitorState where
  | disabled | absent | checking | qualified | failed
  deriving DecidableEq, Repr

/-- Fail causes (R21). -/
inductive FailCause where
  | loss | wander | time | disagree | outvoted
  deriving DecidableEq, Repr

/-- The configuration part of a reference record (R19).  The five fields that apply to some kinds
only are absent where they do not apply. -/
structure ReferenceConfig where
  enabled : Bool
  priority : Nat
  declaredGrade : Option Grade
  floor : Nat
  ceiling : Nat
  immediate : Nat
  delayed : Nat
  period : Nat
  qualify : Nat
  waitRestore : Nat
  agreement : Option Nat
  nominal : Option Nat
  uLine : Option Nat
  lockedAllowance : Option Nat
  deriving DecidableEq, Repr

/-! ## Sample filter -/

/-- The filter configuration (R55). -/
structure FilterConfig where
  length : Nat
  ceiling : Nat
  deriving DecidableEq, Repr

/-- The verdict on a sample within range (R47). -/
inductive SampleResult where
  | accepted | old | delayHigh | disabled
  deriving DecidableEq, Repr

/-! ## Selector -/

/-- Selection modes (R58). -/
inductive SelMode where
  | auto
  | forced (slot : Slot)
  | hold
  deriving DecidableEq, Repr

/-- The selection configuration (R58). -/
structure SelectionConfig where
  mode : SelMode
  revertive : Bool
  minDwell : Nat
  gradeRanking : Bool
  minGrade : Grade
  deriving DecidableEq, Repr

/-- Why a slot is not a candidate, in the order of R60. -/
inductive Exclusion where
  | disabled | notQualified | lockedOut | noGrade | lowGrade | priorityZero | notForced | hold
  deriving DecidableEq, Repr

/-- Reasons of a switch, in the order of R69. -/
inductive SwitchReason where
  | mode | failed | ineligible | available | setting | better | dwellEnd
  deriving DecidableEq, Repr

/-- The result of a HOLD, RELEASE, SELECT or SELECT_AUTO (R68). -/
inductive ModeResult where
  | applied | alreadyHeld | notHeld
  deriving DecidableEq, Repr

/-! ## Servo -/

/-- Servo states (R76). -/
inductive ServoState where
  | freerun | acquiring | locked | freqLocked | holdover
  deriving DecidableEq, Repr

/-- Causes of a change of servo state, in the order of R76. -/
inductive ServoCause where
  | selected | replaced | deselected | noHoldover | lock | unlock | firstUpdate
  deriving DecidableEq, Repr

/-- The servo configuration (R89). -/
structure ServoConfig where
  kp : Nat
  ki : Nat
  kpAcq : Nat
  kiAcq : Nat
  kf : Nat
  adaptive : Bool
  pullRange : Nat
  rampLocked : Nat
  rampAcq : Nat
  stepThreshold : Nat
  lockThreshold : Nat
  lockCount : Nat
  unlockThreshold : Nat
  deriving DecidableEq, Repr

/-- Kinds of a step event (R10). -/
inductive StepKind where
  | phase | seconds | host
  deriving DecidableEq, Repr

/-! ## Holdover unit -/

/-- The holdover configuration (R111). -/
structure HoldoverConfig where
  guard : Nat
  average : Nat
  u0 : Nat
  aging : Nat
  drift : Int
  eBase : Nat
  budget : Nat
  warnPercent : Nat
  deriving DecidableEq, Repr

/-! ## Ports -/

/-- Port types (R116). -/
inductive PortType where
  | pulseTod | pulse | clock
  deriving DecidableEq, Repr

/-- Port policies (R116). -/
inductive PortPolicy where
  | squelch | mark
  deriving DecidableEq, Repr

/-- Port states (R118). -/
inductive PortState where
  | off | armed | active | squelched | held
  deriving DecidableEq, Repr

/-- Causes of a change of port state, in the order of R118. -/
inductive PortCause where
  | request | action | ready | grade | rearm
  deriving DecidableEq, Repr

/-- A port's configuration record (R116). -/
structure PortConfig where
  type : PortType
  frequency : Nat
  delayComp : Nat
  width : Nat
  minGrade : Grade
  policy : PortPolicy
  rearm : Nat
  stepLimit : Nat
  jumpTolerance : Nat
  enabledAtStart : Bool
  deriving DecidableEq, Repr

/-! ## Chain -/

/-- The two chain ports. -/
inductive ChainPort where
  | a | b
  deriving DecidableEq, Repr

/-- Chain roles (R138, R139). -/
inductive ChainRole where
  | off | leader | member
  deriving DecidableEq, Repr

/-- The chain configuration (R139). -/
structure ChainConfig where
  role : ChainRole
  linkA : Nat
  linkB : Nat
  hop : Nat
  holdOff : Nat
  ignoreCommands : Bool
  deriving DecidableEq, Repr

/-- Chain command kinds (R141). -/
inductive ChainCommandKind where
  | hold | release | leap | stepPermit
  deriving DecidableEq, Repr

/-- A chain command as a TIME frame carries it (R141): the argument is present for LEAP alone. -/
structure ChainCommand where
  kind : ChainCommandKind
  target : Nat
  sequence : Nat
  arg : Option Leap
  deriving DecidableEq, Repr

/-- The fields of a TIME frame (R141).  The origin station is the head of the path list. -/
structure TimeFrame where
  path : List Nat
  second : Nat
  sequence : Nat
  grade : Grade
  offset : Nat
  leap : Option Leap
  allowance : Nat
  word : Option Word32
  command : Option ChainCommand
  deriving DecidableEq, Repr

/-- Reasons of a change of upstream (R150). -/
inductive PathReason where
  | attach | loss | grade
  deriving DecidableEq, Repr

/-! ## Scheduler -/

/-- The nine action kinds, in the order of R160. -/
inductive ActionKind where
  | leapInsert | leapDelete | setUtcOffset | select | selectAuto | hold | release | portEnable
  | portDisable
  deriving DecidableEq, Repr

/-- Who entered an action (R160). -/
inductive ActionSource where
  | host | chain
  deriving DecidableEq, Repr

/-- The result of a taken action (R160). -/
inductive ActionResult where
  | applied | alreadyHeld | notHeld | noChange
  deriving DecidableEq, Repr

/-- The result of a taken chain command, as CHAIN_COMMAND_TAKEN reports it (R153). -/
inductive CommandResult where
  | applied | alreadyHeld | notHeld
  | entered (id : Nat)
  | tooLate | full | invalid | granted
  deriving DecidableEq, Repr

/-! ## Alarms -/

/-- The 18 condition kinds, in the order of the alarm table (R169). -/
inductive AlarmKind where
  | refLoss | refFailed | labelMissing | noReference | forcedInvalid | holdover | holdoverWarn
  | holdoverBudget | holdoverUnavailable | freerun | timeUnset | pullLimit | portSquelched
  | chainLoss | chainConflict | chainTooLong | noticeOverflow | profileDefaulted
  deriving DecidableEq, Repr

/-- Alarm severities (R170). -/
inductive Severity where
  | critical | major | minor | warning | notReported
  deriving DecidableEq, Repr

/-- Alarm entry states (R169). -/
inductive EntryState where
  | clear | pendingRaise | raised | pendingClear | latched
  deriving DecidableEq, Repr

/-- The configuration record of a condition kind (R170). -/
structure AlarmConfig where
  severity : Severity
  raiseDelay : Nat
  clearDelay : Nat
  latch : Bool
  deriving DecidableEq, Repr

/-- What GET_ALARMS names: a kind, an unknown kind code, or SUMMARY (R180). -/
inductive AlarmQuery where
  | kind (k : AlarmKind)
  | unknown
  | summary
  deriving DecidableEq, Repr

/-- What ACK_ALARM names: a kind with an entry number, an unknown kind code, or ALL (R173). -/
inductive AckTarget where
  | entry (k : AlarmKind) (number : Nat)
  | unknown
  | all
  deriving DecidableEq, Repr

/-! ## Profile -/

/-- The contents of the stored profile (R187). -/
structure Profile where
  refs : PerSlot ReferenceConfig
  filter : FilterConfig
  selection : SelectionConfig
  servo : ServoConfig
  holdover : HoldoverConfig
  ports : Vector PortConfig 12
  chain : ChainConfig
  alarms : Vector AlarmConfig 18
  attention : Bool
  fBoot : Int
  deriving DecidableEq, Repr

/-- An image in the profile flash: whether its format marker is correct and its check matches, and
the records and F_boot it holds (R187, R188). -/
structure FlashImage where
  markerCorrect : Bool
  checkMatches : Bool
  profile : Profile
  deriving DecidableEq, Repr

/-- What a completed profile read delivers (R188): the image this part last stored, or an image put
into the flash from outside. -/
inductive FlashRead where
  | stored
  | image (i : FlashImage)
  deriving DecidableEq, Repr

/-- How the flash ends a save (R189). -/
inductive SaveResult where
  | readBackMatches | refused | readBackDiffers
  deriving DecidableEq, Repr

/-! ## Order of the blocks at one boundary -/

/-- The work at one marked boundary that may come in either order: that of the blocks, the monitors' in its
parts (R71, R99, R103, R110, R121, R133, R163); the expiries that are due there, of a monitor's timers (R71,
R103, R110), of the dwell timer (R65), of a port's re-arm timer (R123) and of the alarm entries' timers (R171,
R172); and what arrives at the boundary's own instant (R62, R71, R122, R128), a satellite pulse, edges or the
end of a silence of a line clock, a marker or a frame of the chain, an emission instant or a clock edge. -/
inductive Block where
  | scheduler | filter
  | line (k : LineSlot)
  | agreement | servo | ports | holdover | chain
  | slotTimers (k : Slot)
  | dwell
  | rearm (p : Fin 12)
  | alarms
  | pulse (k : SatSlot)
  | edges (k : LineSlot) (count : Nat)
  | silence (k : LineSlot)
  | marker (p : ChainPort)
  | frame (p : ChainPort) (octets : List Byte) (commandFirst : Bool)
  | instant (p : Fin 12)
  | clock (p : Fin 12) (k : Nat) (rising : Bool)
  deriving DecidableEq, Repr

end Sys2Proof
end

