-- ==== Sys2Proof/Syntax.lean ====
section
/-!
DEFINITION. The commands of the KT2860: one constructor for each row of spec/opcode_table.json.

Requests of the host carry the tag of their control frame (R183) and their fields in the order of
the rule that defines them; such a command is the TAKING of that request by the link controller
(R184, R185).  FRAME_RECEIVED carries the octets of a frame instead.  Events of the pins carry
`t`, the fraction of the running second at which they come; events of the count (boundaries,
window closes, emissions, clock edges) come at the reading their rule gives.
-/

namespace Sys2Proof

/-- The commands, one constructor a row. -/
inductive Instr where
  /-- PIN_RESET: the reset pin is asserted, with the link mode strap as it stands (R188, R182). -/
  | pinReset (mode : LinkMode)
  /-- PROFILE_LOAD_DONE: the flash completes the read; the address straps as they stand (R188, R138). -/
  | profileLoadDone (read : FlashRead) (straps : BitVec 3)
  /-- PROFILE_LOAD_TIMEOUT: 1 s after pin reset the flash has not completed the read (R188). -/
  | profileLoadTimeout (straps : BitVec 3)
  /-- PROFILE_SAVE_DONE: the flash ends the erase, write and read-back (R189). -/
  | profileSaveDone (result : SaveResult)
  /-- PROFILE_SAVE_TIMEOUT: 10 s after the snapshot the save is not complete (R189). -/
  | profileSaveTimeout
  /-- FRAME_RECEIVED: the octets of a control frame, from outside a frame to its check octets (R183). -/
  | frameReceived (octets : List Byte)
  /-- SELECT_RELEASED: on SPI, select is released before the frame is complete (R183). -/
  | selectReleased
  /-- FRAME_TIMEOUT: on UART, the frame is not complete 50 ms after its sync octet (R183). -/
  | frameTimeout
  /-- REPLY_SENT: the transmitter finishes the reply it is sending (R184). -/
  | replySent
  /-- UNKNOWN_KIND: a request of this kind is taken (R185). -/
  | unknownKind (tag kind : Byte)
  /-- SET_TIME (R13, R14). -/
  | setTime (tag : Byte) (seconds : Nat) (offset : Option Nat)
  /-- GET_TIME (R17). -/
  | getTime (tag : Byte)
  /-- SET_REFERENCE (R40). -/
  | setReference (tag : Byte) (slot : Nat) (config : ReferenceConfig)
  /-- GET_REFERENCE (R41). -/
  | getReference (tag : Byte) (slot : Nat)
  /-- LOCKOUT (R42). -/
  | lockout (tag : Byte) (slot : Nat) (on : Bool)
  /-- CLEAR_COUNTS: a slot number, or none for ALL (R43). -/
  | clearCounts (tag : Byte) (slot : Option Nat)
  /-- LABEL (R34). -/
  | label (tag : Byte) (slot seconds : Nat)
  /-- SAMPLE (R45). -/
  | sample (tag : Byte) (sequence : Nat) (offset : Int) (delay : Nat) (grade : Grade)
  /-- SET_FILTER (R55). -/
  | setFilter (tag : Byte) (config : FilterConfig)
  /-- GET_FILTER, with the clear flag (R56). -/
  | getFilter (tag : Byte) (clear : Bool)
  /-- SET_SELECTION (R72). -/
  | setSelection (tag : Byte) (config : SelectionConfig)
  /-- GET_SELECTION (R73). -/
  | getSelection (tag : Byte)
  /-- SET_SERVO (R89). -/
  | setServo (tag : Byte) (config : ServoConfig)
  /-- GET_SERVO (R94). -/
  | getServo (tag : Byte)
  /-- ALLOW_STEP (R92). -/
  | allowStep (tag : Byte)
  /-- SET_HOLDOVER (R111). -/
  | setHoldover (tag : Byte) (config : HoldoverConfig)
  /-- GET_HOLDOVER (R112). -/
  | getHoldover (tag : Byte)
  /-- GET_HISTORY: start position and count (R113). -/
  | getHistory (tag : Byte) (start count : Nat)
  /-- CLEAR_HISTORY (R114). -/
  | clearHistory (tag : Byte)
  /-- SET_PORT (R135). -/
  | setPort (tag : Byte) (port : Nat) (config : PortConfig)
  /-- ENABLE_PORT (R119). -/
  | enablePort (tag : Byte) (port : Nat)
  /-- DISABLE_PORT (R120). -/
  | disablePort (tag : Byte) (port : Nat)
  /-- ADJUST_PORT (R131). -/
  | adjustPort (tag : Byte) (port : Nat) (amount : Int)
  /-- GET_PORT (R136). -/
  | getPort (tag : Byte) (port : Nat)
  /-- SET_CHAIN (R157). -/
  | setChain (tag : Byte) (config : ChainConfig)
  /-- GET_CHAIN (R158). -/
  | getChain (tag : Byte)
  /-- CHAIN_COMMAND: kind (none for a code outside the four), target and argument (R154). -/
  | chainCommand (tag : Byte) (kind : Option ChainCommandKind) (target : Nat) (arg : Option Leap)
  /-- CHAIN_CANCEL (R154). -/
  | chainCancel (tag : Byte)
  /-- POST_WORD (R155). -/
  | postWord (tag : Byte) (word : Word32)
  /-- FETCH_WORD (R156). -/
  | fetchWord (tag : Byte)
  /-- SCHEDULE: kind (none for a code outside the nine), due second and argument (R161). -/
  | schedule (tag : Byte) (kind : Option ActionKind) (due : Nat) (arg : Option Nat)
  /-- CANCEL (R166). -/
  | cancel (tag : Byte) (id : Nat)
  /-- GET_ACTIONS (R167). -/
  | getActions (tag : Byte)
  /-- SET_ALARM: kind (none for an unknown code) and record (R179). -/
  | setAlarm (tag : Byte) (kind : Option AlarmKind) (config : AlarmConfig)
  /-- GET_ALARMS (R180). -/
  | getAlarms (tag : Byte) (query : AlarmQuery)
  /-- ACK_ALARM (R173). -/
  | ackAlarm (tag : Byte) (target : AckTarget)
  /-- GET_NOTICES (R177). -/
  | getNotices (tag : Byte) (max : Nat)
  /-- SET_ATTENTION (R178). -/
  | setAttention (tag : Byte) (on : Bool)
  /-- GET_STATUS (R186). -/
  | getStatus (tag : Byte)
  /-- SAVE_PROFILE (R189). -/
  | saveProfile (tag : Byte)
  /-- RESTART (R190). -/
  | restart (tag : Byte)
  /-- SOFT_RESTART: the soft restart acts once the RESTART reply has been sent (R190). -/
  | softRestart
  /-- SECOND_BOUNDARY: the count runs on to the next second boundary; the blocks named act on it
  first, in the order named, and the others after them (R3). -/
  | secondBoundary (order : List Block)
  /-- END_OF_RANGE: the count reaches the last instant of the range (R4). -/
  | endOfRange
  /-- SAT_PULSE: a pulse at fraction `t` of the running second (R26). -/
  | satPulse (slot : SatSlot) (t : Nat)
  /-- SAT_WINDOW_CLOSE: the count reaches half a second past the boundary (R26). -/
  | satWindowClose (slot : SatSlot)
  /-- LINE_EDGE: a line-clock edge at fraction `t`, the newest of `edges` edges since the last such
  command of the slot; a single edge has `edges` 1 (R27). -/
  | lineEdge (slot : LineSlot) (t edges : Nat)
  /-- LINE_LOSS: 1 ms of time-base time has passed with no edge (R27). -/
  | lineLoss (slot : LineSlot)
  /-- CHAIN_MARKER: a marker edge arrives at fraction `t` (R144). -/
  | chainMarker (port : ChainPort) (t : Nat)
  /-- CHAIN_FRAME: the octets of an arriving TIME frame at fraction `t`; a carried command acts before
  the measurement's hand-off when `commandFirst` (R145, R153). -/
  | chainFrame (port : ChainPort) (t : Nat) (octets : List Byte) (commandFirst : Bool)
  /-- QUALIFY_TIMER_EXPIRY (R24). -/
  | qualifyTimerExpiry (slot : Slot)
  /-- WAIT_TIMER_EXPIRY (R25). -/
  | waitTimerExpiry (slot : Slot)
  /-- OBSERVATION_PERIOD_END (R32). -/
  | observationPeriodEnd (slot : Slot)
  /-- DWELL_EXPIRY (R65). -/
  | dwellExpiry
  /-- REARM_TIMER_EXPIRY (R123). -/
  | rearmTimerExpiry (port : Fin 12)
  /-- PORT_EMISSION: the count reaches the port's emission instant (R125). -/
  | portEmission (port : Fin 12)
  /-- PULSE_END: the pulse width elapses (R126). -/
  | pulseEnd (port : Fin 12)
  /-- SWAP_TIMER_EXPIRY (R148, R149). -/
  | swapTimerExpiry
  /-- CONFLICT_TIMER_EXPIRY (R143, R146). -/
  | conflictTimerExpiry
  /-- TOO_LONG_TIMER_EXPIRY (R146). -/
  | tooLongTimerExpiry
  /-- RAISE_DELAY_EXPIRY of the entry of this kind and number (R171). -/
  | raiseDelayExpiry (kind : AlarmKind) (number : Nat)
  /-- CLEAR_DELAY_EXPIRY of the entry of this kind and number (R172). -/
  | clearDelayExpiry (kind : AlarmKind) (number : Nat)
  /-- CLOCK_EDGE: the count reaches the reading of rising edge `k` of the port's second, or of the
  falling edge that follows it (R127). -/
  | clockEdge (port : Fin 12) (k : Nat) (rising : Bool)
  /-- OVERLONG_BODY_LENGTH: the two length octets of a frame have arrived (R183). -/
  | overlongBodyLength (length : Word16)
  deriving DecidableEq, Repr

end Sys2Proof
end

