-- ==== Sys2Proof/Decode.lean ====
section
/-!
DEFINITION. The command that a word of spec/opcode_table.json spells.  No row of the table gives bits:
a command is a request in a control frame or an event of a pin or of the count, so no word spells one.
The octets of control frames are read in Machine/Link.lean, those of TIME frames in
Machine/ChainFrames.lean.
-/

namespace Sys2Proof

/-- The command that a word spells by the table's bits: none, since no row has bits. -/
def decodeTableWord (_nbits _w : Nat) : Option Instr := none

end Sys2Proof
end

