-- ==== Sys2Proof/Machine/Arith.lean ====
section
/-!
DEFINITION. The manual's arithmetic conventions (00_scope.md, "Rounding", "Clamping and
saturation"): rounding, clamping, saturating counters, and the timers that count marked boundaries.
-/

namespace Sys2Proof

/-! ## One value for each slot -/

/-- The value held for a slot. -/
def PerSlot.get {α : Type} (p : PerSlot α) : Slot → α
  | .satA => p.satA | .satB => p.satB | .lineA => p.lineA | .lineB => p.lineB | .pkt => p.pkt
  | .chain => p.chain

/-- The value of one slot replaced. -/
def PerSlot.set {α : Type} (p : PerSlot α) (s : Slot) (x : α) : PerSlot α :=
  match s with
  | .satA => { p with satA := x }
  | .satB => { p with satB := x }
  | .lineA => { p with lineA := x }
  | .lineB => { p with lineB := x }
  | .pkt => { p with pkt := x }
  | .chain => { p with chain := x }

/-- Each slot's value computed from its slot. -/
def PerSlot.of {α : Type} (f : Slot → α) : PerSlot α :=
  { satA := f .satA, satB := f .satB, lineA := f .lineA, lineB := f .lineB, pkt := f .pkt,
    chain := f .chain }

end Sys2Proof

namespace Sys2Proof.Machine

/-! ## Rounding and clamping -/

/-- `n / d` rounded to nearest, ties away from zero ("Rounded to nearest"). -/
def roundDiv (n : Int) (d : Nat) : Int :=
  if 0 ≤ n then (2 * n + d) / (2 * d) else -((2 * (-n) + d) / (2 * d))

/-- `n / d` rounded up, toward positive infinity. -/
def ceilDiv (n d : Nat) : Nat :=
  (n + d - 1) / d

/-- Clamp(x, ±p). -/
def clampTo (p : Nat) (x : Int) : Int :=
  max (-(p : Int)) (min (p : Int) x)

/-- A counter that saturates at `limit`, increased by one. -/
def satSucc (limit n : Nat) : Nat :=
  if n < limit then n + 1 else limit

/-- A counter that saturates at `limit`, increased by `k`. -/
def satAdd (limit n k : Nat) : Nat :=
  min limit (n + k)

/-! ## Phase error (R5, R6) -/

/-- The whole-second part Δs of a phase error D: the smallest integer not less than
(D − 500,000,000,000) / 1,000,000,000,000 (R5). -/
def phaseSeconds (d : Int) : Int :=
  -((-(d - Config.half)) / Config.second)

/-- The fractional part e of a phase error D (R5). -/
def phaseFraction (d : Int) : Int :=
  d - phaseSeconds d * Config.second

/-- The nearest second boundary to a reading given in picoseconds since second 0 (R6). -/
def nearestSecond (reading : Int) : Int :=
  (reading + Config.half) / Config.second

/-- The e of a reference that marks a whole second at this reading (R6). -/
def boundaryError (reading : Int) : Int :=
  nearestSecond reading * Config.second - reading

/-! ## Timers (R3) -/

/-- A timer that counts marked boundaries.  `due` is set at the boundary at which it reaches 0 and
stays set until that expiry has been taken. -/
structure Timer where
  left : Nat
  due : Bool
  deriving DecidableEq, Repr

/-- A timer at 0 with no expiry outstanding: stopped, or not running. -/
def Timer.stopped : Timer := { left := 0, due := false }

/-- A timer set to `n` boundaries. -/
def Timer.start (n : Nat) : Timer := { left := n, due := false }

/-- One marked boundary: a timer above 0 decreases by one and is due when it reaches 0. -/
def Timer.tick (t : Timer) : Timer :=
  if t.left = 0 then t else { left := t.left - 1, due := decide (t.left = 1) }

/-- One marked boundary of a timer that expires at the boundary at which it is, or comes to, 0: the
wait timer of R25, which keeps a failed slot out until the next boundary even when set to 0. -/
def Timer.tickToZero (t : Timer) : Timer :=
  { left := t.left - 1, due := decide (t.left ≤ 1) }

/-- The expiry has been taken. -/
def Timer.taken (t : Timer) : Timer := { t with due := false }

/-! ## Grades -/

/-- The rank of a grade, 0 for A the best; also its code (R191). -/
def gradeRank : Grade → Nat
  | .A => 0 | .B => 1 | .C => 2 | .D => 3 | .E => 4 | .F => 5

/-- `a` is equal to or better than `b`. -/
def gradeMeets (a b : Grade) : Bool := decide (gradeRank a ≤ gradeRank b)

/-- `a` is strictly better than `b`. -/
def gradeBetter (a b : Grade) : Bool := decide (gradeRank a < gradeRank b)

/-! ## Slots and chain ports -/

/-- The slots in the order of their numbers. -/
def allSlots : List Slot := [.satA, .satB, .lineA, .lineB, .pkt, .chain]

/-- The number of a slot. -/
def slotNumber : Slot → Nat
  | .satA => 0 | .satB => 1 | .lineA => 2 | .lineB => 3 | .pkt => 4 | .chain => 5

/-- The slot of a number; a number above 5 is none. -/
def slotOfNumber : Nat → Option Slot
  | 0 => some .satA | 1 => some .satB | 2 => some .lineA | 3 => some .lineB | 4 => some .pkt
  | 5 => some .chain | _ => none

/-- LINE slots carry frequency alone. -/
def isLine : Slot → Bool
  | .lineA | .lineB => true
  | _ => false

/-- Slots 0, 1, 4 and 5. -/
def isPhase (s : Slot) : Bool := !isLine s

/-- Slots 0 and 1. -/
def isSat : Slot → Bool
  | .satA | .satB => true
  | _ => false

/-- The slot of a satellite pin. -/
def satSlot : SatSlot → Slot
  | .satA => .satA
  | .satB => .satB

/-- The slot of a line-clock pin. -/
def lineSlot : LineSlot → Slot
  | .lineA => .lineA
  | .lineB => .lineB

/-- The other chain port. -/
def otherPort : ChainPort → ChainPort
  | .a => .b
  | .b => .a

/-- The twelve port numbers in order. -/
def allPorts : List (Fin 12) := [0, 1, 2, 3, 4, 5, 6, 7, 8, 9, 10, 11]

/-- The port of a number; a number above 11 is none. -/
def portOfNumber (n : Nat) : Option (Fin 12) :=
  if h : n < 12 then some ⟨n, h⟩ else none

end Sys2Proof.Machine
end

