-- ==== Sys2Proof/Machine/Defaults.lean ====
section
/-!
DEFINITION. The defaults of every configuration record, which apply when the profile is defaulted,
and the range and consistency tests of the SET_* requests, which a good profile image passes too
(R188).
-/

namespace Sys2Proof.Machine

/-! ## Alarm kinds (R169) -/

/-- The kinds in the order of the alarm table. -/
def allAlarmKinds : List AlarmKind :=
  [.refLoss, .refFailed, .labelMissing, .noReference, .forcedInvalid, .holdover, .holdoverWarn,
   .holdoverBudget, .holdoverUnavailable, .freerun, .timeUnset, .pullLimit, .portSquelched,
   .chainLoss, .chainConflict, .chainTooLong, .noticeOverflow, .profileDefaulted]

/-- The place of a kind in the alarm table. -/
def alarmIndex : AlarmKind → Fin 18
  | .refLoss => 0 | .refFailed => 1 | .labelMissing => 2 | .noReference => 3 | .forcedInvalid => 4
  | .holdover => 5 | .holdoverWarn => 6 | .holdoverBudget => 7 | .holdoverUnavailable => 8
  | .freerun => 9 | .timeUnset => 10 | .pullLimit => 11 | .portSquelched => 12 | .chainLoss => 13
  | .chainConflict => 14 | .chainTooLong => 15 | .noticeOverflow => 16 | .profileDefaulted => 17

/-- The number of entries of a kind (R169). -/
def alarmCount : AlarmKind → Nat
  | .refLoss => 6 | .refFailed => 6 | .labelMissing => 2 | .portSquelched => 12 | .chainLoss => 2
  | .noReference => 1 | .forcedInvalid => 1 | .holdover => 1 | .holdoverWarn => 1
  | .holdoverBudget => 1 | .holdoverUnavailable => 1 | .freerun => 1 | .timeUnset => 1
  | .pullLimit => 1 | .chainConflict => 1 | .chainTooLong => 1 | .noticeOverflow => 1
  | .profileDefaulted => 1

/-! ## Defaults -/

/-- The default severity of a kind (R170). -/
def defaultSeverity : AlarmKind → Severity
  | .holdoverBudget => .critical | .timeUnset => .critical
  | .noReference => .major | .forcedInvalid => .major | .holdoverWarn => .major
  | .holdoverUnavailable => .major | .freerun => .major | .pullLimit => .major
  | .portSquelched => .major | .chainConflict => .major | .profileDefaulted => .major
  | .refLoss => .minor | .refFailed => .minor | .holdover => .minor | .chainLoss => .minor
  | .chainTooLong => .minor
  | .labelMissing => .warning | .noticeOverflow => .warning

/-- The default record of a condition kind (R170). -/
def defaultAlarm (k : AlarmKind) : AlarmConfig :=
  { severity := defaultSeverity k, raiseDelay := 0, clearDelay := 10, latch := false }

/-- The default records of the kinds, in table order. -/
def defaultAlarms : Vector AlarmConfig 18 :=
  ⟨(allAlarmKinds.map defaultAlarm).toArray, rfl⟩

/-- The default reference record of a slot (R19). -/
def defaultReference (s : Slot) : ReferenceConfig :=
  { enabled := match s with
      | .pkt => false | .chain => false | _ => true
    priority := match s with
      | .satA => 1 | .satB => 2 | .lineA => 5 | .lineB => 6 | .pkt => 3 | .chain => 4
    declaredGrade := match s with
      | .satA => some .A | .satB => some .A | .lineA => some .B | .lineB => some .B | _ => none
    floor := match s with
      | .satA => 20000 | .satB => 20000 | .lineA => 50 | .lineB => 50 | .pkt => 50000
      | .chain => 10000
    ceiling := match s with
      | .satA => 640000 | .satB => 640000 | .lineA => 1600 | .lineB => 1600 | .pkt => 1600000
      | .chain => 320000
    immediate := 4
    delayed := 2
    period := 60
    qualify := 10
    waitRestore := 60
    agreement := if isPhase s then some 500000 else none
    nominal := if isLine s then some 10000000 else none
    uLine := if isLine s then some 10 else none
    lockedAllowance := if s = .pkt then some 0 else none }

/-- The default filter configuration (R55). -/
def defaultFilter : FilterConfig := { length := 16, ceiling := 5000000 }

/-- The default selection configuration (R58). -/
def defaultSelection : SelectionConfig :=
  { mode := .auto, revertive := true, minDwell := 0, gradeRanking := true, minGrade := .D }

/-- The default servo configuration (R89). -/
def defaultServo : ServoConfig :=
  { kp := 3, ki := 8, kpAcq := 1, kiAcq := 4, kf := 2, adaptive := true, pullRange := 50000000,
    rampLocked := 5000, rampAcq := 1000000, stepThreshold := 1000000, lockThreshold := 100000,
    lockCount := 10, unlockThreshold := 1000000 }

/-- The default holdover configuration (R111). -/
def defaultHoldover : HoldoverConfig :=
  { guard := 2, average := 16, u0 := 2, aging := 3, drift := 0, eBase := 15000, budget := 1000000,
    warnPercent := 75 }

/-- The default minimum grade of a port type (R116). -/
def defaultMinGrade : PortType → Grade
  | .clock => .E
  | _ => .C

/-- The default port record (R116). -/
def defaultPort : PortConfig :=
  { type := .pulseTod, frequency := 10000000, delayComp := 0, width := 100000000,
    minGrade := defaultMinGrade .pulseTod, policy := .squelch, rearm := 10, stepLimit := 10000,
    jumpTolerance := 10000, enabledAtStart := false }

/-- The default chain configuration (R139). -/
def defaultChain : ChainConfig :=
  { role := .off, linkA := 0, linkB := 0, hop := 30000, holdOff := 2, ignoreCommands := false }

/-- The defaults of every record, attention enabled and F_boot 0 (R181, R188). -/
def defaultProfile : Profile :=
  { refs := PerSlot.of defaultReference
    filter := defaultFilter
    selection := defaultSelection
    servo := defaultServo
    holdover := defaultHoldover
    ports := Vector.replicate 12 defaultPort
    chain := defaultChain
    alarms := defaultAlarms
    attention := true
    fBoot := 0 }

/-! ## Range and consistency tests -/

/-- `n` lies in the range `lo`–`hi`, both ends included. -/
def inRange (lo hi n : Nat) : Bool := decide (lo ≤ n ∧ n ≤ hi)

/-- A field that applies: present and in range. -/
def fieldIn (lo hi : Nat) : Option Nat → Bool
  | some n => inRange lo hi n
  | none => false

/-- The wander range of a slot's kind (R19). -/
def wanderIn (s : Slot) (n : Nat) : Bool :=
  if isLine s then inRange 1 1000000 n else inRange 1000 100000000 n

/-- The reference record without the fields that do not apply to the slot's kind (R19). -/
def normalizeReference (s : Slot) (c : ReferenceConfig) : ReferenceConfig :=
  { c with
    declaredGrade := if isSat s || isLine s then c.declaredGrade else none
    agreement := if isPhase s then c.agreement else none
    nominal := if isLine s then c.nominal else none
    uLine := if isLine s then c.uLine else none
    lockedAllowance := if s = .pkt then c.lockedAllowance else none }

/-- A reference record that SET_REFERENCE accepts for the slot (R19, R20). -/
def referenceOk (s : Slot) (c : ReferenceConfig) : Bool :=
  inRange 0 15 c.priority
  && (!(isSat s || isLine s) || c.declaredGrade.isSome)
  && wanderIn s c.floor && wanderIn s c.ceiling
  && inRange 1 15 c.immediate && inRange 1 15 c.delayed
  && inRange 8 600 c.period && inRange 1 3600 c.qualify && inRange 0 3600 c.waitRestore
  && (!isPhase s || fieldIn 10000 100000000 c.agreement)
  && (!isLine s || fieldIn 1000 100000000 c.nominal)
  && (!isLine s || fieldIn 0 100000 c.uLine)
  && (!decide (s = .pkt) || fieldIn 0 10000000 c.lockedAllowance)
  && decide (c.floor ≤ c.ceiling) && decide (c.delayed ≤ c.immediate)

/-- A filter configuration in range (R55). -/
def filterOk (c : FilterConfig) : Bool :=
  inRange 1 64 c.length && inRange 0 1000000000 c.ceiling

/-- A selection configuration in range (R58). -/
def selectionOk (c : SelectionConfig) : Bool := inRange 0 600 c.minDwell

/-- A servo configuration that SET_SERVO accepts (R89). -/
def servoOk (c : ServoConfig) : Bool :=
  inRange 0 31 c.kp && inRange 0 31 c.ki && decide (c.kp < c.ki)
  && inRange 0 31 c.kpAcq && inRange 0 31 c.kiAcq && decide (c.kpAcq < c.kiAcq)
  && inRange 0 31 c.kf
  && inRange 1000 200000000 c.pullRange
  && inRange 1 1000000 c.rampLocked && inRange 1 1000000 c.rampAcq
  && inRange 100000 100000000 c.stepThreshold
  && inRange 1000 10000000 c.lockThreshold
  && inRange 1 255 c.lockCount
  && inRange 10000 100000000 c.unlockThreshold && decide (c.lockThreshold ≤ c.unlockThreshold)

/-- A holdover configuration in range (R111). -/
def holdoverOk (c : HoldoverConfig) : Bool :=
  inRange 0 8 c.guard && inRange 1 32 c.average && inRange 0 100000 c.u0 && inRange 0 10000 c.aging
  && decide (-1000 ≤ c.drift ∧ c.drift ≤ 1000)
  && inRange 0 1000000000 c.eBase && inRange 0 1000000000 c.budget && inRange 50 100 c.warnPercent

/-- A port record in range (R116). -/
def portOk (c : PortConfig) : Bool :=
  inRange 1 125000000 c.frequency && inRange 0 10000000 c.delayComp && inRange 100 500000000 c.width
  && inRange 0 600 c.rearm && inRange 1 1000000 c.stepLimit && inRange 0 1000000 c.jumpTolerance

/-- A chain configuration in range (R139). -/
def chainOk (c : ChainConfig) : Bool :=
  inRange 0 5000000 c.linkA && inRange 0 5000000 c.linkB && inRange 0 1000000 c.hop
  && inRange 0 30 c.holdOff

/-- An alarm record in range (R170). -/
def alarmOk (c : AlarmConfig) : Bool := inRange 0 60 c.raiseDelay && inRange 0 3600 c.clearDelay

/-- Every record passes the tests of its SET_* request; F_boot is not tested (R188). -/
def profileOk (p : Profile) : Bool :=
  allSlots.all (fun s => referenceOk s (p.refs.get s))
  && filterOk p.filter && selectionOk p.selection && servoOk p.servo && holdoverOk p.holdover
  && p.ports.toList.all portOk && chainOk p.chain && p.alarms.toList.all alarmOk

/-- A good image (R188). -/
def imageGood (i : FlashImage) : Bool := i.markerCorrect && i.checkMatches && profileOk i.profile

end Sys2Proof.Machine
end

