-- ==== Sys2Proof/Machine/Records.lean ====
section
/-!
DEFINITION. What each block holds: the record of every chapter's state table, one structure a
block, and the notices, replies and frames that blocks hand to one another.  Types only.
-/

namespace Sys2Proof.Machine

/-! ## Chapter 1: the time base -/

/-- A SET_TIME waiting for the next boundary (R1, R13). -/
structure PendingSet where
  seconds : Nat
  offset : Option Nat
  deriving DecidableEq, Repr

/-- The time-base record (R1).  `counted` is the time counted since the last marked boundary, which
a step does not change; LINE accumulations read it (R27).  `rem` is the sub-picosecond remainder, in
units of 10^-12 ps (R2).  `landed` is set while the count stands where a step has put it, with nothing
counted since: an emission instant or a clock edge is reached only by counting (R125, R127). -/
structure TimeBase where
  base : Nat
  frac : Nat
  rem : Nat
  counted : Nat
  correction : Int
  timeSet : Bool
  offset : Nat
  leap : Option Leap
  pendingSet : Option PendingSet
  stepCount : Nat
  endOfRange : Bool
  landed : Bool
  deriving DecidableEq, Repr

/-- A step event (R10).  `pending` marks the HOST event of a pending SET_TIME, presented at a marked
boundary (R13, R164). -/
structure StepEvent where
  kind : StepKind
  seconds : Int
  picos : Int
  before : Nat
  after : Nat
  forward : Bool
  pending : Bool
  deriving DecidableEq, Repr

/-! ## Chapter 2: reference monitors -/

/-- The open window of a satellite slot: the boundary it belongs to and the pulses it took (R26). -/
structure SatWindow where
  second : Nat
  pulses : Nat
  deriving DecidableEq, Repr

/-- The edge counter of a LINE slot (R27): time counted since the newest edge, edges since the last
marked boundary, the time since the newest edge as it stood at that boundary (absent when the
interval began without a signal), whether a phase step fell in the interval, and whether the
boundary just marked gave a measurement. -/
structure LineInput where
  sinceEdge : Nat
  edges : Nat
  reference : Option Nat
  stepped : Bool
  fresh : Bool
  deriving DecidableEq, Repr

/-- The Δs mismatch run: a count and its Δs value (R21, R37). -/
structure MismatchRun where
  count : Nat
  value : Int
  deriving DecidableEq, Repr

/-- A slot's monitor: its configuration (R19) and its live record (R21). -/
structure Monitor where
  config : ReferenceConfig
  state : MonitorState
  signal : Bool
  failCause : Option FailCause
  lastE : Option Int
  lastDs : Option Int
  lastFe : Option Int
  level : Nat
  periodCount : Nat
  period : Timer
  totalViolations : Nat
  missing : Nat
  totalMissing : Nat
  mismatch : MismatchRun
  disagree : Nat
  qualify : Timer
  wait : Timer
  lockedOut : Bool
  label : Option Nat
  unlabelled : Nat
  labelMissing : Bool
  carriesTime : Bool
  skipNext : Bool
  declared : Option Grade
  ring : List Int
  line : LineInput
  window : Option SatWindow
  deriving DecidableEq, Repr

/-- A completed measurement (R29): e or fe, Δs and declared grade where the kind carries them, and
the locked allowance of R80 (absent for a LINE slot). -/
structure Measurement where
  value : Int
  ds : Option Int
  grade : Option Grade
  allowance : Option Nat
  deriving DecidableEq, Repr

/-! ## Chapter 3: sample filter -/

/-- An entry of the sample window (R49). -/
structure Sample where
  sequence : Nat
  offset : Int
  delay : Nat
  grade : Grade
  arrival : Nat
  deriving DecidableEq, Repr

/-- The copy of the last measurement formed (R53). -/
structure FilterCopy where
  sequence : Nat
  delay : Nat
  offset : Int
  e : Int
  ds : Int
  second : Nat
  deriving DecidableEq, Repr

/-- The sample filter; the window stands oldest first (R46, R47, R49, R53). -/
structure Filter where
  config : FilterConfig
  window : List Sample
  lastSequence : Option Nat
  accepted : Nat
  old : Nat
  delayHigh : Nat
  disabled : Nat
  lost : Nat
  copy : Option FilterCopy
  deriving DecidableEq, Repr

/-! ## Chapter 4: selector -/

/-- The last switch record (R59). -/
structure SwitchRecord where
  second : Nat
  source : Option Slot
  target : Option Slot
  reason : SwitchReason
  deriving DecidableEq, Repr

/-- The selector (R58, R59). -/
structure Selector where
  config : SelectionConfig
  selected : Option Slot
  dwell : Timer
  pendingSwitch : Option Slot
  saved : Option SelMode
  switchCount : Nat
  lastSwitch : Option SwitchRecord
  deriving DecidableEq, Repr

/-! ## Chapter 5: servo -/

/-- The arithmetic of an update that no step ended (R93): shifts used, P (absent in FREQ_LOCKED),
ΔI, F_target and the two marks. -/
structure UpdateTerms where
  shiftP : Option Nat
  shiftI : Nat
  p : Option Int
  deltaI : Int
  target : Int
  clamped : Bool
  rampLimited : Bool
  deriving DecidableEq, Repr

/-- The last update record (R93). -/
structure UpdateRecord where
  second : Nat
  slot : Slot
  value : Int
  state : ServoState
  terms : Option UpdateTerms
  estimate : Int
  fBefore : Int
  fAfter : Int
  step : Option StepKind
  deriving DecidableEq, Repr

/-- The servo (R75, R89).  F is held by the time base alone. -/
structure Servo where
  config : ServoConfig
  state : ServoState
  followed : Option Slot
  estimate : Int
  lockRun : Nat
  unlockRun : Nat
  replacement : Bool
  clampRun : Nat
  unclampRun : Nat
  pullLimit : Bool
  token : Bool
  allowance : Nat
  lastE : Option Int
  lastFe : Option Int
  updates : Nat
  since : Nat
  lastUpdate : Option UpdateRecord
  deriving DecidableEq, Repr

/-- What the servo reports to the holdover unit after an update: `step` is the kind of the step that
ended it (R80, R93). -/
structure UpdateReport where
  state : ServoState
  slot : Slot
  level : Nat
  estimate : Int
  step : Option StepKind
  deriving DecidableEq, Repr

/-! ## Chapter 6: holdover unit -/

/-- An entry of the frequency history (R97). -/
structure HistoryEntry where
  average : Int
  stamp : Nat
  slot : Slot
  state : ServoState
  level : Nat
  deriving DecidableEq, Repr

/-- The open or the lead part of the minute accumulator (R98). -/
structure MinutePart where
  start : Nat
  count : Nat
  sum : Int
  state : Option ServoState
  slot : Option Slot
  level : Nat
  spoiled : Bool
  deriving DecidableEq, Repr

/-- What the holdover unit hands the ports and the chain with the grade of a second (R110, R130). -/
structure SecondRecord where
  second : Nat
  grade : Grade
  tee : Option Nat
  seconds : Nat
  deriving DecidableEq, Repr

/-- The holdover unit (R96, R111); the history stands newest first.  `recorded` is the latest
recording of R110, whose grade is the grade of the second. -/
structure Holdover where
  config : HoldoverConfig
  history : List HistoryEntry
  openPart : MinutePart
  leadPart : MinutePart
  fh : Option Int
  u : Option Nat
  used : Nat
  e0 : Option Nat
  frozenAging : Nat
  frozenDrift : Int
  n : Nat
  tee : Option Nat
  grade : Grade
  gradeOfSecond : Grade
  recorded : Option SecondRecord
  unavailable : Bool
  deriving DecidableEq, Repr

/-! ## Chapter 7: ports -/

/-- An entry of a port's adjustment queue (R117). -/
structure Adjustment where
  requested : Int
  remainder : Int
  deriving DecidableEq, Repr

/-- The second whose clock edges a CLOCK port gives: the second, the delay and frequency in force at
its aligning edge, the number of the latest rising edge given and, while the pin is high from it, the
reading at which the pin falls, which a step moves as a whole (R127). -/
structure ClockRun where
  second : Nat
  delay : Nat
  frequency : Nat
  last : Nat
  falls : Option Int
  deriving DecidableEq, Repr

/-- The fields of a port time message (R130). -/
structure TimeMessage where
  port : Nat
  sequence : Nat
  second : Nat
  offset : Nat
  leap : Option Leap
  grade : Grade
  tee : Option Nat
  holdover : Nat
  source : Option Slot
  step : Bool
  deriving DecidableEq, Repr

/-- A port: record (R116), live state (R117) and pins.  `pin` is the level of the pulse or clock
pin, `pulseWidth` the width in ns of the pulse the pin is giving, `message` the message the data pin
began last.  `activated` is set when the port became ACTIVE at the marked boundary at which the count
stands or stood last: it does not use the instant at that boundary (R121, R123). -/
structure Port where
  config : PortConfig
  state : PortState
  delay : Nat
  queue : List Adjustment
  lastEmitted : Option Nat
  sequence : Nat
  pendingMessage : Option Nat
  stepSeen : Bool
  suppressNext : Bool
  rearm : Timer
  pin : Bool
  pulseWidth : Option Nat
  clock : Option ClockRun
  message : Option TimeMessage
  activated : Bool
  deriving DecidableEq, Repr

/-! ## Chapter 8: chain unit -/

/-- The per-port record of a chain port (R140).  A capture is a reading in picoseconds since second
0, which a step moves as a whole (R11). -/
structure ChainRecord where
  capture : Option Int
  seen : Bool
  validThisSecond : Bool
  silence : Nat
  loss : Bool
  summary : Option TimeFrame
  checkErrors : Nat
  ownAddress : Nat
  tooLong : Nat
  deriving DecidableEq, Repr

/-- The swap timer with its reason (R140). -/
structure SwapTimer where
  timer : Timer
  reason : PathReason
  deriving DecidableEq, Repr

/-- The last upstream frame: what the member relays (R140). -/
structure UpstreamFrame where
  path : List Nat
  allowance : Nat
  offset : Nat
  leap : Option Leap
  deriving DecidableEq, Repr

/-- A word in the inbox (R156). -/
structure InboxWord where
  word : Word32
  origin : Nat
  second : Nat
  deriving DecidableEq, Repr

/-- What the two chain ports last put out: the second of the marker edge and the frame (R142). -/
structure ChainOutput where
  marker : Option Nat
  frame : Option TimeFrame
  deriving DecidableEq, Repr

/-- A frame whose markers are out and which waits for the grade of its second (R142). -/
structure FrameDue where
  second : Nat
  onA : Bool
  onB : Bool
  deriving DecidableEq, Repr

/-- The chain unit (R138 to R140).  `sendDue` holds the second whose sending waits for the swap
timer's expiry at the same boundary (R146); `frameDue` the frame whose composition waits for the
recording of the grade (R142). -/
structure ChainUnit where
  config : ChainConfig
  role : ChainRole
  address : Nat
  upstream : Option ChainPort
  unattached : Nat
  swap : Option SwapTimer
  portA : ChainRecord
  portB : ChainRecord
  lastUpstream : Option UpstreamFrame
  relayCommand : Option ChainCommand
  relayWord : Option Word32
  overwrites : Nat
  lastSent : Option Nat
  sequence : Nat
  commandSlot : Option ChainCommand
  nextCommand : Nat
  outbox : Option Word32
  inbox : Option InboxWord
  lostWords : Nat
  lastCommand : Option Nat
  conflict : Timer
  tooLong : Timer
  sendDue : Option Nat
  frameDue : Option FrameDue
  outA : ChainOutput
  outB : ChainOutput
  deriving DecidableEq, Repr

/-! ## Chapter 9: scheduler -/

/-- A pending action (R160). -/
structure Action where
  id : Nat
  kind : ActionKind
  due : Nat
  arg : Option Nat
  source : ActionSource
  deriving DecidableEq, Repr

/-- The scheduler; the table stands in table order (R160).  `dueIds` are the ids of the actions that the
boundary being marked has made due and that are not yet taken (R163). -/
structure Scheduler where
  table : List Action
  dueIds : List Nat
  nextId : Nat
  wrapped : Bool
  deriving DecidableEq, Repr

/-! ## Chapter 10: alarm unit -/

/-- An entry of the alarm table (R169). -/
structure AlarmEntry where
  condition : Bool
  state : EntryState
  acknowledged : Bool
  timer : Timer
  raisedAt : Option Nat
  clearedAt : Option Nat
  raiseCount : Nat
  deriving DecidableEq, Repr

/-- A condition kind: its record (R170) and its entries (R169). -/
structure AlarmGroup where
  config : AlarmConfig
  entries : List AlarmEntry
  deriving DecidableEq, Repr

/-- Where the first setting of time came from (R12, R13). -/
inductive TimeSource where
  | slot (s : Slot)
  | host
  deriving DecidableEq, Repr

/-- The detail of a notice, one constructor for each kind of R175. -/
inductive NoticeDetail where
  | alarm (kind : AlarmKind) (state : EntryState) (severity : Severity) (raiseCount : Nat)
  | refSwitch (source target : Option Slot) (reason : SwitchReason) (mode : SelMode)
  | gradeChange (old new : Grade) (servo : ServoState) (tee : Option Nat)
  | servoState (old new : ServoState) (cause : ServoCause) (followed : Option Slot)
  | timeSet (source : TimeSource) (amount : Int)
  | timeStep (kind : StepKind) (seconds picos : Int)
  | leapApplied (dir : LeapDir) (before after : Nat) (clamped : Bool)
  | actionTaken (id : Nat) (kind : ActionKind) (due : Nat) (result : ActionResult)
      (late clamped : Bool)
  | adjustDone (requested applied : Int) (clamped : Bool)
  | portState (old new : PortState) (cause : PortCause)
  | chainPathSwitch (old new : Option ChainPort) (reason : PathReason)
  | chainCommandSent (kind : ChainCommandKind) (target sequence : Nat)
  | chainCommandTaken (kind : ChainCommandKind) (target sequence : Nat) (result : CommandResult)
  | chainCommandIgnored (kind : ChainCommandKind) (target sequence : Nat)
  | wordSent (word : Word32)
  | wordReceived (origin : Nat)
  | wordLost (count : Nat)
  | profileSaved (ok : Bool)
  | overflow (dropped : Nat)
  deriving DecidableEq, Repr

/-- A notice: detail (which gives the kind), number of the thing it concerns, and stamp (R175). -/
structure Notice where
  detail : NoticeDetail
  number : Nat
  stamp : Nat
  deriving DecidableEq, Repr

/-- The alarm unit (R169 to R178), its queue oldest first, and its three output pins. -/
structure AlarmUnit where
  groups : Vector AlarmGroup 18
  queue : List Notice
  dropped : Nat
  attentionOn : Bool
  crit : Bool
  maj : Bool
  attention : Bool
  deriving DecidableEq, Repr

/-! ## Chapter 11: link controller -/

/-- The outcome of a taken request: the status, and the reply contents as octets (R185, R191).
`restart` marks the reply of an accepted RESTART (R190). -/
structure Answer where
  status : Status
  contents : List Byte
  restart : Bool
  deriving DecidableEq, Repr

/-- A reply: the request's kind and tag, and the answer (R184, 11.7). -/
structure Reply where
  kind : Byte
  tag : Byte
  answer : Answer
  deriving DecidableEq, Repr

/-- A request as a frame carries it (R183). -/
structure Request where
  kind : Byte
  tag : Byte
  body : List Byte
  deriving DecidableEq, Repr

/-- What waits behind the transmitter, in order of arrival: a buffered request, or an overrun answer,
which records only tag and kind (R184). -/
inductive Waiting where
  | request (r : Request)
  | overrun (kind tag : Byte)
  deriving DecidableEq, Repr

/-- The link controller (R182 to R190).  The head of `replies` is the reply the transmitter is
sending; `restartDue` is set between the end of a RESTART's reply and the soft restart; `saving` is
the snapshot being written. -/
structure Link where
  mode : LinkMode
  linkErrors : Nat
  overruns : Nat
  replies : List Reply
  waiting : List Waiting
  restartDue : Bool
  defaulted : Bool
  saving : Option Profile
  deriving DecidableEq, Repr

end Sys2Proof.Machine
end

