-- ==== Sys2Proof/Machine/Initial.lean ====
section
/-!
DEFINITION. The state of each block right after pin reset, from the records it is given (R18, R44,
R57, R74, R95, R115, R137, R159, R168, R181, R188).
-/

namespace Sys2Proof.Machine

/-- The time base right after pin reset (R18). -/
def timeAtReset : TimeBase :=
  { base := 0, frac := 0, rem := 0, counted := 0, correction := 0, timeSet := false, offset := 0,
    leap := none, pendingSet := none, stepCount := 0, endOfRange := false,
    landed := false }

/-- An edge counter that has seen nothing. -/
def lineAtReset : LineInput :=
  { sinceEdge := 0, edges := 0, reference := none, stepped := false, fresh := false }

/-- A monitor right after pin reset: DISABLED or ABSENT by its record, every live field at its reset
value (R44).  `lockedOut` is the flag that RESTART keeps. -/
def monitorAtReset (s : Slot) (c : ReferenceConfig) (lockedOut : Bool) : Monitor :=
  { config := c
    state := if c.enabled then .absent else .disabled
    signal := false
    failCause := none
    lastE := none
    lastDs := none
    lastFe := none
    level := 0
    periodCount := 0
    period := Timer.start c.period
    totalViolations := 0
    missing := 0
    totalMissing := 0
    mismatch := { count := 0, value := 0 }
    disagree := 0
    qualify := Timer.stopped
    wait := Timer.stopped
    lockedOut := lockedOut
    label := none
    unlabelled := 0
    labelMissing := false
    carriesTime := c.enabled && decide (s = .pkt ∨ s = .chain)
    skipNext := false
    declared := none
    ring := []
    line := lineAtReset
    window := none }

/-- The sample filter right after pin reset (R57). -/
def filterAtReset (c : FilterConfig) : Filter :=
  { config := c, window := [], lastSequence := none, accepted := 0, old := 0, delayHigh := 0,
    disabled := 0, lost := 0, copy := none }

/-- The selector right after pin reset (R74). -/
def selectorAtReset (c : SelectionConfig) : Selector :=
  { config := c, selected := none, dwell := Timer.stopped, pendingSwitch := none, saved := none,
    switchCount := 0, lastSwitch := none }

/-- The servo's fields at their pin-reset values, with the estimate and the token given (R95). -/
def servoAtReset (c : ServoConfig) (estimate : Int) (token : Bool) : Servo :=
  { config := c, state := .freerun, followed := none, estimate := estimate, lockRun := 0,
    unlockRun := 0, replacement := false, clampRun := 0, unclampRun := 0, pullLimit := false,
    token := token, allowance := 0, lastE := none, lastFe := none, updates := 0, since := 0,
    lastUpdate := none }

/-- An empty part of the minute accumulator (R98). -/
def emptyPart (start : Nat) (spoiled : Bool) : MinutePart :=
  { start := start, count := 0, sum := 0, state := none, slot := none, level := 0,
    spoiled := spoiled }

/-- The holdover unit right after pin reset (R115). -/
def holdoverAtReset (c : HoldoverConfig) : Holdover :=
  { config := c, history := [], openPart := emptyPart 0 false, leadPart := emptyPart 60 false,
    fh := none, u := none, used := 0, e0 := none, frozenAging := 0, frozenDrift := 0, n := 0,
    tee := none, grade := .F, gradeOfSecond := .F, recorded := none, unavailable := false }

/-- A port right after pin reset (R137). -/
def portAtReset (c : PortConfig) : Port :=
  { config := c
    state := if c.enabledAtStart then .armed else .off
    delay := c.delayComp
    queue := []
    lastEmitted := none
    sequence := 0
    pendingMessage := none
    stepSeen := false
    suppressNext := false
    rearm := Timer.stopped
    pin := false
    pulseWidth := none
    clock := none
    message := none
    activated := false }

/-- An empty per-port record (R159). -/
def chainRecordAtReset : ChainRecord :=
  { capture := none, seen := false, validThisSecond := false, silence := 0, loss := false,
    summary := none, checkErrors := 0, ownAddress := 0, tooLong := 0 }

/-- A chain port that has put out nothing. -/
def chainOutputAtReset : ChainOutput := { marker := none, frame := none }

/-- The effective role: the configured role, but OFF with address strap value 7 (R138). -/
def effectiveRole (c : ChainConfig) (address : Nat) : ChainRole :=
  if address = 7 then .off else c.role

/-- The chain unit right after pin reset, with the role and the station address given (R159, R138). -/
def chainAtReset (c : ChainConfig) (role : ChainRole) (address : Nat) : ChainUnit :=
  { config := c, role := role, address := address, upstream := none, unattached := 0, swap := none,
    portA := chainRecordAtReset, portB := chainRecordAtReset, lastUpstream := none,
    relayCommand := none, relayWord := none, overwrites := 0, lastSent := none, sequence := 0,
    commandSlot := none, nextCommand := 0, outbox := none, inbox := none, lostWords := 0,
    lastCommand := none, conflict := Timer.stopped, tooLong := Timer.stopped, sendDue := none,
    frameDue := none, outA := chainOutputAtReset, outB := chainOutputAtReset }

/-- The scheduler right after pin reset (R168). -/
def schedulerAtReset : Scheduler := { table := [], dueIds := [], nextId := 1, wrapped := false }

/-- An alarm entry right after pin reset (R181). -/
def entryAtReset : AlarmEntry :=
  { condition := false, state := .clear, acknowledged := false, timer := Timer.stopped,
    raisedAt := none, clearedAt := none, raiseCount := 0 }

/-- A kind with its record and all its entries at reset (R169, R181). -/
def groupAtReset (c : AlarmConfig) (k : AlarmKind) : AlarmGroup :=
  { config := c, entries := List.replicate (alarmCount k) entryAtReset }

/-- The groups of the alarm table, each with its kind's record. -/
def groupsAtReset (config : AlarmKind → AlarmConfig) : Vector AlarmGroup 18 :=
  ⟨(allAlarmKinds.map (fun k => groupAtReset (config k) k)).toArray, rfl⟩

/-- The alarm unit right after pin reset, contacts and attention line released (R181). -/
def alarmsAtReset (config : AlarmKind → AlarmConfig) (attentionOn : Bool) : AlarmUnit :=
  { groups := groupsAtReset config, queue := [], dropped := 0, attentionOn := attentionOn,
    crit := false, maj := false, attention := false }

/-- The link controller right after pin reset (R188).  That the reply being sent, the replies behind it and a
soft restart that is due are dropped too is the model's choice (log entry 59). -/
def linkAtReset (mode : LinkMode) : Link :=
  { mode := mode, linkErrors := 0, overruns := 0, replies := [], waiting := [],
    restartDue := false, defaulted := false, saving := none }

end Sys2Proof.Machine
end

