-- ==== Sys2Proof/Machine/State.lean ====
section
/-!
DEFINITION. The state of the whole part, block by block, the queue of waiting commands, the state
right after reset, and the reasons a step could stop.
-/

namespace Sys2Proof.Machine

/-- The KT2860: part state, the eleven blocks, the profile flash's image, and the commands that wait,
first in, first out. -/
structure State where
  part : PartState
  time : TimeBase
  refs : PerSlot Monitor
  filter : Filter
  selector : Selector
  servo : Servo
  holdover : Holdover
  ports : Vector Port 12
  chain : ChainUnit
  scheduler : Scheduler
  alarms : AlarmUnit
  link : Link
  flash : Option FlashImage
  pending : List Instr
  deriving DecidableEq, Repr

/-- The reasons a command could stop the part.  The manual names no such event: every command of the
table has its effect, is answered with a status, or finds nothing to do.  So no constructor, and no
meaning can fault. -/
inductive Fault where
  deriving DecidableEq, Repr

/-- The reasons the model could refuse a command. -/
inductive Refusal where
  /-- Raised by exec's arm of a command that has no meaning yet; safe: the model stops. -/
  | notModelled (mnemonic : String)
  deriving DecidableEq, Repr

/-- The part right after the assertion of the reset pin: LOADING, every block at its pin-reset values
(R188), the records at their defaults until a profile is read, no image known in the flash, and no
command waiting (log entries 1, 2). -/
def State.reset : State :=
  { part := .loading
    time := timeAtReset
    refs := PerSlot.of (fun s => monitorAtReset s (defaultReference s) false)
    filter := filterAtReset defaultFilter
    selector := selectorAtReset defaultSelection
    servo := servoAtReset defaultServo 0 false
    holdover := holdoverAtReset defaultHoldover
    ports := Vector.replicate 12 (portAtReset defaultPort)
    chain := chainAtReset defaultChain .off 0
    scheduler := schedulerAtReset
    alarms := alarmsAtReset defaultAlarm true
    link := linkAtReset .spi
    flash := none
    pending := [] }

end Sys2Proof.Machine
end

