-- ==== Sys2Proof/Machine/Ops.lean ====
section
/-!
DEFINITION. The named operations over the state: one setter for each block, readers and writers of
one monitor, port or chain record, and the running of the count (R2).
-/

namespace Sys2Proof.Machine

/-! ## Setters, one for each field -/

/-- The part state replaced. -/
def State.setPart (s : State) (x : PartState) : State := { s with part := x }

/-- The time base replaced. -/
def State.setTime (s : State) (x : TimeBase) : State := { s with time := x }

/-- The monitors replaced. -/
def State.setRefs (s : State) (x : PerSlot Monitor) : State := { s with refs := x }

/-- The sample filter replaced. -/
def State.setFilter (s : State) (x : Filter) : State := { s with filter := x }

/-- The selector replaced. -/
def State.setSelector (s : State) (x : Selector) : State := { s with selector := x }

/-- The servo replaced. -/
def State.setServo (s : State) (x : Servo) : State := { s with servo := x }

/-- The holdover unit replaced. -/
def State.setHoldover (s : State) (x : Holdover) : State := { s with holdover := x }

/-- The ports replaced. -/
def State.setPorts (s : State) (x : Vector Port 12) : State := { s with ports := x }

/-- The chain unit replaced. -/
def State.setChain (s : State) (x : ChainUnit) : State := { s with chain := x }

/-- The scheduler replaced. -/
def State.setScheduler (s : State) (x : Scheduler) : State := { s with scheduler := x }

/-- The alarm unit replaced. -/
def State.setAlarms (s : State) (x : AlarmUnit) : State := { s with alarms := x }

/-- The link controller replaced. -/
def State.setLink (s : State) (x : Link) : State := { s with link := x }

/-- The flash image replaced. -/
def State.setFlash (s : State) (x : Option FlashImage) : State := { s with flash := x }

/-- The queue of waiting commands replaced. -/
def State.setPending (s : State) (x : List Instr) : State := { s with pending := x }

/-! ## One monitor, port or chain record -/

/-- The monitor of a slot. -/
def State.ref (s : State) (k : Slot) : Monitor := s.refs.get k

/-- The monitor of a slot replaced. -/
def State.setRef (s : State) (k : Slot) (m : Monitor) : State := s.setRefs (s.refs.set k m)

/-- A port. -/
def State.port (s : State) (p : Fin 12) : Port := s.ports[p]

/-- A port replaced. -/
def State.setPort (s : State) (p : Fin 12) (x : Port) : State := s.setPorts (s.ports.set p x)

/-- The record of a chain port. -/
def ChainUnit.record (c : ChainUnit) : ChainPort → ChainRecord
  | .a => c.portA
  | .b => c.portB

/-- The record of a chain port replaced. -/
def ChainUnit.setRecord (c : ChainUnit) (p : ChainPort) (r : ChainRecord) : ChainUnit :=
  match p with
  | .a => { c with portA := r }
  | .b => { c with portB := r }

/-- The configured link delay of a chain port (R139). -/
def linkDelay (c : ChainConfig) : ChainPort → Nat
  | .a => c.linkA
  | .b => c.linkB

/-- A chain port is live: seen, and silent for fewer than 3 boundaries (R140). -/
def portLive (r : ChainRecord) : Bool := r.seen && decide (r.silence < 3)

/-! ## The count (R1 to R4) -/

/-- The blocks have started: RUNNING or SAVING (R18, R188). -/
def State.started (s : State) : Bool := decide (s.part ≠ .loading)

/-- The reading, in picoseconds since second 0 (R1). -/
def State.reading (s : State) : Nat := s.time.base * Config.second + s.time.frac

/-- UTC seconds, absent while base seconds is below the offset (R1). -/
def utcSeconds (t : TimeBase) : Option Nat :=
  if t.offset ≤ t.base then some (t.base - t.offset) else none

/-- A LINE slot's edge counter after `k` counted picoseconds (R27). -/
def lineCounted (k : Nat) (m : Monitor) : Monitor :=
  { m with line := { m.line with sinceEdge := m.line.sinceEdge + k } }

/-- The time since the newest edge of both line clocks, `k` counted picoseconds later; a step of the time base
neither adds to it nor takes from it: the model's choice (R27; log entry 15). -/
def refsCounted (k : Nat) (r : PerSlot Monitor) : PerSlot Monitor :=
  { r with lineA := lineCounted k r.lineA, lineB := lineCounted k r.lineB }

/-- At its last instant the count holds, and the end-of-range flag is set (R4). -/
def holdAtEnd (t : TimeBase) : TimeBase :=
  { t with
    endOfRange := t.endOfRange
      || (decide (t.base = Config.maxSeconds) && decide (t.frac = 999999999999)) }

/-- The count advances by `k` whole picoseconds within the running second (R2, R4). -/
def countPicos (k : Nat) (s : State) : State :=
  (s.setTime (holdAtEnd
    { s.time with
      frac := s.time.frac + k, counted := s.time.counted + k, landed := false })).setRefs
    (refsCounted k s.refs)

/-- The count can advance: the blocks have started and the count does not hold at the end of its
range (R4, R18). -/
def counting (s : State) : Bool := s.started && !s.time.endOfRange

/-- The count runs on to fraction `t` of the running second (R2); a fraction that is not ahead of the
count, or not below one second, leaves it where it stands. -/
def runTo (t : Nat) (s : State) : State :=
  if counting s && decide (s.time.frac < t) && decide (t < Config.second) then
    countPicos (t - s.time.frac) s
  else s

/-- Picoseconds by which one nominal picosecond of the oscillator advances the time base, and the
remainder it leaves (R2): the advance is 1 + F × 10^-12 ps, kept in units of 10^-12 ps. -/
def oscillatorAdvance (t : TimeBase) : Nat × Nat :=
  let total := ((t.rem : Int) + 1000000000000 + t.correction).toNat
  (total / 1000000000000, total % 1000000000000)

end Sys2Proof.Machine
end

