-- ==== Sys2Proof/Machine/Octets.lean ====
section
/-!
DEFINITION. Octet encoding (R191): numbers high octet first, two's complement, presence octets, the
check sequence of R183, the codes of named values, and readers of request bodies.
-/

namespace Sys2Proof.Machine

/-! ## Writers -/

/-- `n` octets of a number, high octet first. -/
def putU : Nat → Nat → List Byte
  | 0, _ => []
  | n + 1, v => putU n (v / 256) ++ [BitVec.ofNat 8 v]

/-- `n` octets of a signed number, in two's complement. -/
def putI (n : Nat) (v : Int) : List Byte :=
  putU n (v % ((256 : Int) ^ n)).toNat

/-- One octet of a two-valued field: on, set, present and true are 1. -/
def putB (b : Bool) : List Byte := [if b then 1 else 0]

/-- A field that may be absent: a presence octet, then the field's octets, 0x00 when absent. -/
def putOptU (n : Nat) : Option Nat → List Byte
  | some v => 1 :: putU n v
  | none => 0 :: List.replicate n 0

/-- A signed field that may be absent. -/
def putOptI (n : Nat) : Option Int → List Byte
  | some v => 1 :: putI n v
  | none => 0 :: List.replicate n 0

/-- A field of `n` octets that may be absent, encoded by `f`. -/
def putOpt {α : Type} (n : Nat) (f : α → List Byte) : Option α → List Byte
  | some v => 1 :: f v
  | none => 0 :: List.replicate n 0

/-- A list: one octet holding its number of entries, then the entries. -/
def putList {α : Type} (f : α → List Byte) (l : List α) : List Byte :=
  BitVec.ofNat 8 l.length :: l.flatMap f

/-! ## Codes of named values (R191) -/

/-- The code of a reply status (R185). -/
def statusCode : Status → Byte
  | .ok => 0 | .notReady => 1 | .busy => 2 | .invalid => 3 | .wrongState => 4 | .tooLate => 5
  | .unknownId => 6 | .full => 7 | .notLeader => 8 | .overrun => 9 | .unknownKind => 10

/-- Grades are coded A = 0 to F = 5. -/
def putGrade (g : Grade) : List Byte := [BitVec.ofNat 8 (gradeRank g)]

/-- A slot by its number. -/
def putSlot (s : Slot) : List Byte := [BitVec.ofNat 8 (slotNumber s)]

/-- A slot or none, none being 0xFF. -/
def putSlotOrNone : Option Slot → List Byte
  | some s => putSlot s
  | none => [0xFF]

def putPart : PartState → List Byte
  | .loading => [0] | .running => [1] | .saving => [2]

def putMonitorState : MonitorState → List Byte
  | .disabled => [0] | .absent => [1] | .checking => [2] | .qualified => [3] | .failed => [4]

def putFailCause : FailCause → List Byte
  | .loss => [0] | .wander => [1] | .time => [2] | .disagree => [3] | .outvoted => [4]

def putLeapDir : LeapDir → List Byte
  | .insert => [0] | .delete => [1]

/-- A leap: direction and due second. -/
def putLeap (l : Leap) : List Byte := putLeapDir l.dir ++ putU 6 l.due

/-- A verdict on a sample, coded in the order in which R45 names them, where R47 puts DISABLED first: the
model's choice (log entry 20). -/
def putSampleResult : SampleResult → List Byte
  | .accepted => [0] | .old => [1] | .delayHigh => [2] | .disabled => [3]

/-- A mode octet followed by a slot octet, 0xFF when the mode carries none. -/
def putMode : SelMode → List Byte
  | .auto => [0, 0xFF]
  | .forced s => 1 :: putSlot s
  | .hold => [2, 0xFF]

def putExclusion : Exclusion → List Byte
  | .disabled => [0] | .notQualified => [1] | .lockedOut => [2] | .noGrade => [3]
  | .lowGrade => [4] | .priorityZero => [5] | .notForced => [6] | .hold => [7]

def putSwitchReason : SwitchReason → List Byte
  | .mode => [0] | .failed => [1] | .ineligible => [2] | .available => [3] | .setting => [4]
  | .better => [5] | .dwellEnd => [6]

def putServoState : ServoState → List Byte
  | .freerun => [0] | .acquiring => [1] | .locked => [2] | .freqLocked => [3] | .holdover => [4]

def putServoCause : ServoCause → List Byte
  | .selected => [0] | .replaced => [1] | .deselected => [2] | .noHoldover => [3] | .lock => [4]
  | .unlock => [5] | .firstUpdate => [6]

def putStepKind : StepKind → List Byte
  | .phase => [0] | .seconds => [1] | .host => [2]

def putPortType : PortType → List Byte
  | .pulseTod => [0] | .pulse => [1] | .clock => [2]

def putPolicy : PortPolicy → List Byte
  | .squelch => [0] | .mark => [1]

def putPortState : PortState → List Byte
  | .off => [0] | .armed => [1] | .active => [2] | .squelched => [3] | .held => [4]

def putPortCause : PortCause → List Byte
  | .request => [0] | .action => [1] | .ready => [2] | .grade => [3] | .rearm => [4]

def putRole : ChainRole → List Byte
  | .off => [0] | .leader => [1] | .member => [2]

/-- A chain port's number (R169). -/
def chainPortNumber : ChainPort → Nat
  | .a => 0 | .b => 1

/-- An upstream: a chain port's number, none being 0xFF (R169, R191). -/
def putUpstream : Option ChainPort → List Byte
  | some p => putU 1 (chainPortNumber p)
  | none => [0xFF]

/-- Chain command kinds have the codes of the TIME frame, 1 to 4 (11.7). -/
def putCommandKind : ChainCommandKind → List Byte
  | .hold => [1] | .release => [2] | .leap => [3] | .stepPermit => [4]

/-- A command result, with the id of an entered action where there is one (R153). -/
def putCommandResult : CommandResult → List Byte
  | .applied => 0 :: putOptU 2 none
  | .alreadyHeld => 1 :: putOptU 2 none
  | .notHeld => 2 :: putOptU 2 none
  | .entered id => 3 :: putOptU 2 (some id)
  | .tooLate => 4 :: putOptU 2 none
  | .full => 5 :: putOptU 2 none
  | .invalid => 6 :: putOptU 2 none
  | .granted => 7 :: putOptU 2 none

def putPathReason : PathReason → List Byte
  | .attach => [0] | .loss => [1] | .grade => [2]

def putActionKind : ActionKind → List Byte
  | .leapInsert => [0] | .leapDelete => [1] | .setUtcOffset => [2] | .select => [3]
  | .selectAuto => [4] | .hold => [5] | .release => [6] | .portEnable => [7] | .portDisable => [8]

def putActionSource : ActionSource → List Byte
  | .host => [0] | .chain => [1]

def putActionResult : ActionResult → List Byte
  | .applied => [0] | .alreadyHeld => [1] | .notHeld => [2] | .noChange => [3]

/-- Alarm kinds are coded from 1 in the order of the alarm table. -/
def putAlarmKind (k : AlarmKind) : List Byte := [BitVec.ofNat 8 ((alarmIndex k).val + 1)]

def putSeverity : Severity → List Byte
  | .critical => [0] | .major => [1] | .minor => [2] | .warning => [3] | .notReported => [4]

/-- An entry's state, coded in the order in which R169 lists the five; a notice's new state, one of three of
them, has the same codes: the model's choice (R175, R191; log entry 20). -/
def putEntryState : EntryState → List Byte
  | .clear => [0] | .pendingRaise => [1] | .raised => [2] | .pendingClear => [3] | .latched => [4]

/-! ## The check sequence (R183) -/

/-- One bit of the CRC-16 with generator x^16 + x^12 + x^5 + 1, high bit first. -/
def crcBit (crc : Word16) : Word16 :=
  if crc.msb then (crc <<< 1) ^^^ 0x1021 else crc <<< 1

/-- One octet of the CRC-16. -/
def crcOctet (crc : Word16) (b : Byte) : Word16 :=
  let c := crc ^^^ ((b.setWidth 16) <<< 8)
  crcBit (crcBit (crcBit (crcBit (crcBit (crcBit (crcBit (crcBit c)))))))

/-- The CRC-16 of a list of octets, initial value 0xFFFF, without reflection. -/
def crc16 (l : List Byte) : Word16 := l.foldl crcOctet 0xFFFF

/-- The check octets of a list of octets, high octet first. -/
def checkOctets (l : List Byte) : List Byte := putU 2 (crc16 l).toNat

/-! ## Readers -/

/-- A number from octets, high octet first. -/
def getU (l : List Byte) : Nat := l.foldl (fun a b => a * 256 + b.toNat) 0

/-- A signed number from octets, in two's complement. -/
def getI (l : List Byte) : Int :=
  let v := getU l
  if 2 * v < 256 ^ l.length then (v : Int) else (v : Int) - (256 : Int) ^ l.length

/-- `n` octets from position `k`. -/
def slice (l : List Byte) (k n : Nat) : List Byte := (l.drop k).take n

/-- The octet at position `k`, 0 beyond the end. -/
def octet (l : List Byte) (k : Nat) : Nat := (l.getD k 0).toNat

/-- A reader of the octets of a body: a value and the octets left, or none when the octets give no
value. -/
abbrev Reader (α : Type) := List Byte → Option (α × List Byte)

/-- A reader that consumes nothing. -/
def Reader.pure {α : Type} (a : α) : Reader α := fun l => some (a, l)

/-- One reader after another. -/
def Reader.bind {α β : Type} (r : Reader α) (f : α → Reader β) : Reader β := fun l =>
  match r l with
  | some (a, rest) => f a rest
  | none => none

/-- A value read, if it is one of the values allowed. -/
def Reader.some? {α : Type} : Option α → Reader α
  | some a => Reader.pure a
  | none => fun _ => none

/-- `n` octets as a number. -/
def readU (n : Nat) : Reader Nat := fun l =>
  if n ≤ l.length then some (getU (l.take n), l.drop n) else none

/-- `n` octets as a signed number. -/
def readI (n : Nat) : Reader Int := fun l =>
  if n ≤ l.length then some (getI (l.take n), l.drop n) else none

/-- A two-valued octet: 0 or 1. -/
def boolOf : Nat → Option Bool
  | 0 => some false | 1 => some true | _ => none

/-- A two-valued octet. -/
def readB : Reader Bool := Reader.bind (readU 1) (fun n => Reader.some? (boolOf n))

/-- A named value by its code. -/
def readNamed {α : Type} (f : Nat → Option α) : Reader α :=
  Reader.bind (readU 1) (fun n => Reader.some? (f n))

/-- A presence octet and a field of `n` octets; the octets of an absent field are ignored. -/
def readOptU (n : Nat) : Reader (Option Nat) :=
  Reader.bind readB (fun p => Reader.bind (readU n) (fun v => Reader.pure (if p then some v else none)))

/-- The whole body is read: a body of another length gives no value (R185). -/
def readAll {α : Type} (r : Reader α) (l : List Byte) : Option α :=
  match r l with
  | some (a, []) => some a
  | _ => none

/-! ## Values of codes -/

def gradeOf : Nat → Option Grade
  | 0 => some .A | 1 => some .B | 2 => some .C | 3 => some .D | 4 => some .E | 5 => some .F
  | _ => none

def leapDirOf : Nat → Option LeapDir
  | 0 => some .insert | 1 => some .delete | _ => none

def portTypeOf : Nat → Option PortType
  | 0 => some .pulseTod | 1 => some .pulse | 2 => some .clock | _ => none

def policyOf : Nat → Option PortPolicy
  | 0 => some .squelch | 1 => some .mark | _ => none

def roleOf : Nat → Option ChainRole
  | 0 => some .off | 1 => some .leader | 2 => some .member | _ => none

def commandKindOf : Nat → Option ChainCommandKind
  | 1 => some .hold | 2 => some .release | 3 => some .leap | 4 => some .stepPermit | _ => none

def actionKindOf : Nat → Option ActionKind
  | 0 => some .leapInsert | 1 => some .leapDelete | 2 => some .setUtcOffset | 3 => some .select
  | 4 => some .selectAuto | 5 => some .hold | 6 => some .release | 7 => some .portEnable
  | 8 => some .portDisable | _ => none

/-- The alarm kind of a code from 1; 0 and codes above 18 are no kind. -/
def alarmKindOf (n : Nat) : Option AlarmKind :=
  if n = 0 then none else allAlarmKinds[n - 1]?

def severityOf : Nat → Option Severity
  | 0 => some .critical | 1 => some .major | 2 => some .minor | 3 => some .warning
  | 4 => some .notReported | _ => none

/-- A mode from its mode octet and slot octet; a FORCED slot above 5 is no mode (R72).  With AUTO and HOLD the
slot octet is ignored, where R191 says only that it is 0xFF: the model's choice (log entry 55). -/
def modeOf (m slot : Nat) : Option SelMode :=
  match m with
  | 0 => some .auto
  | 1 => (slotOfNumber slot).map .forced
  | 2 => some .hold
  | _ => none

end Sys2Proof.Machine
end

