-- ==== Sys2Proof/Machine/ChainFrames.lean ====
section
/-!
DEFINITION. The octets of a chain TIME frame: the layout of section 11.7, and what makes a frame well
formed (R141, R191).
-/

namespace Sys2Proof.Machine

/-! ## Layout -/

/-- The sync and end octets of a TIME frame. -/
def frameSync : Byte := 0xC3

def frameEnd : Byte := 0x3C

/-- The flags octet: leap present, leap is delete, word present, command present, command LEAP is
delete, from bit 0 up. -/
def frameFlags (f : TimeFrame) : Nat :=
  let isDelete := fun (l : Option Leap) => decide (l.map Leap.dir = some .delete)
  f.leap.isSome.toNat + 2 * (isDelete f.leap).toNat + 4 * f.word.isSome.toNat
    + 8 * f.command.isSome.toNat
    + 16 * (isDelete (f.command.bind ChainCommand.arg)).toNat

/-- The due second of an optional leap in 6 octets, 0x00 when there is none. -/
def putDue (l : Option Leap) : List Byte := putU 6 ((l.map Leap.due).getD 0)

/-- The path list in 7 octets, unused entries 0xFF. -/
def putPath (path : List Nat) : List Byte :=
  (path.take 7).map (BitVec.ofNat 8) ++ List.replicate (7 - path.length) 0xFF

/-- The origin station: the head of the path list (R141). -/
def frameOrigin (f : TimeFrame) : Nat := f.path.headD 0

/-- The command's four fields in 9 octets, 0x00 when there is none. -/
def putFrameCommand : Option ChainCommand → List Byte
  | some c => putCommandKind c.kind ++ putU 1 c.target ++ putU 1 c.sequence ++ putDue c.arg
  | none => List.replicate 9 0

/-- The octets from flags to command LEAP due second, which the check covers. -/
def frameBody (f : TimeFrame) : List Byte :=
  putU 1 (frameFlags f) ++ putU 1 (frameOrigin f) ++ putU 1 f.path.length ++ putPath f.path
    ++ putU 6 f.second ++ putU 1 f.sequence ++ putGrade f.grade ++ putU 1 f.offset
    ++ putDue f.leap ++ putU 4 f.allowance ++ putU 4 ((f.word.map BitVec.toNat).getD 0)
    ++ putFrameCommand f.command

/-- The 46 octets of a TIME frame. -/
def encodeFrame (f : TimeFrame) : List Byte :=
  frameSync :: frameBody f ++ checkOctets (frameBody f) ++ [frameEnd]

/-! ## Reading -/

/-- Bit `k` of the flags octet. -/
def flagBit (l : List Byte) (k : Nat) : Bool := (octet l 1).testBit k

/-- A leap whose due second stands at position `k`, its direction given by a flag. -/
def leapAt (l : List Byte) (k : Nat) (isDelete : Bool) : Leap :=
  { dir := if isDelete then .delete else .insert, due := getU (slice l k 6) }

/-- The path list: as many entries as the hop count says. -/
def pathOf (l : List Byte) : List Nat := (slice l 4 (octet l 3)).map BitVec.toNat

/-- The path list holds 1 to 7 distinct addresses from 0 to 6, the first of them the origin, and the
unused entries are 0xFF (R141). -/
def pathOk (l : List Byte) : Bool :=
  inRange 1 7 (octet l 3) && (pathOf l).all (fun a => decide (a ≤ 6)) && decide (pathOf l).Nodup
    && decide ((pathOf l).head? = some (octet l 2))
    && (slice l (4 + octet l 3) (7 - octet l 3)).all (fun b => decide (b = 0xFF))

/-- The frame's envelope: its length, sync, end and check (R141), and no unnamed flag bit (R191).  Octets of
another length, or without the sync or the end octet, are a frame that is not well formed: the model's choice
(log entry 23). -/
def envelopeOk (l : List Byte) : Bool :=
  decide (l.length = 46) && decide (l[0]? = some frameSync) && decide (l[45]? = some frameEnd)
    && decide (slice l 43 2 = checkOctets (slice l 1 42)) && decide (octet l 1 < 32)

/-- The command, when the command flag is set; none when its fields are out of range or another kind
than LEAP carries an argument. -/
def commandOf (l : List Byte) : Option ChainCommand :=
  match commandKindOf (octet l 34) with
  | some .leap =>
    if octet l 35 ≤ 7 then
      some { kind := .leap, target := octet l 35, sequence := octet l 36,
             arg := some (leapAt l 37 (flagBit l 4)) }
    else none
  | some k =>
    if octet l 35 ≤ 7 ∧ flagBit l 4 = false ∧ getU (slice l 37 6) = 0 then
      some { kind := k, target := octet l 35, sequence := octet l 36, arg := none }
    else none
  | none => none

/-- The fields of a frame, with the grade and the command as read. -/
def frameOf (l : List Byte) (g : Grade) (c : Option ChainCommand) : TimeFrame :=
  { path := pathOf l
    second := getU (slice l 11 6)
    sequence := octet l 17
    grade := g
    offset := octet l 19
    leap := if flagBit l 0 then some (leapAt l 20 (flagBit l 1)) else none
    allowance := getU (slice l 26 4)
    word := if flagBit l 2 then some (BitVec.ofNat 32 (getU (slice l 30 4))) else none
    command := c }

/-- A well-formed frame's fields; none for a frame that is not well formed (R141). -/
def decodeFrame (l : List Byte) : Option TimeFrame :=
  if envelopeOk l && pathOk l && decide (octet l 17 ≤ 15)
      && decide (getU (slice l 26 4) ≤ Config.maxAllowance) then
    match gradeOf (octet l 18), flagBit l 3 with
    | some g, false => some (frameOf l g none)
    | some g, true => (commandOf l).map (fun c => frameOf l g (some c))
    | none, _ => none
  else none

end Sys2Proof.Machine
end

