-- ==== Sys2Proof/Machine/Alarms.lean ====
section
/-!
DEFINITION. The alarm unit (chapter 10): entry transitions, the notice queue, the contacts and the
attention line, and the two ways every block reports to it: posting a notice and declaring a
condition.
-/

namespace Sys2Proof.Machine

/-! ## Entries -/

/-- The group of a kind. -/
def AlarmUnit.group (u : AlarmUnit) (k : AlarmKind) : AlarmGroup := u.groups[alarmIndex k]

/-- The group of a kind replaced. -/
def AlarmUnit.setGroup (u : AlarmUnit) (k : AlarmKind) (g : AlarmGroup) : AlarmUnit :=
  { u with groups := u.groups.set (alarmIndex k) g }

/-- An entry, absent beyond the kind's entries. -/
def AlarmUnit.entry? (u : AlarmUnit) (k : AlarmKind) (n : Nat) : Option AlarmEntry :=
  (u.group k).entries[n]?

/-- An entry replaced. -/
def AlarmUnit.setEntry (u : AlarmUnit) (k : AlarmKind) (n : Nat) (e : AlarmEntry) : AlarmUnit :=
  u.setGroup k { u.group k with entries := (u.group k).entries.set n e }

/-- An entry after a transition, and the state that an ALARM notice reports, if one is due. -/
abbrev EntryStep := AlarmEntry × Option EntryState

/-- Entry to RAISED from CLEAR, PENDING_RAISE or LATCHED (R171). -/
def enterRaised (now : Nat) (e : AlarmEntry) : EntryStep :=
  ({ e with
      state := .raised
      timer := Timer.stopped
      acknowledged := false
      raiseCount := satSucc 255 e.raiseCount
      raisedAt := some now },
   some .raised)

/-- The end of the clear delay (R172). -/
def endClear (c : AlarmConfig) (now : Nat) (e : AlarmEntry) : EntryStep :=
  if c.latch && !e.acknowledged then
    ({ e with state := .latched, timer := Timer.stopped, clearedAt := some now }, some .latched)
  else
    ({ e with state := .clear, timer := Timer.stopped, clearedAt := some now, acknowledged := false },
     some .clear)

/-- The condition becomes present (R171, R172). -/
def entryAppears (c : AlarmConfig) (now : Nat) (e : AlarmEntry) : EntryStep :=
  let e := { e with condition := true }
  match e.state with
  | .clear =>
    if c.raiseDelay = 0 then enterRaised now e
    else ({ e with state := .pendingRaise, timer := Timer.start c.raiseDelay }, none)
  | .pendingClear => ({ e with state := .raised, timer := Timer.stopped }, none)
  | .latched => enterRaised now e
  | .pendingRaise => (e, none)
  | .raised => (e, none)

/-- The condition goes away (R171, R172). -/
def entryVanishes (c : AlarmConfig) (now : Nat) (e : AlarmEntry) : EntryStep :=
  let e := { e with condition := false }
  match e.state with
  | .pendingRaise => ({ e with state := .clear, timer := Timer.stopped }, none)
  | .raised =>
    if c.clearDelay = 0 then endClear c now e
    else ({ e with state := .pendingClear, timer := Timer.start c.clearDelay }, none)
  | .clear => (e, none)
  | .pendingClear => (e, none)
  | .latched => (e, none)

/-- An owner's declaration; one that changes nothing has no effect (R169, R171, R172). -/
def entryDeclared (present : Bool) (c : AlarmConfig) (now : Nat) (e : AlarmEntry) : EntryStep :=
  if e.condition = present then (e, none)
  else if present then entryAppears c now e
  else entryVanishes c now e

/-- The raise timer expires, if its expiry is due (R171). -/
def entryRaiseExpires (_c : AlarmConfig) (now : Nat) (e : AlarmEntry) : EntryStep :=
  if e.state = .pendingRaise ∧ e.timer.due = true then enterRaised now e else (e, none)

/-- The clear timer expires, if its expiry is due (R172). -/
def entryClearExpires (c : AlarmConfig) (now : Nat) (e : AlarmEntry) : EntryStep :=
  if e.state = .pendingClear ∧ e.timer.due = true then endClear c now e else (e, none)

/-- The host acknowledges the entry (R173). -/
def entryAcknowledged (_c : AlarmConfig) (_now : Nat) (e : AlarmEntry) : EntryStep :=
  match e.state with
  | .raised => ({ e with acknowledged := true }, none)
  | .pendingClear => ({ e with acknowledged := true }, none)
  | .latched => ({ e with state := .clear, acknowledged := false }, some .clear)
  | .clear => (e, none)
  | .pendingRaise => (e, none)

/-- An entry whose timer counts one marked boundary (R169). -/
def entryTick (e : AlarmEntry) : AlarmEntry :=
  if e.state = .pendingRaise ∨ e.state = .pendingClear then { e with timer := e.timer.tick } else e

/-! ## Queue and outputs -/

/-- An entry that holds the contact of its severity (R174). -/
def holdsContact (e : AlarmEntry) : Bool :=
  !e.acknowledged && decide (e.state = .raised ∨ e.state = .pendingClear ∨ e.state = .latched)

/-- The contact of a severity is to be asserted (R174). -/
def contactAsserted (v : Severity) (u : AlarmUnit) : Bool :=
  u.groups.toList.any (fun g => decide (g.config.severity = v) && g.entries.any holdsContact)

/-- The contacts and the attention line re-evaluated (R174, R178). -/
def refreshOutputs (u : AlarmUnit) : AlarmUnit :=
  { u with
    crit := contactAsserted .critical u
    maj := contactAsserted .major u
    attention := !u.queue.isEmpty && u.attentionOn }

/-- A notice joins the queue, or is dropped with NOTICE_OVERFLOW declared present (R175, R176). -/
def postNotice (now : Nat) (n : Notice) (u : AlarmUnit) : AlarmUnit :=
  if u.queue.length < Config.queueSize then { u with queue := u.queue ++ [n] }
  else
    let u := { u with dropped := satSucc Config.count16 u.dropped }
    match u.entry? .noticeOverflow 0 with
    | some e =>
      u.setEntry .noticeOverflow 0
        (entryDeclared true (u.group .noticeOverflow).config now e).1
    | none => u

/-- The ALARM notice of a transition, unless R170 withholds it. -/
def postAlarm (now : Nat) (k : AlarmKind) (n : Nat) (c : AlarmConfig) (r : EntryStep)
    (u : AlarmUnit) : AlarmUnit :=
  match r.2 with
  | some st =>
    if c.severity = .notReported ∨ k = .noticeOverflow then u
    else postNotice now
      { detail := .alarm k st c.severity r.1.raiseCount, number := n, stamp := now } u
  | none => u

/-- A transition of one entry, with its notice. -/
def moveEntry (f : AlarmConfig → Nat → AlarmEntry → EntryStep) (now : Nat) (k : AlarmKind) (n : Nat)
    (u : AlarmUnit) : AlarmUnit :=
  match u.entry? k n with
  | some e =>
    let r := f (u.group k).config now e
    postAlarm now k n (u.group k).config r (u.setEntry k n r.1)
  | none => u

/-- Every entry's timer counts one marked boundary (R169). -/
def tickEntries (u : AlarmUnit) : AlarmUnit :=
  { u with groups := u.groups.map (fun g => { g with entries := g.entries.map entryTick }) }

/-! ## How the other blocks report -/

/-- A notice is posted, stamped with the current base seconds (R175). -/
def State.post (d : NoticeDetail) (number : Nat) (s : State) : State :=
  s.setAlarms (refreshOutputs
    (postNotice s.time.base { detail := d, number := number, stamp := s.time.base } s.alarms))

/-- A transition of one alarm entry, at the current base seconds. -/
def State.moveAlarm (f : AlarmConfig → Nat → AlarmEntry → EntryStep) (k : AlarmKind) (n : Nat)
    (s : State) : State :=
  s.setAlarms (refreshOutputs (moveEntry f s.time.base k n s.alarms))

/-- A condition is declared present or absent by its owner (R169). -/
def State.declare (k : AlarmKind) (n : Nat) (present : Bool) (s : State) : State :=
  s.moveAlarm (entryDeclared present) k n

/-- The entries of every kind, in table order. -/
def allEntries : List (AlarmKind × Nat) :=
  allAlarmKinds.flatMap (fun k => (List.range (alarmCount k)).map (fun n => (k, n)))

end Sys2Proof.Machine
end

