-- ==== Sys2Proof/Machine/Labels.lean ====
section
/-!
DEFINITION. What the action table says of the UTC offset and the leap state (R15, R16, R160, R165).
-/

namespace Sys2Proof.Machine

/-- Table order: by due second, then by id (R160). -/
def actionBefore (a b : Action) : Bool :=
  decide (a.due < b.due) || (decide (a.due = b.due) && decide (a.id < b.id))

/-- An action at its place in table order (R160). -/
def insertAction (a : Action) : List Action → List Action
  | [] => [a]
  | b :: rest => if actionBefore a b then a :: b :: rest else b :: insertAction a rest

/-- The leap an action makes, if it is a leap action. -/
def actionLeap (a : Action) : Option Leap :=
  match a.kind with
  | .leapInsert => some { dir := .insert, due := a.due }
  | .leapDelete => some { dir := .delete, due := a.due }
  | .setUtcOffset => none
  | .select => none
  | .selectAuto => none
  | .hold => none
  | .release => none
  | .portEnable => none
  | .portDisable => none

/-- The earliest leap action in table order (R16). -/
def earliestLeap (table : List Action) : Option Leap := table.findSome? actionLeap

/-- The offset after an action, and whether it saturated (R15, R160). -/
def offsetAfter (a : Action) (offset : Nat) : Nat × Bool :=
  match a.kind with
  | .leapInsert => if offset < 255 then (offset + 1, false) else (255, true)
  | .leapDelete => if 0 < offset then (offset - 1, false) else (0, true)
  | .setUtcOffset => (a.arg.getD offset, false)
  | .select => (offset, false)
  | .selectAuto => (offset, false)
  | .hold => (offset, false)
  | .release => (offset, false)
  | .portEnable => (offset, false)
  | .portDisable => (offset, false)

/-- An action is due at a step (R164); at the HOST step of a pending set only those below its second
are.  An action due at the second of a boundary is among them where a forward step comes within that
boundary before the scheduler acts, and is taken LATE: the model's choice (R163; log entry 54). -/
def dueAtStep (ev : StepEvent) (a : Action) : Bool :=
  ev.forward && (if ev.pending then decide (a.due < ev.after) else decide (a.due ≤ ev.after))

/-- The offset in force with every action that is due and not yet taken applied to it in table order
(R165). -/
def offsetWith (due : Action → Bool) (s : State) : Nat :=
  (s.scheduler.table.filter due).foldl (fun o a => (offsetAfter a o).1) s.time.offset

/-- The UTC offset of second `n`, with the actions whose due second is `n` or before it applied (R165), also
one that entered after the boundary of `n` was marked: DEDUCED (log entry 54). -/
def labelOffset (n : Nat) (s : State) : Nat := offsetWith (fun a => decide (a.due ≤ n)) s

/-- The UTC offset of a label of second `n` composed at a step that carries the count past `n`: the
actions due at the step are by then due (R165). -/
def stepLabelOffset (ev : StepEvent) (n : Nat) (s : State) : Nat :=
  offsetWith (fun a => decide (a.due ≤ n) || dueAtStep ev a) s

/-- The leap indicator of second `n` (R16, R165). -/
def labelLeap (n : Nat) (s : State) : Option Leap :=
  match earliestLeap (s.scheduler.table.filter (fun a => decide (n < a.due))) with
  | some l => if l.due - n ≤ 86400 then some l else none
  | none => none

/-- The leap state follows the earliest pending leap action (R16). -/
def refreshLeap (s : State) : State :=
  s.setTime { s.time with leap := earliestLeap s.scheduler.table }

end Sys2Proof.Machine
end

