-- ==== Sys2Proof/Machine/Ports.lean ====
section
/-!
DEFINITION. The port unit (chapter 7): states, grade policies, time messages, adjustments, and what
a boundary and a step do to a port.
-/

namespace Sys2Proof.Machine

/-! ## States (R118) -/

/-- A port's state changes, with its notice and its PORT_SQUELCHED condition (R118).  PORT_STATE comes before
the notice of that condition's alarm: the model's choice (R175; log entry 49). -/
def portMove (p : Fin 12) (new : PortState) (cause : PortCause) (s : State) : State :=
  let old := (s.port p).state
  if old = new then s
  else
    let s := s.setPort p
      { s.port p with
        state := new
        activated := decide (new = .active ∧ s.time.frac = 0) }
    let s := s.post (.portState old new cause) p.val
    s.declare .portSquelched p.val (decide (new = .squelched))

/-- The re-arm timer is stopped, started or left by a move. -/
def portRearm (p : Fin 12) (t : Timer) (s : State) : State :=
  s.setPort p { s.port p with rearm := t }

/-- What entry to OFF or HELD clears (R120, R135). -/
def portCleared (x : Port) : Port :=
  { x with rearm := Timer.stopped, pendingMessage := none, stepSeen := false, suppressNext := false }

/-- ENABLE_PORT or PORT_ENABLE taken: whether the port moved to ARMED (R119). -/
def portEnable (p : Fin 12) (cause : PortCause) (s : State) : State × Bool :=
  match (s.port p).state with
  | .off => (portMove p .armed cause (portRearm p Timer.stopped s), true)
  | .held => (portMove p .armed cause (portRearm p Timer.stopped s), true)
  | .armed => (s, false)
  | .active => (s, false)
  | .squelched => (s, false)

/-- DISABLE_PORT or PORT_DISABLE taken: whether the port moved to OFF (R120). -/
def portDisable (p : Fin 12) (cause : PortCause) (s : State) : State × Bool :=
  if (s.port p).state = .off then (s, false)
  else (portMove p .off cause (s.setPort p (portCleared (s.port p))), true)

/-! ## Grade policies (R122 to R124) -/

/-- A port judges a grade that the holdover unit presents (R122, R123). -/
def portJudge (g : Grade) (p : Fin 12) (s : State) : State :=
  let x := s.port p
  let meets := gradeMeets g x.config.minGrade
  match x.state with
  | .active =>
    if x.config.policy = .squelch ∧ meets = false then
      portMove p .squelched .grade (portRearm p Timer.stopped s)
    else s
  | .squelched =>
    if meets then
      if x.rearm = Timer.stopped then
        if x.config.rearm = 0 then portMove p .active .rearm s
        else portRearm p (Timer.start x.config.rearm) s
      else s
    else portRearm p Timer.stopped s
  | .off => s
  | .armed => s
  | .held => s

/-- The new grade is presented to the port unit (R109), which goes from port 0 to port 11: the model's choice
(R175; log entry 49). -/
def presentGrade (g : Grade) (s : State) : State :=
  allPorts.foldl (fun s p => portJudge g p s) s

/-- The re-arm timer's expiry, if it is due (R123). -/
def rearmExpires (p : Fin 12) (s : State) : State :=
  if (s.port p).rearm.due then
    let s := portRearm p Timer.stopped s
    if (s.port p).state = .squelched then portMove p .active .rearm s else s
  else s

/-! ## Time messages (R129, R130) -/

/-- The TEE field of a time message, in ns (R130). -/
def messageTee (tee : Option Nat) : Option Nat := tee.map (fun t => min 4294967295 (ceilDiv t 1000))

/-- The time message of second `n` as the port composes it, with the UTC offset of that label
(R130). -/
def timeMessage (p : Fin 12) (r : SecondRecord) (offset : Nat) (s : State) : TimeMessage :=
  { port := p.val
    sequence := (s.port p).sequence
    second := r.second
    offset := offset
    leap := labelLeap r.second s
    grade := r.grade
    tee := messageTee r.tee
    holdover := r.seconds
    source := s.selector.selected
    step := (s.port p).stepSeen }

/-- The pending message is composed and its transmission begins, or it is dropped (R129). -/
def composeMessage (p : Fin 12) (r : SecondRecord) (offset : Nat) (s : State) : State :=
  let x := s.port p
  if x.state = .active then
    s.setPort p
      { x with
        message := some (timeMessage p r offset s)
        sequence := (x.sequence + 1) % 16
        pendingMessage := none
        stepSeen := false }
  else s.setPort p { x with pendingMessage := none }

/-- Each port whose message of this second is pending composes it (R129). -/
def composeRecorded (r : SecondRecord) (s : State) : State :=
  allPorts.foldl
    (fun s p =>
      if (s.port p).pendingMessage = some r.second then
        composeMessage p r (labelOffset r.second s) s
      else s) s

/-- What the labels of second `n` would hold as the holdover unit stands now (R110, R130). -/
def secondRecord (n : Nat) (s : State) : SecondRecord :=
  { second := n
    grade := s.holdover.grade
    tee := s.holdover.tee
    seconds := if s.servo.state = .holdover then s.holdover.n else 0 }

/-! ## Adjustments (R131 to R134) -/

/-- One movement of the head of the queue: the new delay, what is left of the head if it stays, and
what its ADJUST_DONE reports (applied amount, CLAMPED) if it leaves (R132, R134). -/
structure Movement where
  delay : Nat
  stays : Option Adjustment
  done : Option (Int × Bool)
  deriving DecidableEq, Repr

/-- The head moves the delay by at most `limit`, or by its whole remainder without a limit. -/
def moveHead (delay : Nat) (limit : Option Nat) (a : Adjustment) : Movement :=
  let amount := match limit with
    | some l => clampTo l a.remainder
    | none => a.remainder
  let target := (delay : Int) + amount
  if target < 0 ∨ (Config.maxDelay : Int) < target then
    let stop := (max 0 (min (Config.maxDelay : Int) target)).toNat
    { delay := stop
      stays := none
      done := some (a.requested - a.remainder + ((stop : Int) - delay), true) }
  else if amount = a.remainder then
    { delay := target.toNat, stays := none, done := some (a.requested, false) }
  else
    { delay := target.toNat
      stays := some { a with remainder := a.remainder - amount }
      done := none }

/-- A service point of the port's queue (R132, R133). -/
def serveHead (limit : Option Nat) (p : Fin 12) (s : State) : State :=
  let x := s.port p
  match x.queue with
  | [] => s
  | a :: rest =>
    let m := moveHead x.delay limit a
    let s := s.setPort p
      { x with
        delay := m.delay
        queue := match m.stays with
          | some b => b :: rest
          | none => rest }
    match m.done with
    | some d => s.post (.adjustDone a.requested d.1 d.2) p.val
    | none => s

/-! ## Boundaries and steps -/

/-- An ARMED port may start (R121). -/
def portMayStart (s : State) (x : Port) : Bool :=
  decide (x.state = .armed) && s.time.timeSet
    && (decide (x.config.policy = .mark) || gradeMeets s.holdover.grade x.config.minGrade)

/-- A marked boundary reaches a port: a port that is not ACTIVE has its head applied whole, and an
ARMED port judges whether it may start (R121, R133).  ADJUST_DONE is posted before PORT_STATE READY: the
model's choice (R175; log entry 49). -/
def portBoundary (p : Fin 12) (s : State) : State :=
  if (s.port p).state = .active then s
  else
    let s := serveHead none p s
    if portMayStart s (s.port p) then portMove p .active .ready s else s

/-- A marked boundary reaches the port unit, which goes from port 0 to port 11: the model's choice (R175; log
entry 49). -/
def portsBoundary (s : State) : State := allPorts.foldl (fun s p => portBoundary p s) s

/-- The whole amount of a step event, in ps. -/
def eventAmount (ev : StepEvent) : Int := ev.seconds * Config.second + ev.picos

/-- A clock run after a step: the reading at which a high pin falls moves with the count (R127). -/
def movedRun (ev : StepEvent) (c : ClockRun) : ClockRun :=
  { c with falls := c.falls.map (· + eventAmount ev) }

/-- The applied amount of a step, in ps (R128). -/
def stepAmount (ev : StepEvent) : Nat := ev.seconds.natAbs * Config.second + ev.picos.natAbs

/-- A port at a step.  One beyond the jump tolerance of an ACTIVE port sets its flags, and the pin of a
clock is held low until the instant after the suppressed one (R128); else a high clock pin falls as
long after its rise as without the step (R127).  A pulse that is still high on a port which SET_PORT has since
made a CLOCK, and which is ACTIVE again, is cut short by such a step: the model's choice between R126 and R127
(log entry 21). -/
def portStepped (ev : StepEvent) (x : Port) : Port :=
  let x := { x with clock := x.clock.map (movedRun ev) }
  if x.state = .active ∧ x.config.jumpTolerance < stepAmount ev then
    match x.config.type with
    | .clock => { x with suppressNext := true, stepSeen := true, pin := false, clock := none }
    | .pulse => { x with suppressNext := true, stepSeen := true }
    | .pulseTod => { x with suppressNext := true, stepSeen := true }
  else x

/-- The step carries the count past the boundary of second `n` without marking it (R129).  The HOST
step of a pending set takes the place of the marked boundary, whose second is recorded as any. -/
def stepPasses (ev : StepEvent) (n : Nat) : Bool :=
  ev.forward
    && (if ev.pending then decide (ev.before ≤ n) && decide (n < ev.after)
        else decide (ev.before < n) && decide (n ≤ ev.after))

/-- A step event reaches a port: its flags first, then a message whose boundary the step passes, which
so carries the STEP flag; the order is the model's choice (R128 to R130; log entry 46). -/
def portStep (ev : StepEvent) (p : Fin 12) (s : State) : State :=
  let s := s.setPort p (portStepped ev (s.port p))
  match (s.port p).pendingMessage with
  | some n => if stepPasses ev n then composeMessage p (secondRecord n s) (stepLabelOffset ev n s) s
    else s
  | none => s

/-- A step event reaches the port unit (R128, R129). -/
def portsStep (ev : StepEvent) (s : State) : State :=
  allPorts.foldl (fun s p => portStep ev p s) s

end Sys2Proof.Machine
end

