-- ==== Sys2Proof/Machine/Flags.lean ====
section
/-!
DEFINITION. What the manual computes from the state rather than stores: declared grades, levels,
candidates and ranking, the presence of every condition, and the site time grade.
-/

namespace Sys2Proof.Machine

/-! ## Monitors -/

/-- The declared grade in force: configured for SAT and LINE slots, taken from the samples or frames
for PKT and CHAIN (R19). -/
def declaredGrade (k : Slot) (m : Monitor) : Option Grade :=
  match k with
  | .pkt => m.declared
  | .chain => m.declared
  | .satA => m.config.declaredGrade
  | .satB => m.config.declaredGrade
  | .lineA => m.config.declaredGrade
  | .lineB => m.config.declaredGrade

/-- The level ceiling: the largest L from 0 to 7 with floor × 2^L at or below the ceiling (R20). -/
def levelMax (c : ReferenceConfig) : Nat :=
  (((List.range 8).filter (fun l => decide (c.floor * 2 ^ l ≤ c.ceiling))).getLast?).getD 0

/-- The wander limit at a level (R20). -/
def wanderLimit (c : ReferenceConfig) (level : Nat) : Nat := c.floor * 2 ^ level

/-- REF_LOSS: the slot is enabled and its signal is lost (R23). -/
def refLossPresent (m : Monitor) : Bool := decide (m.state ≠ .disabled) && !m.signal

/-- REF_FAILED: from entry to FAILED until the monitor leaves it (R25). -/
def refFailedPresent (m : Monitor) : Bool := decide (m.state = .failed)

/-! ## Candidates and ranking (R60, R61) -/

/-- The first exclusion of R60 that applies; none for a candidate. -/
def exclusion (s : State) (k : Slot) : Option Exclusion :=
  let m := s.ref k
  let c := s.selector.config
  if m.state = .disabled then some .disabled
  else if m.state ≠ .qualified then some .notQualified
  else if m.lockedOut then some .lockedOut
  else
    match declaredGrade k m with
    | none => some .noGrade
    | some g =>
      if !gradeMeets g c.minGrade then some .lowGrade
      else
        match c.mode with
        | .auto => if m.config.priority = 0 then some .priorityZero else none
        | .forced f => if f = k then none else some .notForced
        | .hold => some .hold

/-- A slot is a candidate when no exclusion applies (R60). -/
def candidate (s : State) (k : Slot) : Bool := (exclusion s k).isNone

/-- Candidate `x` ranks above candidate `y` (R61). -/
def ranksAbove (s : State) (x y : Slot) : Bool :=
  let grade := fun k => ((declaredGrade k (s.ref k)).map gradeRank).getD 6
  let priority := fun k => (s.ref k).config.priority
  let byPriority := decide (priority x < priority y)
    || (decide (priority x = priority y) && decide (slotNumber x < slotNumber y))
  if s.selector.config.gradeRanking then
    decide (grade x < grade y) || (decide (grade x = grade y) && byPriority)
  else byPriority

/-- The candidates, by slot number. -/
def candidates (s : State) : List Slot := allSlots.filter (candidate s)

/-- The candidate ranked first (R61). -/
def bestCandidate (s : State) : Option Slot :=
  (candidates s).foldl
    (fun best k =>
      match best with
      | some b => if ranksAbove s k b then some k else some b
      | none => some k)
    none

/-- The rank position of a candidate, 1 for the best (R73). -/
def rankPosition (s : State) (k : Slot) : Nat :=
  1 + ((candidates s).filter (fun j => ranksAbove s j k)).length

/-- NO_REFERENCE (R70). -/
def noReferencePresent (s : State) : Bool :=
  s.selector.selected.isNone && decide (s.selector.config.mode ≠ .hold)

/-- FORCED_INVALID (R70). -/
def forcedInvalidPresent (s : State) : Bool :=
  match s.selector.config.mode with
  | .forced f => !candidate s f
  | .auto => false
  | .hold => false

/-! ## Holdover conditions and grade (R106 to R108) -/

/-- The warning level: B × pct / 100, rounded down (R106). -/
def warningLevel (c : HoldoverConfig) : Nat := c.budget * c.warnPercent / 100

/-- The servo is in one of the two states whose estimate is judged (R106). -/
def estimateJudged (s : State) : Bool :=
  decide (s.servo.state = .holdover ∨ s.servo.state = .freqLocked)

/-- TEE exceeds a threshold; an absent TEE exceeds none. -/
def teeAbove (s : State) (limit : Nat) : Bool :=
  match s.holdover.tee with
  | some t => decide (limit < t)
  | none => false

/-- HOLDOVER_WARN (R106). -/
def holdoverWarnPresent (s : State) : Bool :=
  estimateJudged s && teeAbove s (warningLevel s.holdover.config)

/-- HOLDOVER_BUDGET (R106). -/
def holdoverBudgetPresent (s : State) : Bool :=
  estimateJudged s && teeAbove s s.holdover.config.budget

/-- The declared grade of the followed slot. -/
def followedGrade (s : State) : Option Grade :=
  match s.servo.followed with
  | some k => declaredGrade k (s.ref k)
  | none => none

/-- The grade R108 gives, by the first of its rows that applies; LOCKED without a declared grade leaves the grade as it was. -/
def gradeNow (s : State) : Grade :=
  if s.time.timeSet = false then .F
  else
    match s.servo.state with
    | .locked => (followedGrade s).getD s.holdover.grade
    | .acquiring => .C
    | .holdover =>
      if !teeAbove s (warningLevel s.holdover.config) then .B
      else if !teeAbove s s.holdover.config.budget then .C else .D
    | .freqLocked =>
      if !teeAbove s (warningLevel s.holdover.config) then .B
      else if !teeAbove s s.holdover.config.budget then .C else .D
    | .freerun => .E

/-- The holdover seconds handed to the ports: n in HOLDOVER, 0 otherwise (R96). -/
def holdoverSeconds (s : State) : Nat := if s.servo.state = .holdover then s.holdover.n else 0

/-! ## Chain conditions and roles -/

/-- A member is an island (R147). -/
def isIsland (c : ChainUnit) : Bool := c.upstream.isNone && decide (c.unattached = 3)

/-- CHAIN_CONFLICT: the conflict timer is above 0, or its expiry has not been taken (R143, R145). -/
def conflictPresent (c : ChainUnit) : Bool := decide (0 < c.conflict.left) || c.conflict.due

/-- CHAIN_TOO_LONG (R145). -/
def tooLongPresent (c : ChainUnit) : Bool := decide (0 < c.tooLong.left) || c.tooLong.due

/-! ## Every condition -/

/-- The presence of every condition as its owner states it (R169); the alarm unit's own
NOTICE_OVERFLOW is present while notices have been dropped and not reported (R176, R177). -/
def conditionPresent (s : State) (k : AlarmKind) (n : Nat) : Bool :=
  match k with
  | .refLoss => ((slotOfNumber n).map (fun j => refLossPresent (s.ref j))).getD false
  | .refFailed => ((slotOfNumber n).map (fun j => refFailedPresent (s.ref j))).getD false
  | .labelMissing => ((slotOfNumber n).map (fun j => (s.ref j).labelMissing)).getD false
  | .noReference => noReferencePresent s
  | .forcedInvalid => forcedInvalidPresent s
  | .holdover => decide (s.servo.state = .holdover)
  | .holdoverWarn => holdoverWarnPresent s
  | .holdoverBudget => holdoverBudgetPresent s
  | .holdoverUnavailable => s.holdover.unavailable
  | .freerun => decide (s.servo.state = .freerun)
  | .timeUnset => !s.time.timeSet
  | .pullLimit => s.servo.pullLimit
  | .portSquelched =>
    ((portOfNumber n).map (fun p => decide ((s.port p).state = .squelched))).getD false
  | .chainLoss => if n = 0 then s.chain.portA.loss else if n = 1 then s.chain.portB.loss else false
  | .chainConflict => conflictPresent s.chain
  | .chainTooLong => tooLongPresent s.chain
  | .noticeOverflow => decide (0 < s.alarms.dropped)
  | .profileDefaulted => s.link.defaulted

/-- An owner declares one of its conditions as it now stands. -/
def State.refresh (k : AlarmKind) (n : Nat) (s : State) : State :=
  s.declare k n (conditionPresent s k n)

/-- Several conditions declared one after another. -/
def State.refreshAll (l : List (AlarmKind × Nat)) (s : State) : State :=
  l.foldl (fun s x => s.refresh x.1 x.2) s

end Sys2Proof.Machine
end

