-- ==== Sys2Proof/Machine/Holdover.lean ====
section
/-!
DEFINITION. The holdover unit (chapter 6): the minute accumulator and the history, entry to
HOLDOVER, the time error estimate, the conditions and the grade.
-/

namespace Sys2Proof.Machine

/-! ## The minute accumulator (R98 to R100) -/

/-- A spoiled part: its count and sum become 0, and what else it holds stands (R98). -/
def spoilPart (p : MinutePart) : MinutePart := { p with count := 0, sum := 0, spoiled := true }

/-- A report filed in a part (R98). -/
def filePart (r : UpdateReport) (p : MinutePart) : MinutePart :=
  if p.spoiled then p
  else if r.state = .acquiring ∨ r.step.isSome = true ∨ (p.state.isSome ∧ p.state ≠ some r.state)
      ∨ (p.slot.isSome ∧ p.slot ≠ some r.slot) ∨ 60 ≤ p.count then spoilPart p
  else
    { p with
      count := p.count + 1
      sum := p.sum + r.estimate
      state := some r.state
      slot := some r.slot
      level := max p.level r.level }

/-- A report is filed by its report second, the second of the boundary nearest to the reading (R98).
A report second outside the two minutes, which only a step to before an open part not yet closed can
give, is filed in neither: the model's choice (log entry 45). -/
def fileReport (r : UpdateReport) (reading : Nat) (h : Holdover) : Holdover :=
  let second := nearestSecond reading
  if (h.openPart.start : Int) ≤ second ∧ second ≤ h.openPart.start + 59 then
    { h with openPart := filePart r h.openPart }
  else if second = h.openPart.start + 60 then { h with leadPart := filePart r h.leadPart }
  else h

/-- The accumulator at a switch or a change of servo state (R99). -/
def spoilAtSwitch (h : Holdover) : Holdover :=
  { h with
    openPart := spoilPart h.openPart
    leadPart := if 0 < h.leadPart.count then spoilPart h.leadPart else h.leadPart }

/-- The accumulator at a step, with base seconds as the step left them (R99). -/
def spoilAtStep (base : Nat) (h : Holdover) : Holdover :=
  let m := base / 60 * 60
  { h with openPart := emptyPart m true, leadPart := emptyPart (m + 60) false }

/-- The entry a closed part forms, if it is whole and clean (R100). -/
def historyEntry (p : MinutePart) : Option HistoryEntry :=
  match p.state, p.slot with
  | some st, some k =>
    if p.spoiled = false ∧ p.count = 60 then
      some { average := roundDiv p.sum 60, stamp := p.start, slot := k, state := st, level := p.level }
    else none
  | _, _ => none

/-- An entry joins the ring, the oldest leaving first when it is full (R97). -/
def joinHistory (e : Option HistoryEntry) (l : List HistoryEntry) : List HistoryEntry :=
  match e with
  | some e => (e :: l).take Config.historySize
  | none => l

/-- The minute boundary of second `n` (R100). -/
def closeMinute (n : Nat) (h : Holdover) : Holdover :=
  if h.openPart.start < n then
    { h with
      history := joinHistory (historyEntry h.openPart) h.history
      openPart := { h.leadPart with start := n }
      leadPart := emptyPart (n + 60) false }
  else h

/-! ## The grade (R108, R109) -/

/-- The three conditions that follow the estimate are re-evaluated (R106). -/
def estimateConditions (s : State) : State :=
  s.refreshAll [(.holdover, 0), (.holdoverWarn, 0), (.holdoverBudget, 0)]

/-- The grade is recomputed; a new one is written, noticed and presented to the ports (R109). -/
def recomputeGrade (s : State) : State :=
  let g := gradeNow s
  if g = s.holdover.grade then s
  else
    let old := s.holdover.grade
    let s := s.setHoldover { s.holdover with grade := g }
    let s := s.post (.gradeChange old g s.servo.state s.holdover.tee) 0
    presentGrade g s

/-- The conditions of the estimate, then the grade. -/
def judgeEstimate (s : State) : State := recomputeGrade (estimateConditions s)

/-! ## Entering HOLDOVER (R101, R102) -/

/-- A holdover frequency can be formed: the ring holds G + 1 entries or more (R101). -/
def holdoverAvailable (h : Holdover) : Bool := decide (h.config.guard < h.history.length)

/-- The averages of the entries taken: the next N after the newest G (R101). -/
def entriesTaken (h : Holdover) : List Int :=
  ((h.history.drop h.config.guard).take h.config.average).map (·.average)

/-- The spread of the entries taken: the largest average minus the smallest. -/
def spread (l : List Int) : Nat :=
  match l with
  | [] => 0
  | a :: rest => (rest.foldl max a - rest.foldl min a).toNat

/-- The starting estimate E0 (R102). -/
def startingEstimate (s : State) : Nat :=
  let h := s.holdover
  let fromLast := h.config.eBase + (s.servo.lastE.getD 0).natAbs
  let e := match s.servo.state with
    | .locked => fromLast + s.servo.allowance
    | .freqLocked => h.tee.getD 0
    | .acquiring => max (h.tee.getD 0) fromLast
    | .freerun => fromLast
    | .holdover => fromLast
  min Config.maxTee e

/-- The holdover formed from the ring at the event of the switch (R101). -/
def formHoldover (s : State) : State :=
  let h := s.holdover
  let l := entriesTaken h
  let e0 := startingEstimate s
  s.setHoldover
    { h with
      fh := some (clampTo s.servo.config.pullRange (roundDiv l.sum l.length))
      u := some (min 1000000 (h.config.u0 + ceilDiv (spread l) 2))
      used := l.length
      e0 := some e0
      frozenAging := h.config.aging
      frozenDrift := h.config.drift
      n := 0
      tee := some e0 }

/-! ## The estimate (R103 to R105) -/

/-- What TEE becomes at a change of servo state (R104); HOLDOVER's was formed by R101. -/
def teeAtEntry (s : State) (new : ServoState) : Option Nat :=
  match new with
  | .locked => some s.servo.allowance
  | .acquiring => s.holdover.tee
  | .freqLocked => some s.holdover.config.eBase
  | .holdover => s.holdover.tee
  | .freerun => none

/-- F at the n-th boundary in HOLDOVER (R103). -/
def holdoverF (h : Holdover) (pull n : Nat) : Int :=
  clampTo pull (h.fh.getD 0 + roundDiv (h.frozenDrift * n) 3600)

/-- TEE at the n-th boundary in HOLDOVER (R103). -/
def holdoverTee (h : Holdover) (n : Nat) : Nat :=
  min Config.maxTee (h.e0.getD 0 + h.u.getD 0 * n + ceilDiv (h.frozenAging * n ^ 2) 7200)

/-- One marked boundary in HOLDOVER (R103). -/
def holdoverSecond (s : State) : State :=
  let h := s.holdover
  let n := satSucc 4294967295 h.n
  let s := s.setTime { s.time with correction := holdoverF h s.servo.config.pullRange n }
  let s := s.setHoldover { h with n := n, tee := some (holdoverTee h n) }
  judgeEstimate s

/-- One marked boundary in FREQ_LOCKED (R105). -/
def freqLockedSecond (s : State) : State :=
  let u := match s.servo.followed with
    | some k => ((s.ref k).config.uLine).getD 0
    | none => 0
  let s := s.setHoldover
    { s.holdover with tee := s.holdover.tee.map (fun t => min Config.maxTee (t + u)) }
  judgeEstimate s

/-- The unit's estimate at a marked boundary, by servo state (R103, R105). -/
def estimateSecond (s : State) : State :=
  match s.servo.state with
  | .holdover => holdoverSecond s
  | .freqLocked => freqLockedSecond s
  | .freerun => s
  | .acquiring => s
  | .locked => s

/-- The servo's report of an update (R93): it is filed, and in LOCKED the estimate is rewritten with
the allowance in force (R104). -/
def takeReport (r : UpdateReport) (s : State) : State :=
  let s := s.setHoldover (fileReport r s.reading s.holdover)
  if s.servo.state = .locked then
    judgeEstimate (s.setHoldover { s.holdover with tee := some s.servo.allowance })
  else s

/-- What the holdover unit does at a change of servo state (R99, R104, R106, R107, R109).  The order in which
its conditions reach the alarm unit is the model's choice (R175; log entry 49). -/
def servoEntered (old new : ServoState) (s : State) : State :=
  let h := spoilAtSwitch s.holdover
  let s := s.setHoldover
    { h with
      tee := teeAtEntry s new
      unavailable := if old = .freerun then false else h.unavailable }
  let s := s.refreshAll [(.freerun, 0), (.holdoverUnavailable, 0)]
  judgeEstimate s

/-- A switch reaches the holdover unit: the accumulator is spoiled (R99). -/
def holdoverSwitch (s : State) : State := s.setHoldover (spoilAtSwitch s.holdover)

/-- A step reaches the holdover unit (R99). -/
def holdoverStep (s : State) : State := s.setHoldover (spoilAtStep s.time.base s.holdover)

end Sys2Proof.Machine
end

