-- ==== Sys2Proof/Machine/ServoStates.lean ====
section
/-!
DEFINITION. The servo's states and what a switch does to them (R76 to R79), and the step token (R90).
-/

namespace Sys2Proof.Machine

/-- A function of every monitor. -/
def mapRefs (f : Slot → Monitor → Monitor) (r : PerSlot Monitor) : PerSlot Monitor :=
  PerSlot.of (fun k => f k (r.get k))

/-- The disagreement run of every slot returns to 0 (R38). -/
def resetDisagreement (s : State) : State :=
  s.setRefs (mapRefs (fun _ m => { m with disagree := 0 }) s.refs)

/-- A change of servo state, whatever its cause (R76). -/
def servoEnter (new : ServoState) (cause : ServoCause) (s : State) : State :=
  let old := s.servo.state
  if old = new then s
  else
    let s := s.setServo { s.servo with state := new, since := s.time.base }
    let s := if old = .locked then resetDisagreement s else s
    let s := s.post (.servoState old new cause s.servo.followed) 0
    servoEntered old new s

/-- Both pull runs return to 0 and PULL_LIMIT goes away (R79, R89). -/
def clearPullRuns (s : State) : State :=
  (s.setServo { s.servo with clampRun := 0, unclampRun := 0, pullLimit := false }).refresh
    .pullLimit 0

/-- Both lock runs return to 0. -/
def clearLockRuns (v : Servo) : Servo := { v with lockRun := 0, unlockRun := 0 }

/-- The servo follows a new slot: the replacement flag is cleared (R77). -/
def follow (new : Option Slot) (s : State) : State :=
  s.setServo { s.servo with followed := new, replacement := false }

/-- The switch leaves no slot selected (R79).  PULL_LIMIT goes away before the change of state is noticed: the
model's choice (R175; log entry 49). -/
def servoDeselected (s : State) : State :=
  let available := holdoverAvailable s.holdover
  let s := if available then formHoldover s
    else s.setHoldover { s.holdover with unavailable := true }
  let s := clearPullRuns (s.setServo (clearLockRuns s.servo))
  if available then servoEnter .holdover .deselected s else servoEnter .freerun .noHoldover s

/-- The switch selects a phase slot (R77, R78). -/
def servoToPhase (s : State) : State :=
  match s.servo.state with
  | .freerun =>
    servoEnter .acquiring .selected
      (s.setServo { clearLockRuns s.servo with estimate := s.time.correction })
  | .holdover =>
    servoEnter .acquiring .selected
      (s.setServo { clearLockRuns s.servo with estimate := s.time.correction })
  | .freqLocked => servoEnter .acquiring .selected (s.setServo (clearLockRuns s.servo))
  | .acquiring => s.setServo (clearLockRuns s.servo)
  | .locked => s.setServo { s.servo with replacement := true, unlockRun := 0 }

/-- The switch selects a LINE slot (R77). -/
def servoToLine (s : State) : State :=
  match s.servo.state with
  | .freerun =>
    servoEnter .freqLocked .selected
      (s.setServo { clearLockRuns s.servo with estimate := s.time.correction })
  | .holdover =>
    servoEnter .freqLocked .selected
      (s.setServo { clearLockRuns s.servo with estimate := s.time.correction })
  | .freqLocked => s
  | .acquiring => servoEnter .freqLocked .selected (s.setServo (clearLockRuns s.servo))
  | .locked => servoEnter .freqLocked .selected (s.setServo (clearLockRuns s.servo))

/-- The servo takes a switch that the selector presents (R77). -/
def servoSwitch (new : Option Slot) (s : State) : State :=
  let s := follow new s
  match new with
  | none =>
    match s.servo.state with
    | .freerun => s
    | .holdover => s
    | .acquiring => servoDeselected s
    | .locked => servoDeselected s
    | .freqLocked => servoDeselected s
  | some k => if isLine k then servoToLine s else servoToPhase s

/-- The step token is granted; whether it was already held (R90). -/
def grantToken (s : State) : State × Bool :=
  (s.setServo { s.servo with token := true }, s.servo.token)

end Sys2Proof.Machine
end

