-- ==== Sys2Proof/Machine/Selector.lean ====
section
/-!
DEFINITION. The selector (chapter 4): evaluation by mode, switching, dwell and changes of mode.
-/

namespace Sys2Proof.Machine

/-- What causes an evaluation, for the reason of R69. -/
inductive EvalCause where
  | event | mode | setting | dwell
  deriving DecidableEq, Repr

/-- NO_REFERENCE and FORCED_INVALID as they now stand (R70). -/
def selectorConditions (s : State) : State := s.refreshAll [(.noReference, 0), (.forcedInvalid, 0)]

/-- The reason of a switch away from `old`: the first of R69 that applies. -/
def switchReason (cause : EvalCause) (old : Option Slot) (s : State) : SwitchReason :=
  if cause = .mode then .mode
  else
    match old with
    | none => .available
    | some k =>
      if (s.ref k).state ≠ .qualified then .failed
      else if !candidate s k then .ineligible
      else if cause = .setting then .setting
      else if cause = .dwell then .dwellEnd
      else .better

/-- A switch (R69).  Its notice comes before those of the servo and the holdover unit, and the selector's
conditions after them: the model's choice (R175; log entry 49). -/
def switchTo (new : Option Slot) (cause : EvalCause) (s : State) : State :=
  let old := s.selector.selected
  let reason := switchReason cause old s
  let s := s.setSelector
    { s.selector with
      selected := new
      dwell := Timer.start s.selector.config.minDwell
      pendingSwitch := none
      switchCount := satSucc Config.count16 s.selector.switchCount
      lastSwitch := some { second := s.time.base, source := old, target := new, reason := reason } }
  let s := s.post (.refSwitch old new reason s.selector.config.mode) 0
  let s := resetDisagreement s
  let s := holdoverSwitch s
  let s := servoSwitch new s
  recomputeGrade s

/-- A switch, if the choice differs from the slot selected. -/
def choose (new : Option Slot) (cause : EvalCause) (s : State) : State :=
  if new = s.selector.selected then s else switchTo new cause s

/-- The dwell timer is at 0 and its expiry, if one came, has been taken (R64, R65). -/
def dwellOver (s : State) : Bool := decide (s.selector.dwell = Timer.stopped)

/-- The best candidate is better than the selected one (R61). -/
def betterThan (s : State) (k : Slot) : Option Slot :=
  match bestCandidate s with
  | some b => if ranksAbove s b k then some b else none
  | none => none

/-- An evaluation in AUTO mode (R63, R64, R66). -/
def evaluateAuto (cause : EvalCause) (s : State) : State :=
  match s.selector.selected with
  | none => choose (bestCandidate s) cause s
  | some k =>
    if !candidate s k then choose (bestCandidate s) cause s
    else if s.selector.config.revertive then
      match betterThan s k with
      | some b =>
        if dwellOver s then choose (some b) cause s
        else s.setSelector { s.selector with pendingSwitch := some b }
      | none => s
    else s

/-- The selector evaluates its choice (R62, R63, R67, R68). -/
def evaluate (cause : EvalCause) (s : State) : State :=
  let s := match s.selector.config.mode with
    | .auto => evaluateAuto cause s
    | .forced f => choose (if candidate s f then some f else none) cause s
    | .hold => choose none cause s
  selectorConditions s

/-- A change that the selector is told of, at the event that causes it (R22, R62). -/
def reportToSelector (s : State) : State := evaluate .event s

/-- The dwell timer's expiry, if it is due (R65). -/
def dwellExpires (s : State) : State :=
  if s.selector.dwell.due then
    let s := s.setSelector { s.selector with dwell := Timer.stopped }
    let s := match s.selector.config.mode, s.selector.selected with
      | .auto, some k =>
        if s.selector.config.revertive then
          match betterThan s k with
          | some b => selectorConditions (choose (some b) .dwell s)
          | none => s
        else s
      | _, _ => s
    s.setSelector { s.selector with pendingSwitch := none }
  else s

/-! ## Changes of mode (R68) -/

/-- The mode is written, the pending switch cleared, and the selector evaluates.  A SELECT_AUTO taken in
AUTO, or a SELECT of the slot already forced, counts as a change of mode: the model's choice (log entry
43). -/
def writeMode (mode : SelMode) (saved : Option SelMode) (s : State) : State :=
  evaluate .mode
    (s.setSelector
      { s.selector with
        config := { s.selector.config with mode := mode }
        saved := saved
        pendingSwitch := none })

/-- A HOLD by chain command or scheduled action. -/
def modeHold (s : State) : State × ModeResult :=
  if s.selector.config.mode = .hold then (s, .alreadyHeld)
  else (writeMode .hold (some s.selector.config.mode) s, .applied)

/-- A RELEASE by chain command or scheduled action. -/
def modeRelease (s : State) : State × ModeResult :=
  if s.selector.config.mode = .hold then (writeMode (s.selector.saved.getD .auto) none s, .applied)
  else (s, .notHeld)

/-- A scheduled SELECT. -/
def modeSelect (k : Slot) (s : State) : State := writeMode (.forced k) none s

/-- A scheduled SELECT_AUTO. -/
def modeAuto (s : State) : State := writeMode .auto none s

end Sys2Proof.Machine
end

