-- ==== Sys2Proof/Machine/Monitors.lean ====
section
/-!
DEFINITION. The reference monitors (chapter 2): states, signal and loss, level, the checks that fail
a slot, and the timers' expiries.
-/

namespace Sys2Proof.Machine

/-- One monitor changed. -/
def modRef (k : Slot) (f : Monitor → Monitor) (s : State) : State := s.setRef k (f (s.ref k))

/-- The conditions of a slot as they now stand (R23, R25, R36); those that change at one event are declared in
this order: the model's choice (R175; log entry 49). -/
def monitorConditions (k : Slot) (s : State) : State :=
  let n := slotNumber k
  let s := s.refreshAll [(.refLoss, n), (.refFailed, n)]
  if isSat k then s.refresh .labelMissing n else s

/-! ## Entering a state (R22) -/

/-- A monitor that enters CHECKING is started (R22).  That the wait timer then reads 0 is the model's choice
(log entry 28). -/
def startedMonitor (m : Monitor) : Monitor :=
  { m with
    state := .checking
    level := 0
    periodCount := 0
    period := Timer.start m.config.period
    qualify := Timer.start m.config.qualify
    wait := Timer.stopped
    missing := 0
    mismatch := { count := 0, value := 0 }
    disagree := 0
    failCause := none }

/-- A monitor that enters ABSENT (R22).  No timer runs there; that the qualify and wait timers read 0, while
the level and the period timer stand, is the model's choice (log entry 28). -/
def absentMonitor (k : Slot) (m : Monitor) : Monitor :=
  { m with
    state := .absent
    signal := false
    failCause := none
    lastE := none
    lastDs := none
    lastFe := none
    skipNext := false
    qualify := Timer.stopped
    period := { m.period with due := false }
    wait := Timer.stopped
    label := none
    unlabelled := 0
    labelMissing := false
    carriesTime := decide (k = .pkt ∨ k = .chain)
    declared := none
    ring := []
    line := lineAtReset
    window := none }

/-- A monitor that enters DISABLED, or whose record is written there: every live field at its pin-reset value
but the locked-out flag (R40; the second is log entry 28). -/
def disabledMonitor (k : Slot) (c : ReferenceConfig) (m : Monitor) : Monitor :=
  monitorAtReset k { c with enabled := false } m.lockedOut

/-- The filter when the PKT monitor enters ABSENT or DISABLED (R51). -/
def emptiedFilter (f : Filter) : Filter := { f with window := [], lastSequence := none, copy := none }

/-- The filter follows the PKT monitor into ABSENT or DISABLED (R51). -/
def filterFollows (k : Slot) (s : State) : State :=
  if k = .pkt then s.setFilter (emptiedFilter s.filter) else s

/-- Entry to CHECKING (R22), reported to the selector. -/
def enterChecking (k : Slot) (s : State) : State :=
  reportToSelector (monitorConditions k (modRef k startedMonitor s))

/-- Entry to ABSENT (R22), reported to the selector. -/
def enterAbsent (k : Slot) (s : State) : State :=
  reportToSelector (monitorConditions k (filterFollows k (modRef k (absentMonitor k) s)))

/-- Entry to DISABLED with its record (R40), reported to the selector. -/
def enterDisabled (k : Slot) (c : ReferenceConfig) (s : State) : State :=
  reportToSelector (monitorConditions k (filterFollows k (modRef k (disabledMonitor k c) s)))

/-- A monitor in CHECKING or QUALIFIED. -/
def judging (m : Monitor) : Bool := decide (m.state = .checking ∨ m.state = .qualified)

/-- A monitor that enters FAILED (R25). -/
def failedMonitor (cause : FailCause) (m : Monitor) : Monitor :=
  { m with
    state := .failed
    failCause := some cause
    wait := Timer.start m.config.waitRestore
    qualify := { m.qualify with due := false }
    period := { m.period with due := false } }

/-- A check or a loss fails the slot (R25), reported to the selector. -/
def failSlot (cause : FailCause) (k : Slot) (s : State) : State :=
  if judging (s.ref k) then
    reportToSelector (monitorConditions k (modRef k (failedMonitor cause) s))
  else s

/-! ## Signal and loss (R23) -/

/-- A signal event of the slot's kind arrives (R23). -/
def signalAppears (k : Slot) (s : State) : State :=
  let m := s.ref k
  if m.state = .disabled ∨ m.signal = true then s
  else
    let s := modRef k (fun m => { m with signal := true }) s
    if m.state = .absent then enterChecking k s else monitorConditions k s

/-- Loss is declared (R23): the signal is lost, and a monitor in CHECKING or QUALIFIED fails. -/
def declareLoss (k : Slot) (s : State) : State :=
  if (s.ref k).signal then
    let s := modRef k (fun m => { m with signal := false }) s
    failSlot .loss k (monitorConditions k s)
  else s

/-- One more missing epoch (R26 to R28). -/
def missedEpoch (m : Monitor) : Monitor :=
  { m with
    missing := satSucc Config.count16 m.missing
    totalMissing := satSucc Config.count16 m.totalMissing }

/-- A missing epoch of a kind whose loss is declared at `limit` consecutive ones (R26, R28).  A count above the
limit with the signal present, which a signal that returns in FAILED leaves, declares loss again: the model's
choice (log entry 12). -/
def missEpoch (limit : Nat) (k : Slot) (s : State) : State :=
  let s := modRef k missedEpoch s
  if limit ≤ (s.ref k).missing then declareLoss k s else s

/-- A good epoch. -/
def goodEpoch (k : Slot) (s : State) : State := modRef k (fun m => { m with missing := 0 }) s

/-- The monitor judges epochs: CHECKING, QUALIFIED or FAILED (R26, R28). -/
def judgesEpochs (m : Monitor) : Bool :=
  decide (m.state = .checking ∨ m.state = .qualified ∨ m.state = .failed)

/-! ## Level (R30 to R32) -/

/-- A raise below L_max: the level rises and the period's count returns to 0; in CHECKING the qualify
timer is set back, and an immediate attack sets the period timer back (R31). -/
def raisedMonitor (immediate : Bool) (m : Monitor) : Monitor :=
  { m with
    level := m.level + 1
    periodCount := 0
    qualify := if m.state = .checking then Timer.start m.config.qualify else m.qualify
    period := if immediate then Timer.start m.config.period else m.period }

/-- A raise is demanded (R31). -/
def demandRaise (immediate : Bool) (k : Slot) (s : State) : State :=
  if (s.ref k).level < levelMax (s.ref k).config then modRef k (raisedMonitor immediate) s
  else failSlot .wander k s

/-- A new observation period begins (R32). -/
def newPeriod (m : Monitor) : Monitor :=
  { m with periodCount := 0, period := Timer.start m.config.period }

/-- The level after a period without a violation (R32). -/
def loweredMonitor (m : Monitor) : Monitor := { m with level := m.level - 1 }

/-- The end of the observation period, if it is due (R32).  Where the raise it demands fails the slot at
`L_max`, the count keeps its value, as R25 says, and the period timer stays at 0: the model's choice (log
entry 51). -/
def periodEnds (k : Slot) (s : State) : State :=
  if (s.ref k).period.due && judging (s.ref k) then
    let c := (s.ref k).periodCount
    let s := modRef k (fun m => { m with period := m.period.taken }) s
    let s :=
      if (s.ref k).config.delayed ≤ c then demandRaise false k s
      else if c = 0 then modRef k loweredMonitor s
      else s
    if judging (s.ref k) then modRef k newPeriod s else s
  else s

/-! ## Timers' expiries (R24, R25) -/

/-- The qualify timer's expiry, if it is due (R24). -/
def qualifies (k : Slot) (s : State) : State :=
  if (s.ref k).qualify.due then
    let s := modRef k (fun m => { m with qualify := m.qualify.taken }) s
    if (s.ref k).state = .checking then
      reportToSelector (modRef k (fun m => { m with state := .qualified }) s)
    else s
  else s

/-- The wait timer's expiry, if it is due (R25). -/
def waitEnds (k : Slot) (s : State) : State :=
  if (s.ref k).wait.due then
    let s := modRef k (fun m => { m with wait := m.wait.taken }) s
    if (s.ref k).state = .failed then
      if (s.ref k).signal then enterChecking k s else enterAbsent k s
    else s
  else s

/-! ## A marked boundary (R24, R25, R27, R32) -/

/-- The phase of `n` nominal periods of a line clock, in ps (R27); where the periods are no whole
number of picoseconds, the one above or below is left open (`Config.linePhaseUp`). -/
def periodsPhase (n frequency : Nat) : Nat :=
  let q := n * Config.second / frequency
  if n * Config.second % frequency = 0 then q
  else if Config.linePhaseUp n frequency then q + 1 else q

/-- The accumulation of the interval that ends at a boundary: the phase advance of the line clock
minus the counted advance (R27); absent when the interval began without a signal. -/
def accumulation (counted : Nat) (m : Monitor) : Option Int :=
  match m.line.reference, m.config.nominal with
  | some r0, some f =>
    some ((periodsPhase m.line.edges f : Int) + ((m.line.sinceEdge : Int) - r0) - counted)
  | _, _ => none

/-- An accumulation enters the ring, newest first; the oldest leaves a full ring (R27). -/
def joinRing (a : Int) (ring : List Int) : List Int := (a :: ring).take Config.ringSize

/-- A LINE monitor at a marked boundary: the accumulation of the interval enters the ring unless a
phase step fell in it, and the next interval begins (R27).  A silence of 1 ms in the interval for which no
LINE_LOSS was commanded is no loss here: the model's choice (log entry 47). -/
def lineBoundary (counted : Nat) (m : Monitor) : Monitor :=
  if judgesEpochs m && m.signal then
    let ring := match accumulation counted m with
      | some a => if m.line.stepped then m.ring else joinRing a m.ring
      | none => m.ring
    let fresh := decide (ring.length = Config.ringSize) && !m.line.stepped
      && m.line.reference.isSome
    { m with
      ring := ring
      line := { m.line with
        edges := 0, reference := some m.line.sinceEdge, stepped := false, fresh := fresh } }
  else { m with line := { m.line with edges := 0, reference := none, stepped := false, fresh := false } }

/-- The frequency error of a full ring: the mean of its 16 entries, rounded to nearest (R27). -/
def ringError (m : Monitor) : Int := roundDiv m.ring.sum 16

/-- The qualify timer counts this boundary; a LINE slot's only with a full ring (R24). -/
def qualifyCounts (k : Slot) (m : Monitor) : Bool :=
  !isLine k || decide (m.ring.length = Config.ringSize)

/-- A monitor's timers count one marked boundary (R24, R25, R32). -/
def tickMonitor (k : Slot) (m : Monitor) : Monitor :=
  match m.state with
  | .checking =>
    { m with
      qualify := if qualifyCounts k m then m.qualify.tick else m.qualify
      period := m.period.tick }
  | .qualified => { m with period := m.period.tick }
  | .failed => { m with wait := m.wait.tickToZero }
  | .disabled => m
  | .absent => m

/-- A monitor's own counting at a marked boundary, before any block acts on it. -/
def countMonitor (counted : Nat) (k : Slot) (m : Monitor) : Monitor :=
  tickMonitor k (if isLine k then lineBoundary counted m else m)

/-! ## Steps (R33) -/

/-- A step event reaches a monitor (R27, R33). -/
def monitorStep (ev : StepEvent) (k : Slot) (m : Monitor) : Monitor :=
  match ev.kind with
  | .phase =>
    if isPhase k then { m with skipNext := true }
    else { m with line := { m.line with stepped := true } }
  | .seconds => { m with mismatch := { count := 0, value := 0 } }
  | .host => { m with mismatch := { count := 0, value := 0 } }

/-- The window the count stands in: that of the nearest boundary (R6, R26). -/
def windowOf (reading : Nat) : Nat := (nearestSecond reading).toNat

/-- A step that leaves a satellite window gives it up unjudged, and opens the one the count then
stands in, empty: windows follow the count (R26). -/
def windowStep (now : Nat) (m : Monitor) : Monitor :=
  match m.window with
  | some w =>
    if w.second = now then m else { m with window := some { second := now, pulses := 0 } }
  | none => m

/-- A step event reaches the monitors (R26, R33). -/
def monitorsStep (ev : StepEvent) (s : State) : State :=
  s.setRefs (mapRefs (fun k m => windowStep (windowOf s.reading) (monitorStep ev k m)) s.refs)

/-! ## Agreement (R39) -/

/-- The non-selected QUALIFIED phase slots whose disagreement run is 5 or more. -/
def disagreeing (s : State) : List Slot :=
  allSlots.filter (fun k =>
    isPhase k && decide (s.selector.selected ≠ some k) && decide ((s.ref k).state = .qualified)
      && decide (5 ≤ (s.ref k).disagree))

/-- Two slots agree with each other within the smaller of their limits. -/
def agreePair (s : State) (x y : Slot) : Bool :=
  match (s.ref x).lastE, (s.ref y).lastE, (s.ref x).config.agreement, (s.ref y).config.agreement with
  | some ex, some ey, some lx, some ly => decide (x ≠ y) && decide ((ex - ey).natAbs ≤ min lx ly)
  | _, _, _, _ => false

/-- The judgement of agreement at a marked boundary (R39).  Several slots without an agreeing pair fail in
the order of their numbers: the model's choice (R175; log entry 49). -/
def agreementJudge (s : State) : State :=
  if s.servo.state = .locked then
    let l := disagreeing s
    if l.any (fun x => l.any (fun y => agreePair s x y)) then
      match s.selector.selected with
      | some k => resetDisagreement (failSlot .outvoted k s)
      | none => s
    else l.foldl (fun s k => failSlot .disagree k s) s
  else s

end Sys2Proof.Machine
end

