-- ==== Sys2Proof/Machine/Scheduler.lean ====
section
/-!
DEFINITION. The action scheduler (chapter 9): entering an action, taking the due ones, and cancelling.
-/

namespace Sys2Proof.Machine

/-! ## Entering (R160 to R162) -/

/-- The argument of a kind is as R160 has it: in range where the kind takes one, absent where not. -/
def argumentOk : ActionKind → Option Nat → Bool
  | .setUtcOffset, some n => inRange 0 255 n
  | .select, some n => inRange 0 5 n
  | .portEnable, some n => inRange 0 11 n
  | .portDisable, some n => inRange 0 11 n
  | .setUtcOffset, none => false
  | .select, none => false
  | .portEnable, none => false
  | .portDisable, none => false
  | .leapInsert, arg => arg.isNone
  | .leapDelete, arg => arg.isNone
  | .selectAuto, arg => arg.isNone
  | .hold, arg => arg.isNone
  | .release, arg => arg.isNone

/-- An id is held by an action still pending. -/
def idPending (table : List Action) (id : Nat) : Bool := table.any (fun a => decide (a.id = id))

/-- The id after `id`, and whether it came round (R162). -/
def idAfter (id : Nat) : Nat × Bool := if id < 65535 then (id + 1, false) else (1, true)

/-- The next id past every pending id it meets, and whether the counter came round on the way; the
table's length bounds the ids it can meet (R162). -/
def freeId (table : List Action) : Nat → Nat × Bool → Nat × Bool
  | 0, p => p
  | fuel + 1, p =>
    if idPending table p.1 then
      freeId table fuel ((idAfter p.1).1, p.2 || (idAfter p.1).2)
    else p

/-- The answer of the four tests of R161. -/
inductive EntryResult where
  | invalid | tooLate | full
  | entered (id : Nat)
  deriving DecidableEq, Repr

/-- A scheduler whose table takes an action at its place in table order, with the next id (R162). -/
def joinTable (k : ActionKind) (due : Nat) (arg : Option Nat) (source : ActionSource)
    (c : Scheduler) : Scheduler × Nat :=
  let p := freeId c.table c.table.length (c.nextId, c.wrapped)
  ({ c with
      table := insertAction { id := p.1, kind := k, due := due, arg := arg, source := source } c.table
      nextId := (idAfter p.1).1
      wrapped := p.2 || (idAfter p.1).2 }, p.1)

/-- An action is judged and, when no test refuses it, enters the table (R161). -/
def enterAction (kind : Option ActionKind) (due : Nat) (arg : Option Nat) (source : ActionSource)
    (s : State) : State × EntryResult :=
  match kind with
  | none => (s, .invalid)
  | some k =>
    if Config.maxSeconds < due ∨ argumentOk k arg = false then (s, .invalid)
    else if due ≤ s.time.base + 1 then (s, .tooLate)
    else if Config.tableSize ≤ s.scheduler.table.length then (s, .full)
    else
      let p := joinTable k due arg source s.scheduler
      (refreshLeap (s.setScheduler p.1), .entered p.2)

/-! ## Taking (R163, R164) -/

/-- The result that a change of mode reports. -/
def actionResultOf : ModeResult → ActionResult
  | .applied => .applied
  | .alreadyHeld => .alreadyHeld
  | .notHeld => .notHeld

/-- The selector's answer to an action, with no CLAMPED mark. -/
def byMode (r : State × ModeResult) : State × ActionResult × Bool := (r.1, actionResultOf r.2, false)

/-- The port unit's answer to an action (R119, R120). -/
def byPort (f : Fin 12 → State → State × Bool) (arg : Option Nat) (s : State) :
    State × ActionResult × Bool :=
  match portOfNumber (arg.getD 0) with
  | some p =>
    let r := f p s
    (r.1, if r.2 then .applied else .noChange, false)
  | none => (s, .noChange, false)

/-- The time base writes the UTC offset of an action (R15). -/
def byOffset (a : Action) (s : State) : State × ActionResult × Bool :=
  let o := offsetAfter a s.time.offset
  (s.setTime { s.time with offset := o.1 }, .applied, o.2)

/-- The owning block takes the action: its result and the CLAMPED mark (R160, R163). -/
def takeEffect (a : Action) (s : State) : State × ActionResult × Bool :=
  match a.kind with
  | .leapInsert => byOffset a s
  | .leapDelete => byOffset a s
  | .setUtcOffset => byOffset a s
  | .select =>
    match slotOfNumber (a.arg.getD 0) with
    | some k => (modeSelect k s, .applied, false)
    | none => (s, .noChange, false)
  | .selectAuto => (modeAuto s, .applied, false)
  | .hold => byMode (modeHold s)
  | .release => byMode (modeRelease s)
  | .portEnable => byPort (fun p s => portEnable p .action s) a.arg s
  | .portDisable => byPort (fun p s => portDisable p .action s) a.arg s

/-- The action leaves the table, and the leap state follows (R163). -/
def removeAction (id : Nat) (s : State) : State :=
  refreshLeap (s.setScheduler
    { s.scheduler with
      table := s.scheduler.table.filter (fun a => decide (a.id ≠ id))
      dueIds := s.scheduler.dueIds.filter (fun i => decide (i ≠ id)) })

/-- One due action is taken (R163, steps 1 to 4). -/
def takeAction (late : Bool) (s : State) (a : Action) : State :=
  let s := removeAction a.id s
  let before := s.time.offset
  let r := takeEffect a s
  let s := match actionLeap a with
    | some l => r.1.post (.leapApplied l.dir before r.1.time.offset r.2.2) 0
    | none => r.1
  s.post (.actionTaken a.id a.kind a.due r.2.1 late r.2.2) 0

/-- The boundary of second `n` is marked: every action pending then whose due second is `n` becomes due, and
none that enters after it (R163). -/
def markDue (n : Nat) (s : State) : State :=
  s.setScheduler
    { s.scheduler with
      dueIds := (s.scheduler.table.filter (fun a => decide (a.due = n))).map Action.id }

/-- An action is due at the boundary being marked (R163). -/
def isDue (c : Scheduler) (a : Action) : Bool := c.dueIds.contains a.id

/-- The actions that the marked boundary has made due are taken in table order (R163). -/
def boundaryActions (s : State) : State :=
  (s.scheduler.table.filter (isDue s.scheduler)).foldl (takeAction false) s

/-- A step event reaches the scheduler (R164). -/
def schedulerStep (ev : StepEvent) (s : State) : State :=
  (s.scheduler.table.filter (dueAtStep ev)).foldl (takeAction true) s

/-! ## Cancelling (R166) -/

/-- An id is issued (R162). -/
def idIssued (c : Scheduler) (id : Nat) : Bool := c.wrapped || decide (id < c.nextId)

end Sys2Proof.Machine
end

