-- ==== Sys2Proof/Machine/Steps.lean ====
section
/-!
DEFINITION. Steps of the time base (R7 to R13): what a step writes, how it is presented to every
block, the first setting of time, and the HOST step of a SET_TIME.
-/

namespace Sys2Proof.Machine

/-! ## Presenting a step (R10, R11, R50) -/

/-- A held capture is moved by a step (R11). -/
def movedRecord (amount : Int) (r : ChainRecord) : ChainRecord :=
  { r with capture := r.capture.map (· + amount) }

/-- A step event reaches the chain unit: it moves every held capture (R11). -/
def chainStep (ev : StepEvent) (c : ChainUnit) : ChainUnit :=
  { c with
    portA := movedRecord (eventAmount ev) c.portA
    portB := movedRecord (eventAmount ev) c.portB }

/-- The greatest magnitude of a sample's offset, in ps (R47, R50). -/
def maxOffset : Nat := 9000000000000000000

/-- A window entry after a step; one that leaves the range leaves the window (R50). -/
def movedSample (ev : StepEvent) (x : Sample) : Option Sample :=
  let offset := x.offset - eventAmount ev
  let arrival := (x.arrival : Int) + ((ev.after : Int) - ev.before)
  if offset.natAbs ≤ maxOffset ∧ 0 ≤ arrival then
    some { x with offset := offset, arrival := arrival.toNat }
  else none

/-- A step event reaches the sample filter (R50). -/
def filterStep (ev : StepEvent) (f : Filter) : Filter :=
  { f with window := f.window.filterMap (movedSample ev) }

/-- A step event is presented to every block that receives boundaries, in an order that the model
chooses (R10; log entry 10). -/
def presentStep (ev : StepEvent) (s : State) : State :=
  let s := s.setChain (chainStep ev s.chain)
  let s := s.setFilter (filterStep ev s.filter)
  let s := monitorsStep ev s
  let s := holdoverStep s
  let s := portsStep ev s
  schedulerStep ev s

/-! ## Performing a step (R7 to R9) -/

/-- A reading clamped to the range of the time base (R9). -/
def clampReading (r : Int) : Nat := (max 0 (min (Config.lastInstant : Int) r)).toNat

/-- The time base at another reading; at the last instant of the range it holds (R4, R9). -/
def timeAt (reading : Nat) (t : TimeBase) : TimeBase :=
  { t with
    base := reading / Config.second
    frac := reading % Config.second
    endOfRange := decide (reading = Config.lastInstant)
    landed := t.landed || decide (reading ≠ t.base * Config.second + t.frac) }

/-- The amount that a step asked for applies (R9). -/
def appliedAmount (amount : Int) (s : State) : Int :=
  (clampReading ((s.reading : Int) + amount) : Int) - s.reading

/-- The time base moved by a step, clamped (R7 to R9). -/
def moveTime (amount : Int) (s : State) : State :=
  s.setTime (timeAt (clampReading ((s.reading : Int) + amount)) s.time)

/-- The step event of a move, from the state before it (R10). -/
def stepEvent (kind : StepKind) (amount : Int) (s : State) : StepEvent :=
  let applied := appliedAmount amount s
  { kind := kind
    seconds := applied.tdiv Config.second
    picos := applied.tmod Config.second
    before := s.time.base
    after := (moveTime amount s).time.base
    forward := decide (0 < applied)
    pending := false }

/-- A counted step: it is counted, noticed and presented, and it consumes the step token (R10, R91);
one of applied amount zero is no step (R9). -/
def performStep (kind : StepKind) (amount : Int) (s : State) : State :=
  if appliedAmount amount s = 0 then s
  else
    let ev := stepEvent kind amount s
    let s := moveTime amount s
    let s := s.setTime { s.time with stepCount := satSucc Config.count16 s.time.stepCount }
    let s := s.setServo { s.servo with token := false }
    let s := s.post (.timeStep kind ev.seconds ev.picos) 0
    presentStep ev s

/-! ## Setting the time (R12, R13) -/

/-- The time-set flag has been set: TIME_UNSET goes away and then the grade is recomputed (R107, R109): their
order is the model's choice (log entry 10). -/
def timeGiven (s : State) : State := recomputeGrade (s.refresh .timeUnset 0)

/-- The first setting of time by a measurement of the selected slot (R12).  Where the clamp of R9 leaves no
whole number of seconds, the notice carries the whole seconds of the applied amount, rounded toward 0, and
the step event the picoseconds too: the model's choice (log entry 56). -/
def timeSetting (k : Slot) (ds : Int) (s : State) : State :=
  let ev := stepEvent .seconds (ds * Config.second) s
  let s := moveTime (ds * Config.second) s
  let s := s.setTime { s.time with timeSet := true, pendingSet := none }
  let s := s.post (.timeSet (.slot k) ev.seconds) 0
  let s := timeGiven s
  if ev.seconds = 0 ∧ ev.picos = 0 then s else presentStep ev s

/-- The HOST event of a pending set that gives a boundary its second `n` in place of `old` + 1
(R13). -/
def pendingEvent (old n : Nat) : StepEvent :=
  { kind := .host
    seconds := (n : Int) - (old + 1)
    picos := 0
    before := old + 1
    after := n
    forward := decide (old + 1 < n)
    pending := true }

end Sys2Proof.Machine
end

