-- ==== Sys2Proof/Machine/Servo.lean ====
section
/-!
DEFINITION. The servo's hand-off and its update (R78, R80 to R88, R93).
-/

namespace Sys2Proof.Machine

/-! ## Arithmetic (R83, R84, R87) -/

/-- A shift with the widening of the adaptive setting, capped at 31 (R83). -/
def capShift (n : Nat) : Nat := min 31 n

/-- The proportional and integral shifts of an update in ACQUIRING or LOCKED (R83). -/
def phaseShifts (c : ServoConfig) (state : ServoState) (level : Nat) : Nat × Nat :=
  if state = .acquiring then (c.kpAcq, c.kiAcq)
  else if c.adaptive then (capShift (c.kp + level), capShift (c.ki + 2 * level))
  else (c.kp, c.ki)

/-- `x / 2^k` rounded to nearest, ties away from zero. -/
def shiftTerm (x : Int) (k : Nat) : Int := roundDiv x (2 ^ k)

/-- The ramp limit of a servo state (R76). -/
def rampLimit (c : ServoConfig) (state : ServoState) : Nat :=
  if state = .acquiring then c.rampAcq else c.rampLocked

/-- F after one update toward its target, and whether the ramp limited it (R84). -/
def rampTo (ramp : Nat) (f target : Int) : Int × Bool :=
  (f + clampTo ramp (target - f), decide (ramp < (target - f).natAbs))

/-- What an update without a step computes: the new I and F, and the terms it records. -/
structure Move where
  estimate : Int
  correction : Int
  terms : UpdateTerms
  deriving DecidableEq, Repr

/-- I and F moved by a proportional term and an integral step (R84, R87). -/
def moveLoop (c : ServoConfig) (ramp : Nat) (i f : Int) (shiftP : Option Nat) (shiftI : Nat)
    (p : Option Int) (deltaI : Int) : Move :=
  let i' := clampTo c.pullRange (i + deltaI)
  let target := clampTo c.pullRange (i' + p.getD 0)
  let r := rampTo ramp f target
  { estimate := i'
    correction := r.1
    terms :=
      { shiftP := shiftP
        shiftI := shiftI
        p := p
        deltaI := deltaI
        target := target
        clamped := decide (c.pullRange < (i + deltaI).natAbs)
        rampLimited := r.2 } }

/-- The move of an update in ACQUIRING or LOCKED (R83, R84). -/
def phaseMove (c : ServoConfig) (state : ServoState) (level : Nat) (e i f : Int) : Move :=
  let k := phaseShifts c state level
  moveLoop c (rampLimit c state) i f (some k.1) k.2 (some (shiftTerm e k.1)) (shiftTerm e k.2)

/-- The move of an update in FREQ_LOCKED (R87). -/
def freqMove (c : ServoConfig) (fe i f : Int) : Move :=
  moveLoop c c.rampLocked i f none c.kf none (shiftTerm fe c.kf)

/-- The move is written: I, and F to the time base (R84). -/
def writeMove (m : Move) (s : State) : State :=
  (s.setServo { s.servo with estimate := m.estimate }).setTime
    { s.time with correction := m.correction }

/-! ## The pull-limit run (R85, R88) -/

/-- The runs after a clamped update. -/
def clampedRuns (v : Servo) : Servo :=
  let n := satSucc 60 v.clampRun
  { v with clampRun := n, unclampRun := 0, pullLimit := v.pullLimit || decide (n = 60) }

/-- The runs after an unclamped update. -/
def unclampedRuns (v : Servo) : Servo :=
  if v.pullLimit then
    let n := satSucc 60 v.unclampRun
    if n = 60 then { v with clampRun := 0, unclampRun := 0, pullLimit := false }
    else { v with clampRun := 0, unclampRun := n }
  else { v with clampRun := 0, unclampRun := 0 }

/-- The runs count an update, and PULL_LIMIT is declared as it now stands (R88). -/
def countPull (clamped : Bool) (s : State) : State :=
  (s.setServo (if clamped then clampedRuns s.servo else unclampedRuns s.servo)).refresh .pullLimit 0

/-! ## The lock judgement (R86) -/

/-- The lock judgement of an update made in ACQUIRING. -/
def judgeAcquiring (e : Int) (s : State) : State :=
  let c := s.servo.config
  if e.natAbs ≤ c.lockThreshold then
    let n := satSucc 255 s.servo.lockRun
    if c.lockCount ≤ n then servoEnter .locked .lock (s.setServo (clearLockRuns s.servo))
    else s.setServo { s.servo with lockRun := n }
  else s.setServo { s.servo with lockRun := 0 }

/-- The lock judgement of an update made in LOCKED. -/
def judgeLocked (e : Int) (s : State) : State :=
  if s.servo.config.unlockThreshold < e.natAbs then
    let n := satSucc 3 s.servo.unlockRun
    if 3 ≤ n then servoEnter .acquiring .unlock (s.setServo (clearLockRuns s.servo))
    else s.setServo { s.servo with unlockRun := n }
  else s.setServo { s.servo with unlockRun := 0 }

/-! ## The update (R78, R81, R82, R87) -/

/-- What an update leaves: the state, the servo state it was made in, its terms and the kind of the
step that ended it. -/
structure Update where
  result : State
  made : ServoState
  terms : Option UpdateTerms
  step : Option StepKind
  deriving DecidableEq, Repr

/-- The first update from a slot that replaced another while LOCKED decides the state (R78). -/
def firstUpdate (e : Int) (s : State) : State :=
  if s.servo.replacement then
    let s := s.setServo { s.servo with replacement := false }
    if s.servo.state = .locked ∧ s.servo.config.lockThreshold < e.natAbs then
      servoEnter .acquiring .firstUpdate (s.setServo { s.servo with lockRun := 0 })
    else s
  else s

/-- An update that the step check ends with a phase step of `e` (R82). -/
def phaseStepUpdate (e : Int) (s : State) : Update :=
  let made := s.servo.state
  let stepped := decide (appliedAmount e s ≠ 0)
  { result := performStep .phase e (s.setServo (clearLockRuns s.servo))
    made := made
    terms := none
    step := if stepped then some .phase else none }

/-- An update in ACQUIRING or LOCKED past the step check (R83 to R86). -/
def slewUpdate (e : Int) (level : Nat) (s : State) : Update :=
  let made := s.servo.state
  let m := phaseMove s.servo.config made level e s.servo.estimate s.time.correction
  let s := countPull m.terms.clamped (writeMove m s)
  { result := if made = .acquiring then judgeAcquiring e s else judgeLocked e s
    made := made
    terms := some m.terms
    step := none }

/-- An update in ACQUIRING or LOCKED (R82). -/
def phaseUpdate (e : Int) (level : Nat) (s : State) : Update :=
  let s := firstUpdate e s
  if s.servo.config.stepThreshold < e.natAbs ∧ s.servo.token = true then phaseStepUpdate e s
  else slewUpdate e level s

/-- An update in FREQ_LOCKED (R87). -/
def freqUpdate (fe : Int) (s : State) : Update :=
  let m := freqMove s.servo.config fe s.servo.estimate s.time.correction
  { result := countPull m.terms.clamped (writeMove m s)
    made := .freqLocked
    terms := some m.terms
    step := none }

/-- A seconds-step request ends the update with a seconds step (R81). -/
def secondsUpdate (ds : Int) (s : State) : Update :=
  let stepped := decide (appliedAmount (ds * Config.second) s ≠ 0)
  { result := performStep .seconds (ds * Config.second) s
    made := s.servo.state
    terms := none
    step := if stepped then some .seconds else none }

/-- The update of the servo state; a state that follows no slot gives none (R80). -/
def servoUpdate (value : Int) (level : Nat) (s : State) : Option Update :=
  match s.servo.state with
  | .acquiring => some (phaseUpdate value level s)
  | .locked => some (phaseUpdate value level s)
  | .freqLocked => some (freqUpdate value s)
  | .freerun => none
  | .holdover => none

/-! ## The hand-off (R80, R93) -/

/-- Last e or last fe, and the allowance in force, take the measurement's values (R80, step 3); a
measurement without an allowance, of a LINE slot, leaves the allowance. -/
def recordHandoff (k : Slot) (m : Measurement) (s : State) : State :=
  let v := s.servo
  let v := if isLine k then { v with lastFe := some m.value } else { v with lastE := some m.value }
  s.setServo { v with allowance := m.allowance.getD v.allowance }

/-- An update is recorded and reported (R93). -/
def reportUpdate (k : Slot) (value : Int) (level : Nat) (before : State) (u : Update) : State :=
  let s := u.result
  let s := s.setServo
    { s.servo with
      updates := satSucc 255 s.servo.updates
      lastUpdate := some
        { second := before.time.base
          slot := k
          value := value
          state := u.made
          terms := u.terms
          estimate := s.servo.estimate
          fBefore := before.time.correction
          fAfter := s.time.correction
          step := u.step } }
  takeReport
    { state := u.made, slot := k, level := level, estimate := s.servo.estimate,
      step := u.step }
    s

/-- Steps 3 to 6 of R80. -/
def handoffUpdate (k : Slot) (m : Measurement) (level : Nat) (request : Bool) (s : State) : State :=
  let s := recordHandoff k m s
  let u := match request, m.ds with
    | true, some d => some (secondsUpdate d s)
    | _, _ => servoUpdate m.value level s
  match u with
  | some u => reportUpdate k m.value level s u
  | none => s

/-- A monitor hands a measurement to the servo (R80); `request` is the seconds-step request of R37. -/
def handoff (k : Slot) (m : Measurement) (request : Bool) (s : State) : State :=
  if s.servo.followed = some k then
    let level := (s.ref k).level
    let s := match s.time.timeSet, m.ds with
      | false, some d => timeSetting k d s
      | _, _ => s
    if s.servo.followed = some k then handoffUpdate k m level request s else s
  else s

end Sys2Proof.Machine
end

