-- ==== Sys2Proof/Machine/Measurements.lean ====
section
/-!
DEFINITION. The processing of one measurement by its monitor (R29 to R31, R35 to R38).
-/

namespace Sys2Proof.Machine

/-! ## Wander (R30) -/

/-- The value against which a deviation is computed: last e, or last fe for a LINE slot. -/
def lastValue (k : Slot) (m : Monitor) : Option Int := if isLine k then m.lastFe else m.lastE

/-- A measurement is a violation (R30). -/
def violates (k : Slot) (value : Int) (m : Monitor) : Bool :=
  match lastValue k m with
  | some v => !m.skipNext && decide (wanderLimit m.config m.level < (value - v).natAbs)
  | none => false

/-- A violation is counted (R30). -/
def violatedMonitor (m : Monitor) : Monitor :=
  { m with
    periodCount := satSucc 15 m.periodCount
    totalViolations := satSucc 255 m.totalViolations }

/-- Step 1 of R29: the deviation is judged. -/
def wanderJudge (k : Slot) (value : Int) (s : State) : State :=
  if violates k value (s.ref k) then
    let s := modRef k violatedMonitor s
    if (s.ref k).config.immediate ≤ (s.ref k).periodCount then demandRaise true k s else s
  else s

/-! ## Record and labels (R29, R36) -/

/-- Step 2 of R29: last values, the skip-next flag, and the declared grade that a PKT or CHAIN
measurement carries. -/
def recordedMonitor (k : Slot) (x : Measurement) (m : Monitor) : Monitor :=
  if isLine k then { m with lastFe := some x.value, skipNext := false }
  else
    { m with
      lastE := some x.value
      lastDs := x.ds
      skipNext := false
      declared := if isSat k then m.declared else x.grade }

/-- The label bookkeeping of a SAT monitor (R36). -/
def labelledMonitor (labelled : Bool) (m : Monitor) : Monitor :=
  if labelled then { m with unlabelled := 0, carriesTime := true, labelMissing := false }
  else
    let n := satSucc 3 m.unlabelled
    { m with
      unlabelled := n
      carriesTime := m.carriesTime && decide (n < 3)
      labelMissing := m.labelMissing || decide (n = 3) }

/-- Steps 2 and 3 of R29.  A changed declared grade is reported to the selector, and then the grade is
recomputed (R62, R109): the order of the two is the model's choice (log entry 50). -/
def recordMeasurement (k : Slot) (x : Measurement) (s : State) : State :=
  let before := declaredGrade k (s.ref k)
  let s := modRef k (recordedMonitor k x) s
  let s :=
    if isSat k then (modRef k (labelledMonitor x.ds.isSome) s).refresh .labelMissing (slotNumber k)
    else s
  if declaredGrade k (s.ref k) = before then s else recomputeGrade (reportToSelector s)

/-! ## The time check (R37) -/

/-- The mismatch run after a measurement's Δs (R37); an empty run has the value 0 (log entry 20). -/
def nextRun (ds : Int) (r : MismatchRun) : MismatchRun :=
  if ds = 0 then { count := 0, value := 0 }
  else if r.count ≠ 0 ∧ r.value = ds then { count := satSucc 3 r.count, value := ds }
  else { count := 1, value := ds }

/-- The time check applies to a measurement (R37). -/
def timeChecked (k : Slot) (s : State) : Bool := s.time.timeSet && (s.ref k).carriesTime

/-- Step 4 of R29: the state, and whether a seconds-step request is attached. -/
def timeCheck (k : Slot) (x : Measurement) (s : State) : State × Bool :=
  match x.ds with
  | none => (s, false)
  | some d =>
    if timeChecked k s then
      let r := nextRun d (s.ref k).mismatch
      let s := modRef k (fun m => { m with mismatch := r }) s
      if r.count < 3 then (s, false)
      else if s.selector.selected = some k ∧ s.servo.token = true then
        (modRef k (fun m => { m with mismatch := { count := 0, value := 0 } }) s, true)
      else (failSlot .time k s, false)
    else (s, false)

/-! ## The agreement run (R38) -/

/-- A measurement lies outside the slot's agreement limit. -/
def outsideAgreement (value : Int) (m : Monitor) : Bool :=
  match m.config.agreement with
  | some l => decide (l < value.natAbs)
  | none => false

/-- Step 5 of R29. -/
def agreementRun (k : Slot) (value : Int) (s : State) : State :=
  if s.servo.state = .locked ∧ isPhase k = true ∧ (s.ref k).state = .qualified
      ∧ s.selector.selected ≠ some k then
    modRef k
      (fun m =>
        { m with disagree := if outsideAgreement value m then satSucc 255 m.disagree else 0 })
      s
  else s

/-! ## One measurement (R29) -/

/-- Steps 4 to 6 of R29, once a measurement is recorded. -/
def checkMeasurement (k : Slot) (x : Measurement) (s : State) : State :=
  let r := timeCheck k x s
  if judging (r.1.ref k) then
    let s := agreementRun k x.value r.1
    if s.selector.selected = some k then handoff k x r.2 s else s
  else r.1

/-- A measurement completes at a monitor (R29).  One that fails its slot at step 1 is recorded as a
measurement of the FAILED monitor. -/
def takeMeasurement (k : Slot) (x : Measurement) (s : State) : State :=
  match (s.ref k).state with
  | .disabled => s
  | .absent => s
  | .failed => recordMeasurement k x s
  | .checking =>
    let s := wanderJudge k x.value s
    if judging (s.ref k) then checkMeasurement k x (recordMeasurement k x s)
    else recordMeasurement k x s
  | .qualified =>
    let s := wanderJudge k x.value s
    if judging (s.ref k) then checkMeasurement k x (recordMeasurement k x s)
    else recordMeasurement k x s

end Sys2Proof.Machine
end

