-- ==== Sys2Proof/Machine/Filter.lean ====
section
/-!
DEFINITION. The sample filter (chapter 3): the judgement of samples, the window, and the result at
each boundary.
-/

namespace Sys2Proof.Machine

/-! ## Sequence numbers (R46) -/

/-- The forward distance from `l` to `q` (R46). -/
def forwardDistance (l q : Nat) : Nat := (q + 65536 - l) % 65536

/-- A sequence is newer than the last sequence (R46). -/
def newerSequence (last : Option Nat) (q : Nat) : Bool :=
  match last with
  | none => true
  | some l => decide (1 ≤ forwardDistance l q ∧ forwardDistance l q ≤ 32767)

/-- Sequence numbers that lie between the last sequence and `q` (R46, R48). -/
def skippedSequences (last : Option Nat) (q : Nat) : Nat :=
  match last with
  | none => 0
  | some l => forwardDistance l q - 1

/-! ## Samples (R45, R47, R48) -/

/-- The fields of a SAMPLE lie within their ranges (R45). -/
def sampleInRange (sequence : Nat) (offset : Int) (delay : Nat) : Bool :=
  inRange 0 65535 sequence && decide (offset.natAbs ≤ maxOffset) && inRange 0 1000000000 delay

/-- The filter's verdict on a sample within range (R47). -/
def sampleVerdict (disabled : Bool) (sequence delay : Nat) (f : Filter) : SampleResult :=
  if disabled then .disabled
  else if !newerSequence f.lastSequence sequence then .old
  else if f.config.ceiling < delay then .delayHigh
  else .accepted

/-- A sample joins the window (R48, steps 3 to 5). -/
def joinWindow (x : Sample) (w : List Sample) : List Sample :=
  let w := w.filter (fun y => decide (y.sequence ≠ x.sequence))
  (if Config.windowSize ≤ w.length then w.drop 1 else w) ++ [x]

/-- The filter after a sample of this verdict (R47, R48). -/
def filterJudged (v : SampleResult) (x : Sample) (f : Filter) : Filter :=
  match v with
  | .disabled => { f with disabled := satSucc Config.count16 f.disabled }
  | .old => { f with old := satSucc Config.count16 f.old }
  | .delayHigh => { f with delayHigh := satSucc Config.count16 f.delayHigh }
  | .accepted =>
    { f with
      accepted := satSucc Config.count16 f.accepted
      lost := satAdd Config.count16 f.lost (skippedSequences f.lastSequence x.sequence)
      lastSequence := some x.sequence
      window := joinWindow x f.window }

/-- A sample within range is judged; an accepted one is a signal event of the PKT monitor, which
acts once the sample is in the window (R23, R48). -/
def judgeSample (x : Sample) (s : State) : State × SampleResult :=
  let v := sampleVerdict (decide ((s.ref .pkt).state = .disabled)) x.sequence x.delay s.filter
  let s := s.setFilter (filterJudged v x s.filter)
  if v = .accepted then (signalAppears .pkt s, v) else (s, v)

/-! ## The result at a boundary (R52, R53) -/

/-- The window after ageing at the boundary of second `n` (R52). -/
def agedWindow (n length : Nat) (w : List Sample) : List Sample :=
  w.filter (fun x => decide (n ≤ x.arrival + length))

/-- The entry with the smallest path delay, the newest of several (R53). -/
def chosenSample (w : List Sample) : Option Sample :=
  w.foldl
    (fun best x =>
      match best with
      | some b => if x.delay ≤ b.delay then some x else some b
      | none => some x)
    none

/-- The copy of the measurement that an entry gives at second `n` (R53). -/
def filterCopy (n : Nat) (x : Sample) : FilterCopy :=
  { sequence := x.sequence
    delay := x.delay
    offset := x.offset
    e := phaseFraction x.offset
    ds := phaseSeconds x.offset
    second := n }

/-- The PKT measurement of a chosen entry, the newest entry and the configured allowance (R53). -/
def packetMeasurement (x newest : Sample) (allowance : Nat) : Measurement :=
  { value := phaseFraction x.offset
    ds := some (phaseSeconds x.offset)
    grade := some newest.grade
    allowance := some allowance }

/-- The filter at the marked boundary of second `n`: it ages its window and hands its result to the
PKT monitor (R52 to R54).  It ages by `n` even where a step made within this boundary, before the filter
acts, has moved the arrival seconds: the model's choice (R50, R52; log entry 58). -/
def filterBoundary (n : Nat) (s : State) : State :=
  if judgesEpochs (s.ref .pkt) then
    let w := agedWindow n s.filter.config.length s.filter.window
    let s := s.setFilter { s.filter with window := w }
    match chosenSample w, w.getLast? with
    | some x, some newest =>
      let s := s.setFilter { s.filter with copy := some (filterCopy n x) }
      let a := ((s.ref .pkt).config.lockedAllowance).getD 0
      takeMeasurement .pkt (packetMeasurement x newest a) (goodEpoch .pkt s)
    | _, _ => missEpoch 8 .pkt s
  else s

/-! ## Configuration (R55) -/

/-- SET_FILTER's record is written; a lowered ceiling excludes entries at once (R55). -/
def configureFilter (c : FilterConfig) (f : Filter) : Filter :=
  { f with config := c, window := f.window.filter (fun x => decide (x.delay ≤ c.ceiling)) }

end Sys2Proof.Machine
end

