-- ==== Sys2Proof/Machine/Chain.lean ====
section
/-!
DEFINITION. The chain unit (chapter 8): receiving, commands and words, the upstream choice at a
boundary, and sending.
-/

namespace Sys2Proof.Machine

/-- The chain unit changed. -/
def modChain (f : ChainUnit → ChainUnit) (s : State) : State := s.setChain (f s.chain)

/-- The record of a chain port changed. -/
def modRecord (p : ChainPort) (f : ChainRecord → ChainRecord) (s : State) : State :=
  modChain (fun c => c.setRecord p (f (c.record p))) s

/-- The chain conditions as they now stand; those that change at one event are declared in this order: the
model's choice (R175; log entry 49). -/
def chainConditions (s : State) : State :=
  s.refreshAll [(.chainLoss, 0), (.chainLoss, 1), (.chainConflict, 0), (.chainTooLong, 0)]

/-! ## Markers (R144) -/

/-- A marker edge arrives: the port captures the reading (R144). -/
def captureMarker (p : ChainPort) (s : State) : State :=
  if s.chain.role = .off then s
  else modRecord p (fun r => { r with capture := some (s.reading : Int) }) s

/-! ## Commands and words (R153, R156) -/

/-- The scheduler's answer to a LEAP command (R161). -/
def entryResult : EntryResult → CommandResult
  | .invalid => .invalid
  | .tooLate => .tooLate
  | .full => .full
  | .entered id => .entered id

/-- The selector's answer to a HOLD or RELEASE command (R68). -/
def modeCommandResult : ModeResult → CommandResult
  | .applied => .applied
  | .alreadyHeld => .alreadyHeld
  | .notHeld => .notHeld

/-- The kind and due second of the action a LEAP command asks for (R161). -/
def leapAction (l : Leap) : ActionKind :=
  match l.dir with
  | .insert => .leapInsert
  | .delete => .leapDelete

/-- A command is acted on (R153). -/
def actOnCommand (c : ChainCommand) (s : State) : State × CommandResult :=
  match c.kind with
  | .hold =>
    let r := modeHold s
    (r.1, modeCommandResult r.2)
  | .release =>
    let r := modeRelease s
    (r.1, modeCommandResult r.2)
  | .leap =>
    match c.arg with
    | some l =>
      let r := enterAction (some (leapAction l)) l.due none .chain s
      (r.1, entryResult r.2)
    | none => (s, .invalid)
  | .stepPermit =>
    let r := grantToken s
    (r.1, if r.2 then .alreadyHeld else .granted)

/-- A member takes the command: addressed to it or to every member, and no repeat (R153). -/
def takesCommand (u : ChainUnit) (c : ChainCommand) : Bool :=
  decide (c.target = u.address ∨ c.target = 7) && decide (u.lastCommand ≠ some c.sequence)

/-- A command carried in a valid upstream frame reaches the member (R153).  CHAIN_COMMAND_TAKEN is posted
after the notices of what the command does: the model's choice (R175; log entry 49). -/
def takeCommand (c : ChainCommand) (s : State) : State :=
  if takesCommand s.chain c then
    let s := modChain (fun u => { u with lastCommand := some c.sequence }) s
    if s.chain.config.ignoreCommands then
      s.post (.chainCommandIgnored c.kind c.target c.sequence) 0
    else
      let r := actOnCommand c s
      r.1.post (.chainCommandTaken c.kind c.target c.sequence r.2) 0
  else s

/-- The command of a frame, if it carries one. -/
def takeFrameCommand (f : TimeFrame) (s : State) : State :=
  match f.command with
  | some c => takeCommand c s
  | none => s

/-- A word carried in a valid upstream frame reaches the inbox (R156). -/
def takeWord (w : Word32) (origin : Nat) (s : State) : State :=
  match s.chain.inbox with
  | none =>
    let s := modChain
      (fun u => { u with inbox := some { word := w, origin := origin, second := s.time.base } }) s
    s.post (.wordReceived origin) 0
  | some _ =>
    let s := modChain (fun u => { u with lostWords := satSucc 255 u.lostWords }) s
    s.post (.wordLost s.chain.lostWords) 0

/-- The word of a frame, if it carries one. -/
def takeFrameWord (f : TimeFrame) (s : State) : State :=
  match f.word with
  | some w => takeWord w (frameOrigin f) s
  | none => s

/-- An upstream frame's command and word go into the relay slots (R152). -/
def fillRelay (f : TimeFrame) (u : ChainUnit) : ChainUnit :=
  let overCommand := f.command.isSome && u.relayCommand.isSome
  let overWord := f.word.isSome && u.relayWord.isSome
  { u with
    relayCommand := match f.command with
      | some c => some c
      | none => u.relayCommand
    relayWord := match f.word with
      | some w => some w
      | none => u.relayWord
    overwrites := satAdd 255 u.overwrites (overCommand.toNat + overWord.toNat) }

/-! ## The CHAIN measurement (R151) -/

/-- The measurement that a frame and the capture it completes yield (R151). -/
def chainMeasurement (p : ChainPort) (f : TimeFrame) (capture : Int) (c : ChainConfig) :
    Measurement :=
  let marking := capture - linkDelay c p
  { value := boundaryError marking
    ds := some ((f.second : Int) - nearestSecond marking)
    grade := some f.grade
    allowance := some (satAdd Config.maxAllowance f.allowance c.hop) }

/-- A valid upstream frame reaches the CHAIN monitor: a signal event, and a measurement when it
completed a capture (R23, R151). -/
def chainMonitorTakes (p : ChainPort) (f : TimeFrame) (capture : Option Int) (s : State) : State :=
  let s := signalAppears .chain s
  match capture with
  | some r => takeMeasurement .chain (chainMeasurement p f r s.chain.config) s
  | none => s

/-! ## Receiving (R143 to R145) -/

/-- The path list of a frame holds the part's own address. -/
def holdsOwn (u : ChainUnit) (f : TimeFrame) : Bool := f.path.contains u.address

/-- A well-formed frame is valid (R145). -/
def frameValid (u : ChainUnit) (f : TimeFrame) : Bool :=
  !holdsOwn u f && decide (f.path.length < 7)

/-- What a valid frame writes in the port's record (R145). -/
def validRecord (f : TimeFrame) (r : ChainRecord) : ChainRecord :=
  { r with seen := true, validThisSecond := true, loss := false, summary := some f }

/-- What is relayed of an upstream frame (R140). -/
def upstreamFrame (f : TimeFrame) : UpstreamFrame :=
  { path := f.path, allowance := f.allowance, offset := f.offset, leap := f.leap }

/-- A valid frame on the upstream port (R145); a command and the measurement's hand-off come in either
order (R153), and the word comes after both: its stored base seconds are those that a step of this frame's
hand-off leaves, the model's choice (log entry 48). -/
def upstreamTakes (p : ChainPort) (f : TimeFrame) (capture : Option Int) (commandFirst : Bool)
    (s : State) : State :=
  let s := modChain (fun u => { u with lastUpstream := some (upstreamFrame f) }) s
  let s :=
    if commandFirst then chainMonitorTakes p f capture (takeFrameCommand f s)
    else takeFrameCommand f (chainMonitorTakes p f capture s)
  modChain (fillRelay f) (takeFrameWord f s)

/-- A well-formed frame that a member discards is counted, by each test that discards it (R145). -/
def memberDiscards (p : ChainPort) (f : TimeFrame) (s : State) : State :=
  let s :=
    if f.path.length = 7 then
      modChain (fun u => { u with tooLong := Timer.start 3 })
        (modRecord p (fun r => { r with tooLong := satSucc Config.count16 r.tooLong }) s)
    else s
  let s :=
    if holdsOwn s.chain f then
      let s := modRecord p (fun r => { r with ownAddress := satSucc Config.count16 r.ownAddress }) s
      if s.chain.upstream = some p then modChain (fun u => { u with conflict := Timer.start 3 }) s
      else s
    else s
  chainConditions s

/-- A well-formed frame arrives at a member (R145). -/
def memberTakes (p : ChainPort) (f : TimeFrame) (capture : Option Int) (commandFirst : Bool)
    (s : State) : State :=
  if frameValid s.chain f then
    let s := chainConditions (modRecord p (validRecord f) s)
    if s.chain.upstream = some p then upstreamTakes p f capture commandFirst s else s
  else memberDiscards p f s

/-- A well-formed frame arrives at the leader (R143). -/
def leaderTakes (p : ChainPort) (f : TimeFrame) (s : State) : State :=
  let s := modRecord p
    (fun r =>
      if holdsOwn s.chain f then { r with ownAddress := satSucc Config.count16 r.ownAddress }
      else if f.path.length = 7 then { r with tooLong := satSucc Config.count16 r.tooLong }
      else validRecord f r)
    s
  if frameOrigin f = s.chain.address then s
  else chainConditions (modChain (fun u => { u with conflict := Timer.start 3 }) s)

/-- A frame arrives on a chain port (R144): it completes or discards the capture held there. -/
def receiveFrame (p : ChainPort) (octets : List Byte) (commandFirst : Bool) (s : State) : State :=
  if s.chain.role = .off then s
  else
    let capture := (s.chain.record p).capture
    let s := modRecord p (fun r => { r with capture := none }) s
    match decodeFrame octets with
    | none => modRecord p (fun r => { r with checkErrors := satSucc Config.count16 r.checkErrors }) s
    | some f =>
      if s.chain.role = .leader then leaderTakes p f s
      else memberTakes p f capture commandFirst s

/-! ## Sending (R142, R143, R152) -/

/-- A member sends as an island: it is one, or its upstream port's silence count is 3 or more
(R148, R152). -/
def sendsAsIsland (u : ChainUnit) : Bool :=
  match u.upstream with
  | some p => decide (3 ≤ (u.record p).silence)
  | none => decide (u.unattached = 3)

/-- The part sends on a port (R143, R152). -/
def sendsOn (u : ChainUnit) (p : ChainPort) : Bool :=
  match u.role with
  | .off => false
  | .leader => true
  | .member => sendsAsIsland u || decide (u.upstream = some (otherPort p))

/-- The part sends for second `n` (R142). -/
def sendsFor (n : Nat) (u : ChainUnit) : Bool :=
  (sendsOn u .a || sendsOn u .b)
    && (match u.lastSent with
      | some l => decide (l < n)
      | none => true)

/-- The path, allowance, command and word of a frame as the unit now stands (R143, R152). -/
structure Carried where
  path : List Nat
  allowance : Nat
  command : Option ChainCommand
  word : Option Word32
  deriving DecidableEq, Repr

/-- What the frame carries, and the unit with the items that leave in it removed. -/
def carry (u : ChainUnit) : Carried × ChainUnit :=
  if u.role = .leader then
    ({ path := [u.address], allowance := 0, command := u.commandSlot, word := u.outbox },
     { u with commandSlot := none, outbox := none })
  else
    match sendsAsIsland u, u.lastUpstream with
    | false, some f =>
      ({ path := f.path ++ [u.address]
         allowance := satAdd Config.maxAllowance f.allowance u.config.hop
         command := u.relayCommand
         word := u.relayWord },
       { u with relayCommand := none, relayWord := none })
    | _, _ => ({ path := [u.address], allowance := 0, command := none, word := none }, u)

/-- The frame of a recorded second (R142). -/
def sentFrame (r : SecondRecord) (x : Carried) (s : State) : TimeFrame :=
  { path := x.path
    second := r.second
    sequence := s.chain.sequence
    grade := r.grade
    offset := labelOffset r.second s
    leap := labelLeap r.second s
    allowance := x.allowance
    word := x.word
    command := x.command }

/-- The leader's notices of what left in the frame (R143). -/
def sentNotices (x : Carried) (s : State) : State :=
  if s.chain.role = .leader then
    let s := match x.command with
      | some c => s.post (.chainCommandSent c.kind c.target c.sequence) 0
      | none => s
    match x.word with
    | some w => s.post (.wordSent w) 0
    | none => s
  else s

/-- The due frame is composed and transmitted on its ports (R142, steps 3 and 4). -/
def composeFrame (r : SecondRecord) (d : FrameDue) (s : State) : State :=
  let x := carry s.chain
  let f := sentFrame r x.1 s
  let s := s.setChain
    { x.2 with
      sequence := (x.2.sequence + 1) % 16
      frameDue := none
      outA := if d.onA then { x.2.outA with frame := some f } else x.2.outA
      outB := if d.onB then { x.2.outB with frame := some f } else x.2.outB }
  sentNotices x.1 s

/-- A frame whose markers are out is composed once the grade of its second is recorded (R142). -/
def composeDue (s : State) : State :=
  match s.chain.frameDue, s.holdover.recorded with
  | some d, some r => if d.second = r.second then composeFrame r d s else s
  | _, _ => s

/-- The markers of second `n` (R142, steps 1 and 2). -/
def putMarkers (n : Nat) (u : ChainUnit) : ChainUnit :=
  let onA := sendsOn u .a
  let onB := sendsOn u .b
  { u with
    lastSent := some n
    frameDue := some { second := n, onA := onA, onB := onB }
    outA := if onA then { u.outA with marker := some n } else u.outA
    outB := if onB then { u.outB with marker := some n } else u.outB }

/-- The part sends for second `n`, if it may (R142). -/
def chainSend (n : Nat) (s : State) : State :=
  if sendsFor n s.chain then composeDue (modChain (putMarkers n) s) else s

/-! ## The upstream (R147 to R150) -/

/-- A change of upstream (R150). -/
def changeUpstream (new : Option ChainPort) (reason : PathReason) (s : State) : State :=
  let old := s.chain.upstream
  let s := modChain
    (fun u =>
      { u with
        upstream := new
        swap := none
        relayCommand := none
        relayWord := none
        lastUpstream := match new with
          | some p => (u.record p).summary.map upstreamFrame
          | none => none
        lastCommand := none })
    s
  let s := s.post (.chainPathSwitch old new reason) 0
  if new.isSome then modRef .chain (fun m => { m with skipNext := true }) s else s

/-- The member detaches to none and is an island from this boundary (R148). -/
def detach (s : State) : State :=
  changeUpstream none .loss (modChain (fun u => { u with unattached := 3 }) s)

/-- A live port is a candidate of an unattached member (R147). -/
def attachCandidate (s : State) (p : ChainPort) : Option TimeFrame :=
  let r := s.chain.record p
  match r.summary with
  | some f =>
    let own := s.holdover.grade
    let suits := !isIsland s.chain || gradeBetter f.grade own
      || (decide (f.grade = own) && decide (frameOrigin f < s.chain.address))
    if portLive r && suits then some f else none
  | none => none

/-- Port B's frame is preferred to port A's: a better grade, then fewer hops (R147). -/
def prefersB (a b : TimeFrame) : Bool :=
  gradeBetter b.grade a.grade || (decide (b.grade = a.grade) && decide (b.path.length < a.path.length))

/-- The port an unattached member attaches to (R147). -/
def attachChoice (s : State) : Option ChainPort :=
  match attachCandidate s .a, attachCandidate s .b with
  | some a, some b => if prefersB a b then some .b else some .a
  | some _, none => some .a
  | none, some _ => some .b
  | none, none => none

/-- A boundary at which upstream is none (R147). -/
def judgeUnattached (s : State) : State :=
  let s := modChain (fun u => { u with unattached := satSucc 3 u.unattached }) s
  match attachChoice s with
  | some p => changeUpstream (some p) .attach (modChain (fun u => { u with unattached := 0 }) s)
  | none => s

/-- The swap timer starts at the hold-off (R148, R149). -/
def startSwap (reason : PathReason) (u : ChainUnit) : ChainUnit :=
  { u with swap := some { timer := Timer.start u.config.holdOff, reason := reason } }

/-- The upstream port's silence count has just reached 3 (R148). -/
def judgeLoss (p : ChainPort) (s : State) : State :=
  if portLive (s.chain.record (otherPort p)) then
    if s.chain.config.holdOff = 0 then changeUpstream (some (otherPort p)) .loss s
    else modChain (startSwap .loss) s
  else detach s

/-- The running swap timer counts one boundary. -/
def tickSwap (u : ChainUnit) : ChainUnit :=
  { u with swap := u.swap.map (fun t => { t with timer := t.timer.tick }) }

/-- The swap timer stops. -/
def stopSwap (u : ChainUnit) : ChainUnit := { u with swap := none }

/-- The grade condition of R149: the other port is live and its latest frame's grade is strictly
better than the upstream port's. -/
def gradeCondition (p : ChainPort) (u : ChainUnit) : Bool :=
  match (u.record p).summary, (u.record (otherPort p)).summary with
  | some f, some g => portLive (u.record (otherPort p)) && gradeBetter g.grade f.grade
  | _, _ => false

/-- The grade comparison at a boundary with a live upstream port (R149).  At the boundary at which a
LOSS hold-off stops the member keeps its upstream (R148). -/
def judgeGrade (p : ChainPort) (s : State) : State :=
  let holds := gradeCondition p s.chain
  match s.chain.swap with
  | none =>
    if holds then
      if s.chain.config.holdOff = 0 then changeUpstream (some (otherPort p)) .grade s
      else modChain (startSwap .grade) s
    else s
  | some t =>
    if t.reason = .grade then modChain (if holds then tickSwap else stopSwap) s
    else if holds && decide (0 < s.chain.config.holdOff) then modChain (startSwap .grade) s
    else modChain stopSwap s

/-- The judgement of the upstream at a boundary (R146 to R149). -/
def judgeUpstream (s : State) : State :=
  match s.chain.upstream with
  | none => judgeUnattached s
  | some p =>
    let silence := (s.chain.record p).silence
    if silence < 3 then judgeGrade p s
    else if silence = 3 then judgeLoss p s
    else modChain tickSwap s

/-- The swap that the timer's expiry makes (R148, R149). -/
def swapActs (reason : PathReason) (s : State) : State :=
  match s.chain.upstream with
  | some p =>
    if reason = .loss ∧ portLive (s.chain.record (otherPort p)) = false then detach s
    else changeUpstream (some (otherPort p)) reason s
  | none => modChain stopSwap s

/-- The sending that waited for the expiry (R146). -/
def sendWaiting (s : State) : State :=
  match s.chain.sendDue with
  | some n => chainSend n (modChain (fun u => { u with sendDue := none }) s)
  | none => s

/-- The swap timer's expiry, if it is due; the sending that waited for it follows (R146). -/
def swapExpires (s : State) : State :=
  match s.chain.swap with
  | some t => if t.timer.due then sendWaiting (swapActs t.reason s) else s
  | none => s

/-! ## A marked boundary (R143, R146) -/

/-- A port's silence count and valid-this-second flag at a boundary (R146). -/
def silenceRecord (r : ChainRecord) : ChainRecord :=
  if r.validThisSecond then { r with silence := 0, validThisSecond := false }
  else { r with silence := satSucc 255 r.silence }

/-- The upstream port's loss mark, when its silence count reaches 3 (R146). -/
def lossRecord (r : ChainRecord) : ChainRecord :=
  if r.silence = 3 then { r with loss := true } else r

/-- Both ports' counts at a boundary, and a member's loss mark. -/
def chainCounts (u : ChainUnit) : ChainUnit :=
  let u := { u with portA := silenceRecord u.portA, portB := silenceRecord u.portB }
  match u.role, u.upstream with
  | .member, some p => u.setRecord p (lossRecord (u.record p))
  | _, _ => u

/-- A valid frame arrived on the upstream port in the second that ended (R146). -/
def upstreamReport (u : ChainUnit) : Bool :=
  match u.role, u.upstream with
  | .member, some p => (u.record p).validThisSecond
  | _, _ => false

/-- The CHAIN monitor takes the chain unit's report (R28). -/
def chainEpoch (arrived : Bool) (s : State) : State :=
  if judgesEpochs (s.ref .chain) then
    if arrived then goodEpoch .chain s else missEpoch 3 .chain s
  else s

/-- The conflict and too-long timers count one boundary (R143, R146). -/
def tickChainTimers (u : ChainUnit) : ChainUnit :=
  { u with conflict := u.conflict.tick, tooLong := u.tooLong.tick }

/-- The sending of a boundary, which waits for the swap timer's expiry when that is due (R146). -/
def sendOrWait (n : Nat) (s : State) : State :=
  match s.chain.swap with
  | some t =>
    if t.timer.due then modChain (fun u => { u with sendDue := some n }) s else chainSend n s
  | none => chainSend n s

/-- The chain unit at the marked boundary of second `n` (R143, R146). -/
def chainBoundary (n : Nat) (s : State) : State :=
  let arrived := upstreamReport s.chain
  if s.chain.role = .off then chainEpoch arrived s
  else
    let s := chainConditions (modChain chainCounts s)
    let s := chainEpoch arrived s
    let s := if s.chain.role = .member then judgeUpstream s else s
    sendOrWait n (modChain tickChainTimers s)

/-- The conflict timer's expiry, if it is due (R143, R146). -/
def conflictExpires (s : State) : State :=
  if s.chain.conflict.due then
    chainConditions (modChain (fun u => { u with conflict := Timer.stopped }) s)
  else s

/-- The too-long timer's expiry, if it is due (R146). -/
def tooLongExpires (s : State) : State :=
  if s.chain.tooLong.due then
    chainConditions (modChain (fun u => { u with tooLong := Timer.stopped }) s)
  else s

/-! ## Requests (R154, R157) -/

/-- What a change of the effective role resets (R157).  The relay overwrite count, of which R157 says
nothing, keeps its value, and a sending that waits for a due swap expiry and a frame that waits for its grade
are dropped: the model's choices (log entry 52). -/
def roleChanged (u : ChainUnit) : ChainUnit :=
  { u with
    upstream := none
    unattached := 0
    swap := none
    portA := chainRecordAtReset
    portB := chainRecordAtReset
    lastUpstream := none
    relayCommand := none
    relayWord := none
    commandSlot := none
    outbox := none
    lastCommand := none
    conflict := Timer.stopped
    tooLong := Timer.stopped
    sendDue := none
    frameDue := none }

/-- The link delay of the upstream port differs between two configurations. -/
def upstreamDelayChanged (old new : ChainConfig) (u : ChainUnit) : Bool :=
  match u.upstream with
  | some p => decide (linkDelay old p ≠ linkDelay new p)
  | none => false

/-- SET_CHAIN's record is written and takes effect (R157). -/
def configureChain (c : ChainConfig) (s : State) : State :=
  let old := s.chain.config
  let role := effectiveRole c s.chain.address
  let changed := decide (role ≠ s.chain.role)
  let s := modChain (fun u => { u with config := c, role := role }) s
  if changed then chainConditions (modChain roleChanged s)
  else if upstreamDelayChanged old c s.chain then
    modRef .chain (fun m => { m with skipNext := true }) s
  else s

end Sys2Proof.Machine
end

