-- ==== Sys2Proof/Machine/Arrivals.lean ====
section
/-!
DEFINITION. What arrives at the instant at which the count stands: satellite pulses and the close of their
windows, edges and silences of the line clocks, emission instants and clock edges (R26, R27, R125 to R128).
-/

namespace Sys2Proof.Machine

/-! ## Satellite pulses (R26, R35) -/

/-- The window of a SAT slot has reached its close: the count stands at or past half a second of the
boundary's second (R26). -/
def windowReached (s : State) (k : Slot) : Option SatWindow :=
  match (s.ref k).window with
  | some w => if w.second = s.time.base ∧ Config.half ≤ s.time.frac then some w else none
  | none => none

/-- The close of a SAT slot's window, if the count has reached it: one pulse is a good epoch, any
other number a missing one; the next window opens (R26). -/
def closeWindow (k : SatSlot) (s : State) : State :=
  match windowReached s (satSlot k) with
  | some w =>
    let s := modRef (satSlot k)
      (fun m => { m with window := some { second := w.second + 1, pulses := 0 } }) s
    if judgesEpochs (s.ref (satSlot k)) then
      if w.pulses = 1 then goodEpoch (satSlot k) s else missEpoch 3 (satSlot k) s
    else s
  | none => s

/-- The windows of both SAT slots whose close the count has reached are judged (R26). -/
def closeWindows (s : State) : State := closeWindow .satB (closeWindow .satA s)

/-- The pulse's measurement (R26, R35). -/
def satMeasurement (reading : Nat) (label : Option Nat) : Measurement :=
  { value := boundaryError reading
    ds := label.map (fun l => (l : Int) - nearestSecond reading)
    grade := none
    allowance := some 0 }

/-- The pulse is the first of its window. -/
def firstPulse (now : Nat) (m : Monitor) : Bool :=
  match m.window with
  | some w => decide (w.second ≠ now ∨ w.pulses = 0)
  | none => true

/-- The pulse counted in its window; the first takes the label (R26, R35). -/
def pulsedMonitor (now : Nat) (m : Monitor) : Monitor :=
  if firstPulse now m then { m with window := some { second := now, pulses := 1 }, label := none }
  else
    { m with
      window := m.window.map (fun w => { w with pulses := w.pulses + 1 }) }

/-- A pulse at the count's reading reaches an enabled SAT monitor (R23, R26). -/
def satPulseTaken (k : SatSlot) (s : State) : State :=
  let s := signalAppears (satSlot k) (closeWindow k s)
  let m := s.ref (satSlot k)
  let now := windowOf s.reading
  let s := modRef (satSlot k) (pulsedMonitor now) s
  if firstPulse now m then takeMeasurement (satSlot k) (satMeasurement s.reading m.label) s else s

/-- A pulse arrives at the count's reading; a DISABLED monitor does not observe it (R22, R26).  At the
instant of a marked boundary it may come before a switch made there or after it: the boundary's order names
the place, else it comes after the boundary's work (R71; log entry 6). -/
def satPulseArrives (k : SatSlot) (s : State) : State :=
  if (s.ref (satSlot k)).state = .disabled then s else satPulseTaken k s

/-! ## Line clocks (R27) -/

/-- The edge counter after an edge at this instant. -/
def edgedMonitor (edges : Nat) (m : Monitor) : Monitor :=
  { m with line := { m.line with sinceEdge := 0, edges := m.line.edges + edges } }

/-- An edge at the count's reading reaches an enabled LINE monitor: the first after a loss makes the
signal present and returns the missing-epoch count to 0 (R23, R27). -/
def lineEdgeTaken (k : LineSlot) (edges : Nat) (s : State) : State :=
  let lost := !(s.ref (lineSlot k)).signal
  let s := signalAppears (lineSlot k) s
  let s := if lost then goodEpoch (lineSlot k) s else s
  modRef (lineSlot k) (edgedMonitor edges) s

/-- So many edges arrive, the newest at the count's reading; a DISABLED monitor does not observe them
(R22, R27). -/
def lineEdgeArrives (k : LineSlot) (edges : Nat) (s : State) : State :=
  if (s.ref (lineSlot k)).state = .disabled ∨ edges = 0 then s else lineEdgeTaken k edges s

/-- The ring is emptied at a loss, and the interval in progress gives no accumulation (R27). -/
def lostLine (m : Monitor) : Monitor :=
  { m with ring := [], line := { m.line with reference := none, fresh := false } }

/-- 1 ms of counted time has passed since the newest edge: loss is declared (R27; log entry 15). -/
def lineLossTaken (k : LineSlot) (s : State) : State :=
  let m := s.ref (lineSlot k)
  if m.signal = true ∧ Config.lineSilence ≤ m.line.sinceEdge then
    declareLoss (lineSlot k) (modRef (lineSlot k) lostLine s)
  else s

/-! ## Emission (R125 to R128, R132) -/

/-- An emission instant is used when the port is ACTIVE and its second is above the last emitted
(R125). -/
def usesInstant (n : Nat) (x : Port) : Bool :=
  decide (x.state = .active)
    && (match x.lastEmitted with
      | some l => decide (l < n)
      | none => true)

/-! ### Clock readings (R127) -/

/-- The reading of rising edge `k` of a second, in ps since second 0 (R127). -/
def risingReading (c : ClockRun) (k : Nat) : Int :=
  (c.second : Int) * Config.second - c.delay + roundDiv ((k : Int) * Config.second) c.frequency

/-- The reading of the aligning edge of the next second at the effective delay `d` (R125, R127). -/
def aligningReading (c : ClockRun) (d : Nat) : Int := ((c.second : Int) + 1) * Config.second - d

/-- The reading of the rising edge after edge `k`: the second's next edge, or the aligning edge of the
next second at the effective delay `d`, whichever comes first (R127; log entry 18). -/
def nextReading (c : ClockRun) (k d : Nat) : Int :=
  if k + 1 < c.frequency then min (risingReading c (k + 1)) (aligningReading c d)
  else aligningReading c d

/-- The reading of the falling edge after rising edge `k`, `d` being the effective delay then in force:
half the interval to the next edge, rounded down (R127). -/
def fallingReading (c : ClockRun) (k d : Nat) : Int :=
  risingReading c k + (nextReading c k d - risingReading c k) / 2

/-- A clock run whose rising edge `k` has been given: the pin falls half the interval later. -/
def risen (k d : Nat) (c : ClockRun) : ClockRun :=
  { c with last := k, falls := some (fallingReading c k d) }

/-- The effective delay that the service at an emission instant leaves, which governs the next aligning
edge (R127, R132). -/
def servedDelay (x : Port) : Nat :=
  match x.queue with
  | [] => x.delay
  | a :: _ => (moveHead x.delay (some x.config.stepLimit) a).delay

/-- The run of a second at its aligning edge. -/
def startedRun (n : Nat) (x : Port) : ClockRun :=
  risen 0 (servedDelay x)
    { second := n, delay := x.delay, frequency := x.config.frequency, last := 0, falls := none }

/-- A port that emits the pulse or aligning edge of second `n` (R126, R127, R129). -/
def emitted (n : Nat) (x : Port) : Port :=
  match x.config.type with
  | .pulseTod =>
    { x with
      lastEmitted := some n, pin := true, pulseWidth := some x.config.width, clock := none,
      pendingMessage := some n }
  | .pulse =>
    { x with lastEmitted := some n, pin := true, pulseWidth := some x.config.width, clock := none }
  | .clock =>
    { x with
      lastEmitted := some n, pin := true, pulseWidth := none,
      clock := some (startedRun n x) }

/-- A port whose instant of second `n` is suppressed (R128); a clock's pin is held low. -/
def suppressed (n : Nat) (x : Port) : Port :=
  { x with lastEmitted := some n, suppressNext := false, clock := none }

/-- A pulse whose second's grade is already recorded has its message composed at once (R129). -/
def composeAtPulse (p : Fin 12) (n : Nat) (s : State) : State :=
  match s.holdover.recorded with
  | some r =>
    if (s.port p).pendingMessage = some n ∧ r.second = n then
      composeMessage p r (labelOffset n s) s
    else s
  | none => s

/-- The port uses the instant of second `n`, then its queue is served (R125, R128, R132). -/
def useInstant (p : Fin 12) (n : Nat) (s : State) : State :=
  let x := s.port p
  let s :=
    if x.suppressNext then s.setPort p (suppressed n x)
    else composeAtPulse p n (s.setPort p (emitted n x))
  serveHead (some x.config.stepLimit) p s

/-- The emission instant of second `n` is this boundary: the effective delay is 0, the count stands there by
counting, and the port did not become ACTIVE there (R121, R125). -/
def atInstant (n : Nat) (x : Port) (s : State) : Bool :=
  decide (x.delay = 0) && decide (s.time.base = n) && decide (s.time.frac = 0) && !s.time.landed
    && !x.activated

/-- The emission instant at the marked boundary of second `n`, among the work there: the boundary's order
names the place, before or after the recording, the servo's step and the grade (R122, R125, R128; log
entries 6 and 19). -/
def boundaryInstant (p : Fin 12) (n : Nat) (s : State) : State :=
  if atInstant n (s.port p) s && usesInstant n (s.port p) then useInstant p n s else s

/-! ## Clock edges (R127) -/

/-- The fraction of the running second at which a reading lies, if the count reaches it by counting. -/
def aheadFraction (reading : Int) (s : State) : Option Nat :=
  if ((s.reading : Int) < reading ∨ ((s.reading : Int) = reading ∧ s.time.landed = false))
      ∧ reading < ((s.time.base : Int) + 1) * Config.second then
    some (reading - (s.time.base : Int) * Config.second).toNat
  else none

/-- The fraction at which a high pin falls: that of its reading, or where the count stands when its
reading lies behind. -/
def fallFraction (reading : Int) (s : State) : Option Nat :=
  if reading ≤ (s.reading : Int) then some s.time.frac else aheadFraction reading s

/-- The fraction at which rising edge `k` of the port's second, or the fall that follows it, comes.  The
aligning edge rises at the emission instant itself, and from the next second's instant on the port gives no
edge of this second, whether that instant is used or passed unused (R127; log entry 18). -/
def edgeFraction (k : Nat) (rising : Bool) (x : Port) (s : State) : Option Nat :=
  match x.clock with
  | some c =>
    if rising then
      if 0 < k ∧ k < c.frequency ∧ risingReading c k < aligningReading c x.delay then
        aheadFraction (risingReading c k) s
      else none
    else if c.last = k then c.falls.bind (fun r => fallFraction r s)
    else none
  | none => none

/-- A port at a rising edge, which only an ACTIVE port begins, or at the fall of its pin (R118,
R127). -/
def edgedPort (k : Nat) (rising : Bool) (x : Port) : Port :=
  if rising then
    if x.state = .active then { x with pin := true, clock := x.clock.map (risen k x.delay) } else x
  else { x with pin := false, clock := x.clock.map (fun c => { c with falls := none }) }

/-- A clock edge that comes at the instant at which the count stands (R127). -/
def edgeArrives (p : Fin 12) (k : Nat) (rising : Bool) (s : State) : State :=
  if edgeFraction k rising (s.port p) s = some s.time.frac then
    s.setPort p (edgedPort k rising (s.port p))
  else s

end Sys2Proof.Machine
end

