-- ==== Sys2Proof/Machine/Operands.lean ====
section
/-!
DEFINITION. The operands of the requests: how the octets of a request body give the fields of its
kind (R185, R191).  A body of another length, or with a code that names nothing, gives no value.
-/

namespace Sys2Proof.Machine

/-! ## Field readers -/

/-- A slot number or ALL, coded 0xFF. -/
def slotOrAll (n : Nat) : Option Nat := if n = 255 then none else some n

/-- A field of `n` octets that may be absent, read by `f` when its presence octet is 1. -/
def readOpt {α : Type} (n : Nat) (f : List Byte → Option α) : Reader (Option α) :=
  Reader.bind readB (fun p l =>
    if n ≤ l.length then
      if p then (f (l.take n)).map (fun a => (some a, l.drop n)) else some (none, l.drop n)
    else none)

/-- A field with a presence octet that applies to some slots only: it is ignored for the others
(R19). -/
def readApplicable {α : Type} (applies : Bool) (n : Nat) (f : List Byte → Option α) :
    Reader (Option α) := fun l =>
  if applies then readOpt n f l
  else if n + 1 ≤ l.length then some (none, l.drop (n + 1)) else none

/-- A grade's octet. -/
def gradeField (l : List Byte) : Option Grade := gradeOf (getU l)

/-- A number's octets. -/
def numberField (l : List Byte) : Option Nat := some (getU l)

/-- A leap's direction and due second. -/
def leapField (l : List Byte) : Option Leap :=
  (leapDirOf (octet l 0)).map (fun d => { dir := d, due := getU (slice l 1 6) })

/-- A selection mode: a mode octet and a slot octet. -/
def readMode : Reader SelMode :=
  Reader.bind (readU 1) fun m => Reader.bind (readU 1) fun k => Reader.some? (modeOf m k)

/-! ## Configuration records -/

/-- The reference record of a slot (R19), laid out as `putReference` lays it out: floor and ceiling stand in 4
octets for every slot, the model's choice (R191; log entry 20). -/
def readReference (k : Slot) : Reader ReferenceConfig :=
  Reader.bind readB fun enabled =>
  Reader.bind (readU 1) fun priority =>
  Reader.bind (readApplicable (isSat k || isLine k) 1 gradeField) fun declaredGrade =>
  Reader.bind (readU 4) fun floor =>
  Reader.bind (readU 4) fun ceiling =>
  Reader.bind (readU 1) fun immediate =>
  Reader.bind (readU 1) fun delayed =>
  Reader.bind (readU 2) fun period =>
  Reader.bind (readU 2) fun qualify =>
  Reader.bind (readU 2) fun waitRestore =>
  Reader.bind (readApplicable (isPhase k) 4 numberField) fun agreement =>
  Reader.bind (readApplicable (isLine k) 4 numberField) fun nominal =>
  Reader.bind (readApplicable (isLine k) 3 numberField) fun uLine =>
  Reader.bind (readApplicable (decide (k = .pkt)) 3 numberField) fun lockedAllowance =>
  Reader.pure
    { enabled := enabled, priority := priority, declaredGrade := declaredGrade, floor := floor,
      ceiling := ceiling, immediate := immediate, delayed := delayed, period := period,
      qualify := qualify, waitRestore := waitRestore, agreement := agreement, nominal := nominal,
      uLine := uLine, lockedAllowance := lockedAllowance }

/-- The filter configuration (R55). -/
def readFilterConfig : Reader FilterConfig :=
  Reader.bind (readU 1) fun length =>
  Reader.bind (readU 4) fun ceiling => Reader.pure { length := length, ceiling := ceiling }

/-- The selection configuration (R58). -/
def readSelection : Reader SelectionConfig :=
  Reader.bind readMode fun mode =>
  Reader.bind readB fun revertive =>
  Reader.bind (readU 2) fun minDwell =>
  Reader.bind readB fun gradeRanking =>
  Reader.bind (readNamed gradeOf) fun minGrade =>
  Reader.pure
    { mode := mode, revertive := revertive, minDwell := minDwell, gradeRanking := gradeRanking,
      minGrade := minGrade }

/-- The servo configuration (R89). -/
def readServoConfig : Reader ServoConfig :=
  Reader.bind (readU 1) fun kp =>
  Reader.bind (readU 1) fun ki =>
  Reader.bind (readU 1) fun kpAcq =>
  Reader.bind (readU 1) fun kiAcq =>
  Reader.bind (readU 1) fun kf =>
  Reader.bind readB fun adaptive =>
  Reader.bind (readU 4) fun pullRange =>
  Reader.bind (readU 3) fun rampLocked =>
  Reader.bind (readU 3) fun rampAcq =>
  Reader.bind (readU 4) fun stepThreshold =>
  Reader.bind (readU 3) fun lockThreshold =>
  Reader.bind (readU 1) fun lockCount =>
  Reader.bind (readU 4) fun unlockThreshold =>
  Reader.pure
    { kp := kp, ki := ki, kpAcq := kpAcq, kiAcq := kiAcq, kf := kf, adaptive := adaptive,
      pullRange := pullRange, rampLocked := rampLocked, rampAcq := rampAcq,
      stepThreshold := stepThreshold, lockThreshold := lockThreshold, lockCount := lockCount,
      unlockThreshold := unlockThreshold }

/-- The holdover configuration (R111). -/
def readHoldoverConfig : Reader HoldoverConfig :=
  Reader.bind (readU 1) fun guardEntries =>
  Reader.bind (readU 1) fun average =>
  Reader.bind (readU 3) fun u0 =>
  Reader.bind (readU 2) fun aging =>
  Reader.bind (readI 2) fun drift =>
  Reader.bind (readU 4) fun eBase =>
  Reader.bind (readU 4) fun budget =>
  Reader.bind (readU 1) fun warnPercent =>
  Reader.pure
    { guard := guardEntries, average := average, u0 := u0, aging := aging, drift := drift,
      eBase := eBase, budget := budget, warnPercent := warnPercent }

/-- A port record (R116). -/
def readPortConfig : Reader PortConfig :=
  Reader.bind (readNamed portTypeOf) fun type =>
  Reader.bind (readU 4) fun frequency =>
  Reader.bind (readU 3) fun delayComp =>
  Reader.bind (readU 4) fun width =>
  Reader.bind (readNamed gradeOf) fun minGrade =>
  Reader.bind (readNamed policyOf) fun policy =>
  Reader.bind (readU 2) fun rearm =>
  Reader.bind (readU 3) fun stepLimit =>
  Reader.bind (readU 3) fun jumpTolerance =>
  Reader.bind readB fun enabledAtStart =>
  Reader.pure
    { type := type, frequency := frequency, delayComp := delayComp, width := width,
      minGrade := minGrade, policy := policy, rearm := rearm, stepLimit := stepLimit,
      jumpTolerance := jumpTolerance, enabledAtStart := enabledAtStart }

/-- The chain configuration (R139). -/
def readChainConfig : Reader ChainConfig :=
  Reader.bind (readNamed roleOf) fun role =>
  Reader.bind (readU 3) fun linkA =>
  Reader.bind (readU 3) fun linkB =>
  Reader.bind (readU 3) fun hop =>
  Reader.bind (readU 1) fun holdOff =>
  Reader.bind readB fun ignoreCommands =>
  Reader.pure
    { role := role, linkA := linkA, linkB := linkB, hop := hop, holdOff := holdOff,
      ignoreCommands := ignoreCommands }

/-- An alarm kind's record (R170). -/
def readAlarmConfig : Reader AlarmConfig :=
  Reader.bind (readNamed severityOf) fun severity =>
  Reader.bind (readU 1) fun raiseDelay =>
  Reader.bind (readU 2) fun clearDelay =>
  Reader.bind readB fun latch =>
  Reader.pure
    { severity := severity, raiseDelay := raiseDelay, clearDelay := clearDelay, latch := latch }

/-! ## Request bodies -/

/-- Two fields. -/
def readPair {α β : Type} (a : Reader α) (b : Reader β) : Reader (α × β) :=
  Reader.bind a fun x => Reader.bind b fun y => Reader.pure (x, y)

/-- Three fields. -/
def readTriple {α β γ : Type} (a : Reader α) (b : Reader β) (c : Reader γ) : Reader (α × β × γ) :=
  Reader.bind a fun x => Reader.bind b fun y => Reader.bind c fun z => Reader.pure (x, y, z)

/-- No parameters. -/
def readNothing : Reader Unit := Reader.pure ()

/-- SET_TIME: S and an optional offset (R13). -/
def readSetTime : Reader (Nat × Option Nat) := readPair (readU 6) (readOptU 1)

/-- SET_REFERENCE: a slot number and its record (R40); a number above 5 reads the record of no
slot. -/
def readSetReference : Reader (Nat × ReferenceConfig) :=
  Reader.bind (readU 1) fun n =>
    match slotOfNumber n with
    | some k => Reader.bind (readReference k) fun c => Reader.pure (n, c)
    | none => fun _ => none

/-- SAMPLE: sequence, offset, path delay and grade (R45). -/
def readSample : Reader (Nat × Int × Nat × Grade) :=
  Reader.bind (readU 2) fun q =>
  Reader.bind (readI 8) fun o =>
  Reader.bind (readU 4) fun d =>
  Reader.bind (readNamed gradeOf) fun g => Reader.pure (q, o, d, g)

/-- CHAIN_COMMAND: kind, target and argument (R154). -/
def readChainCommand : Reader (Option ChainCommandKind × Nat × Option Leap) :=
  readTriple (Reader.bind (readU 1) fun n => Reader.pure (commandKindOf n)) (readU 1)
    (readOpt 7 leapField)

/-- SCHEDULE: kind, due second and argument (R161). -/
def readSchedule : Reader (Option ActionKind × Nat × Option Nat) :=
  readTriple (Reader.bind (readU 1) fun n => Reader.pure (actionKindOf n)) (readU 6) (readOptU 1)

/-- SET_ALARM: kind and record (R179). -/
def readSetAlarm : Reader (Option AlarmKind × AlarmConfig) :=
  readPair (Reader.bind (readU 1) fun n => Reader.pure (alarmKindOf n)) readAlarmConfig

/-- What a GET_ALARMS octet names: a kind, or SUMMARY (R180). -/
def alarmQueryOf (n : Nat) : AlarmQuery :=
  if n = 255 then .summary
  else
    match alarmKindOf n with
    | some k => .kind k
    | none => .unknown

/-- What ACK_ALARM's octets name: an entry, or ALL (R173).  After ALL any second octet is ignored, where R191
says only that it is 0x00: the model's choice (log entry 55). -/
def ackTargetOf (n number : Nat) : AckTarget :=
  if n = 255 then .all
  else
    match alarmKindOf n with
    | some k => .entry k number
    | none => .unknown

end Sys2Proof.Machine
end

