-- ==== Sys2Proof/Machine/Encoding.lean ====
section
/-!
DEFINITION. The octets that leave the part: configuration records, notice records, port time messages
and reply frames, and the contents of the replies (R191, section 11.7; the choices are log entry 20).
-/

namespace Sys2Proof.Machine

/-! ## Configuration records -/

/-- A reference record, with inapplicable fields absent (R19, R41).  Floor and ceiling stand in 4 octets for
every slot, a LINE slot too: the model's choice (R191; log entry 20). -/
def putReference (c : ReferenceConfig) : List Byte :=
  putB c.enabled ++ putU 1 c.priority ++ putOpt 1 putGrade c.declaredGrade ++ putU 4 c.floor
    ++ putU 4 c.ceiling ++ putU 1 c.immediate ++ putU 1 c.delayed ++ putU 2 c.period
    ++ putU 2 c.qualify ++ putU 2 c.waitRestore ++ putOptU 4 c.agreement ++ putOptU 4 c.nominal
    ++ putOptU 3 c.uLine ++ putOptU 3 c.lockedAllowance

/-- The filter configuration (R55). -/
def putFilterConfig (c : FilterConfig) : List Byte := putU 1 c.length ++ putU 4 c.ceiling

/-- The selection configuration (R58). -/
def putSelection (c : SelectionConfig) : List Byte :=
  putMode c.mode ++ putB c.revertive ++ putU 2 c.minDwell ++ putB c.gradeRanking ++ putGrade c.minGrade

/-- The servo configuration (R89). -/
def putServoConfig (c : ServoConfig) : List Byte :=
  putU 1 c.kp ++ putU 1 c.ki ++ putU 1 c.kpAcq ++ putU 1 c.kiAcq ++ putU 1 c.kf ++ putB c.adaptive
    ++ putU 4 c.pullRange ++ putU 3 c.rampLocked ++ putU 3 c.rampAcq ++ putU 4 c.stepThreshold
    ++ putU 3 c.lockThreshold ++ putU 1 c.lockCount ++ putU 4 c.unlockThreshold

/-- The holdover configuration (R111). -/
def putHoldoverConfig (c : HoldoverConfig) : List Byte :=
  putU 1 c.guard ++ putU 1 c.average ++ putU 3 c.u0 ++ putU 2 c.aging ++ putI 2 c.drift
    ++ putU 4 c.eBase ++ putU 4 c.budget ++ putU 1 c.warnPercent

/-- A port record (R116). -/
def putPortConfig (c : PortConfig) : List Byte :=
  putPortType c.type ++ putU 4 c.frequency ++ putU 3 c.delayComp ++ putU 4 c.width
    ++ putGrade c.minGrade ++ putPolicy c.policy ++ putU 2 c.rearm ++ putU 3 c.stepLimit
    ++ putU 3 c.jumpTolerance ++ putB c.enabledAtStart

/-- The chain configuration (R139). -/
def putChainConfig (c : ChainConfig) : List Byte :=
  putRole c.role ++ putU 3 c.linkA ++ putU 3 c.linkB ++ putU 3 c.hop ++ putU 1 c.holdOff
    ++ putB c.ignoreCommands

/-- An alarm kind's record (R170). -/
def putAlarmConfig (c : AlarmConfig) : List Byte :=
  putSeverity c.severity ++ putU 1 c.raiseDelay ++ putU 2 c.clearDelay ++ putB c.latch

/-! ## Notice records (R175, section 11.7) -/

/-- The code of a notice's kind, from 1 in the order of the notice table (R191). -/
def noticeKind : NoticeDetail → Nat
  | .alarm _ _ _ _ => 1
  | .refSwitch _ _ _ _ => 2
  | .gradeChange _ _ _ _ => 3
  | .servoState _ _ _ _ => 4
  | .timeSet _ _ => 5
  | .timeStep _ _ _ => 6
  | .leapApplied _ _ _ _ => 7
  | .actionTaken _ _ _ _ _ _ => 8
  | .adjustDone _ _ _ => 9
  | .portState _ _ _ => 10
  | .chainPathSwitch _ _ _ => 11
  | .chainCommandSent _ _ _ => 12
  | .chainCommandTaken _ _ _ _ => 13
  | .chainCommandIgnored _ _ _ => 14
  | .wordSent _ => 15
  | .wordReceived _ => 16
  | .wordLost _ => 17
  | .profileSaved _ => 18
  | .overflow _ => 19

/-- The source of a time setting: the slot's number, or 6 for HOST. -/
def putTimeSource : TimeSource → List Byte
  | .slot s => putSlot s
  | .host => [6]

/-- The detail of a notice, field by field (R175, R191).  An ALARM notice's new state has the codes of the five
entry states of R169: the model's choice (log entry 20). -/
def putDetail : NoticeDetail → List Byte
  | .alarm k st v n => putAlarmKind k ++ putEntryState st ++ putSeverity v ++ putU 1 n
  | .refSwitch a b r m => putSlotOrNone a ++ putSlotOrNone b ++ putSwitchReason r ++ putMode m
  | .gradeChange a b v t => putGrade a ++ putGrade b ++ putServoState v ++ putOptU 5 t
  | .servoState a b c k => putServoState a ++ putServoState b ++ putServoCause c ++ putSlotOrNone k
  | .timeSet src n => putTimeSource src ++ putI 7 n
  | .timeStep k a b => putStepKind k ++ putI 7 a ++ putI 6 b
  | .leapApplied d a b c => putLeapDir d ++ putU 1 a ++ putU 1 b ++ putB c
  | .actionTaken id k due r late clamped =>
    putU 2 id ++ putActionKind k ++ putU 6 due ++ putActionResult r ++ putB late ++ putB clamped
  | .adjustDone a b c => putI 4 a ++ putI 4 b ++ putB c
  | .portState a b c => putPortState a ++ putPortState b ++ putPortCause c
  | .chainPathSwitch a b r => putUpstream a ++ putUpstream b ++ putPathReason r
  | .chainCommandSent k t q => putCommandKind k ++ putU 1 t ++ putU 1 q
  | .chainCommandTaken k t q r => putCommandKind k ++ putU 1 t ++ putU 1 q ++ putCommandResult r
  | .chainCommandIgnored k t q => putCommandKind k ++ putU 1 t ++ putU 1 q
  | .wordSent w => putU 4 w.toNat
  | .wordReceived o => putU 1 o
  | .wordLost n => putU 1 n
  | .profileSaved ok => if ok then [0] else [1]
  | .overflow n => putU 2 n

/-- The 24 octets of a notice record (section 11.7). -/
def putNotice (n : Notice) : List Byte :=
  let d := putDetail n.detail
  putU 1 (noticeKind n.detail) ++ putU 1 n.number ++ putU 6 n.stamp ++ d
    ++ List.replicate (16 - d.length) 0

/-! ## Port time messages (R130, section 11.7) -/

/-- The flags octet of a time message: leap present, leap is delete, TEE present, STEP. -/
def messageFlags (m : TimeMessage) : Nat :=
  m.leap.isSome.toNat + 2 * (decide (m.leap.map Leap.dir = some .delete)).toNat
    + 4 * m.tee.isSome.toNat + 8 * m.step.toNat

/-- The octets of a time message that its check covers. -/
def messageBody (m : TimeMessage) : List Byte :=
  putU 1 m.port ++ putU 1 m.sequence ++ putU 1 (messageFlags m) ++ putU 6 m.second
    ++ putU 1 m.offset ++ putGrade m.grade ++ putDue m.leap ++ putU 4 (m.tee.getD 0)
    ++ putU 4 m.holdover ++ putSlotOrNone m.source

/-- The 29 octets of a time message. -/
def encodeMessage (m : TimeMessage) : List Byte :=
  0x5A :: messageBody m ++ checkOctets (messageBody m)

/-! ## Control frames (R183, section 11.7) -/

/-- A control frame of a kind, a tag and a body. -/
def encodeControl (kind tag : Byte) (body : List Byte) : List Byte :=
  let covered := putU 2 body.length ++ [kind, tag] ++ body
  0xA5 :: covered ++ checkOctets covered

/-- The frame of a reply: the request's kind plus 0x80, the tag, the status and the contents.  The sum is
taken modulo 256, which matters for the answer to an unknown kind, or an overrun, of 0x80 or above: the
model's choice (R185; log entry 57). -/
def encodeReply (r : Reply) : List Byte :=
  encodeControl (r.kind + 0x80) r.tag (statusCode r.answer.status :: r.answer.contents)

end Sys2Proof.Machine
end

