-- ==== Sys2Proof/Machine/Replies.lean ====
section
/-!
DEFINITION. The contents of the replies that report state (R17, R41, R56, R73, R94, R112, R113, R136,
R158, R167, R180, R186), field by field as R191 has it.
-/

namespace Sys2Proof.Machine

/-! ## Time base (R17) -/

/-- The leap state, none being written as an absent field behind its presence octet: the model's choice (R16,
R191; log entry 20). -/
def putLeapOption (l : Option Leap) : List Byte := putOpt 7 putLeap l

/-- A pending set: S and its optional offset. -/
def putPendingSet (p : PendingSet) : List Byte := putU 6 p.seconds ++ putOptU 1 p.offset

/-- The reply contents of GET_TIME (R17). -/
def timeContents (t : TimeBase) : List Byte :=
  putU 6 t.base ++ putU 5 t.frac ++ putB t.timeSet ++ putU 1 t.offset ++ putOptU 6 (utcSeconds t)
    ++ putLeapOption t.leap ++ putI 4 t.correction ++ putU 2 t.stepCount
    ++ putOpt 8 putPendingSet t.pendingSet ++ putB t.endOfRange

/-! ## Monitors (R41, R43) -/

/-- The live fields of a monitor, in the order of R21.  A field marked SAT only or LINE only whose value is
a flag or a count stands as 0 for the other kinds, and a mismatch run of count 0 has the value 0: the model's
choices (log entry 20). -/
def monitorContents (m : Monitor) : List Byte :=
  putMonitorState m.state ++ putB m.signal ++ putOpt 1 putFailCause m.failCause
    ++ putOptI 5 m.lastE ++ putOptI 7 m.lastDs ++ putOptI 8 m.lastFe ++ putU 1 m.level
    ++ putU 1 m.periodCount ++ putU 2 m.period.left ++ putU 1 m.totalViolations ++ putU 2 m.missing
    ++ putU 2 m.totalMissing ++ putU 1 m.mismatch.count ++ putI 7 m.mismatch.value
    ++ putU 1 m.disagree ++ putU 2 m.qualify.left ++ putU 2 m.wait.left ++ putB m.lockedOut
    ++ putOptU 6 m.label ++ putU 1 m.unlabelled ++ putB m.carriesTime ++ putB m.skipNext
    ++ putU 1 m.ring.length

/-- The reply contents of GET_REFERENCE (R41). -/
def referenceContents (k : Slot) (m : Monitor) : List Byte :=
  putReference m.config ++ putU 1 (levelMax m.config) ++ putOpt 1 putGrade (declaredGrade k m)
    ++ monitorContents m

/-- The two total counts of a monitor (R43). -/
def countContents (m : Monitor) : List Byte := putU 1 m.totalViolations ++ putU 2 m.totalMissing

/-! ## Sample filter (R56) -/

/-- The sequence number and arrival second of a window entry. -/
def putEntrySpan (x : Sample) : List Byte := putU 2 x.sequence ++ putU 6 x.arrival

/-- The copy of the last measurement; Δs takes 7 octets, as in the other replies (log entry 20). -/
def putFilterCopy (c : FilterCopy) : List Byte :=
  putU 2 c.sequence ++ putU 4 c.delay ++ putI 8 c.offset ++ putI 5 c.e ++ putI 7 c.ds ++ putU 6 c.second

/-- The smallest path delay in the window. -/
def smallestDelay (w : List Sample) : Option Nat :=
  match w.map (·.delay) with
  | [] => none
  | d :: rest => some (rest.foldl min d)

/-- The reply contents of GET_FILTER (R56).  The oldest entry's pair and then the newest entry's stand each
behind one presence octet: the model's choice (log entry 20). -/
def filterContents (f : Filter) : List Byte :=
  putFilterConfig f.config ++ putU 1 f.window.length ++ putOpt 8 putEntrySpan f.window.head?
    ++ putOpt 8 putEntrySpan f.window.getLast? ++ putOptU 4 (smallestDelay f.window)
    ++ putOptU 2 f.lastSequence ++ putU 2 f.accepted ++ putU 2 f.old ++ putU 2 f.delayHigh
    ++ putU 2 f.disabled ++ putU 2 f.lost ++ putOpt 32 putFilterCopy f.copy

/-! ## Selector (R73) -/

/-- A last switch record. -/
def putSwitchRecord (r : SwitchRecord) : List Byte :=
  putU 6 r.second ++ putSlotOrNone r.source ++ putSlotOrNone r.target ++ putSwitchReason r.reason

/-- A slot's rank position or its exclusion, with its declared grade and priority. -/
def rankContents (s : State) (k : Slot) : List Byte :=
  putOptU 1 (if candidate s k then some (rankPosition s k) else none)
    ++ putOpt 1 putExclusion (exclusion s k)
    ++ putOpt 1 putGrade (declaredGrade k (s.ref k)) ++ putU 1 (s.ref k).config.priority

/-- The reply contents of GET_SELECTION (R73).  A saved mode of none is written as an absent field: the model's
choice (R59, R191; log entry 20). -/
def selectionContents (s : State) : List Byte :=
  let v := s.selector
  putSelection v.config ++ putSlotOrNone v.selected ++ putU 2 v.dwell.left
    ++ putOpt 1 putSlot v.pendingSwitch ++ putOpt 2 putMode v.saved ++ putU 2 v.switchCount
    ++ putOpt 9 putSwitchRecord v.lastSwitch ++ allSlots.flatMap (rankContents s)
    ++ putB (noReferencePresent s) ++ putB (forcedInvalidPresent s)

/-! ## Servo (R94) -/

/-- A last update record (R93).  The shifts used stand behind presence octets: both absent where a step
ended the update, the proportional one absent in FREQ_LOCKED, which does not use it: the model's choice (log
entry 20). -/
def putUpdate (r : UpdateRecord) : List Byte :=
  putU 6 r.second ++ putSlot r.slot ++ putI 8 r.value ++ putServoState r.state
    ++ putOptU 1 (r.terms.bind UpdateTerms.shiftP) ++ putOptU 1 (r.terms.map UpdateTerms.shiftI)
    ++ putOptI 5 (r.terms.bind UpdateTerms.p) ++ putOptI 8 (r.terms.map UpdateTerms.deltaI)
    ++ putI 4 r.estimate ++ putOptI 4 (r.terms.map UpdateTerms.target)
    ++ putI 4 r.fBefore ++ putI 4 r.fAfter
    ++ putOpt 1 putB (r.terms.map UpdateTerms.clamped)
    ++ putOpt 1 putB (r.terms.map UpdateTerms.rampLimited)
    ++ putOpt 1 putStepKind r.step

/-- The octets of a last update record. -/
def updateOctets : Nat := 6 + 1 + 8 + 1 + 2 + 2 + 6 + 9 + 4 + 5 + 4 + 4 + 2 + 2 + 2

/-- The level of the followed slot. -/
def followedLevel (s : State) : Nat :=
  match s.servo.followed with
  | some k => (s.ref k).level
  | none => 0

/-- The shifts that an update would use now: proportional and integral; none in a state without updates
(R94).  In LOCKED they are those of LOCKED, with a replacement pending too (log entry 44), and a shift that
the state does not use is absent (log entry 20): the model's choices. -/
def shiftsNow (s : State) : Option Nat × Option Nat :=
  let c := s.servo.config
  match s.servo.state with
  | .acquiring =>
    let k := phaseShifts c .acquiring (followedLevel s)
    (some k.1, some k.2)
  | .locked =>
    let k := phaseShifts c .locked (followedLevel s)
    (some k.1, some k.2)
  | .freqLocked => (none, some c.kf)
  | .freerun => (none, none)
  | .holdover => (none, none)

/-- The fields of the servo record, in the order of R75; the step token's octet is 1 when it is held: the
model's choice (log entry 20). -/
def servoFields (s : State) : List Byte :=
  let v := s.servo
  putServoState v.state ++ putSlotOrNone v.followed ++ putI 4 v.estimate ++ putI 4 s.time.correction
    ++ putU 1 v.lockRun ++ putU 1 v.unlockRun ++ putB v.replacement ++ putU 1 v.clampRun
    ++ putU 1 v.unclampRun ++ putB v.token ++ putU 4 v.allowance ++ putOptI 5 v.lastE
    ++ putOptI 8 v.lastFe ++ putU 1 v.updates ++ putU 6 v.since
    ++ putOpt updateOctets putUpdate v.lastUpdate

/-- The reply contents of GET_SERVO (R94).  The two shifts stand each behind a presence octet: the model's
choice (log entry 20). -/
def servoContents (s : State) : List Byte :=
  putServoConfig s.servo.config ++ servoFields s ++ putOptU 1 (shiftsNow s).1
    ++ putOptU 1 (shiftsNow s).2 ++ putB s.servo.pullLimit

/-! ## Holdover unit (R112, R113) -/

/-- The reply contents of GET_HOLDOVER (R112).  The open part's state stands behind a presence octet, which
is 0 before its first report: the model's choice (log entry 20). -/
def holdoverContents (s : State) : List Byte :=
  let h := s.holdover
  putHoldoverConfig h.config ++ putU 4 (warningLevel h.config) ++ putU 1 h.history.length
    ++ putB (holdoverAvailable h) ++ putOptI 4 h.fh ++ putOptU 3 h.u ++ putU 1 h.used
    ++ putOptU 5 h.e0 ++ putU 2 h.frozenAging ++ putI 2 h.frozenDrift ++ putU 4 h.n
    ++ putU 4 (holdoverSeconds s) ++ putOptU 5 h.tee ++ putGrade h.grade ++ putGrade h.gradeOfSecond
    ++ putU 6 h.openPart.start ++ putU 1 h.openPart.count ++ putOpt 1 putServoState h.openPart.state
    ++ putSlotOrNone h.openPart.slot ++ putB h.openPart.spoiled
    ++ [(AlarmKind.holdover, 0), (.holdoverWarn, 0), (.holdoverBudget, 0),
        (.holdoverUnavailable, 0), (.freerun, 0), (.timeUnset, 0)].flatMap
          (fun x => putB (conditionPresent s x.1 x.2))

/-- An entry of the frequency history (R97).  Its servo state has R76's code: the model's choice (log entry
20). -/
def putHistory (e : HistoryEntry) : List Byte :=
  putI 4 e.average ++ putU 6 e.stamp ++ putSlot e.slot ++ putServoState e.state ++ putU 1 e.level

/-- The reply contents of GET_HISTORY (R113). -/
def historyContents (start count : Nat) (l : List HistoryEntry) : List Byte :=
  putU 1 l.length ++ putList putHistory ((l.drop start).take count)

/-! ## Ports (R136) -/

/-- An entry of the adjustment queue. -/
def putAdjustment (a : Adjustment) : List Byte := putI 4 a.requested ++ putI 4 a.remainder

/-- A running re-arm timer's count; absent when it is stopped. -/
def timerRunning (t : Timer) : Option Nat := if t.left = 0 then none else some t.left

/-- The reply contents of GET_PORT (R136). -/
def portContents (p : Fin 12) (s : State) : List Byte :=
  let x := s.port p
  putPortConfig x.config ++ putPortState x.state ++ putU 3 x.delay
    ++ putOptU 2 (timerRunning x.rearm) ++ putList putAdjustment x.queue ++ putOptU 6 x.lastEmitted
    ++ putU 1 x.sequence ++ putOptU 6 x.pendingMessage ++ putB x.stepSeen ++ putB x.suppressNext
    ++ putGrade s.holdover.grade ++ putB (gradeMeets s.holdover.grade x.config.minGrade)
    ++ putB (decide (x.state = .squelched))

/-! ## Chain (R156, R158) -/

/-- The swap timer with its reason, which has the code of R150's order (ATTACH 0, LOSS 1, GRADE 2): the
model's choice (R140, R158; log entry 20). -/
def putSwap (t : SwapTimer) : List Byte := putU 1 t.timer.left ++ putPathReason t.reason

/-- The summary of a latest valid frame. -/
def putSummary (f : TimeFrame) : List Byte :=
  putU 1 (frameOrigin f) ++ putGrade f.grade ++ putU 1 f.path.length ++ putU 6 f.second
    ++ putU 1 f.sequence

/-- What GET_CHAIN reports of a port (R158). -/
def putRecord (r : ChainRecord) : List Byte :=
  putOpt 10 putSummary r.summary ++ putB r.seen ++ putU 1 r.silence ++ putB (portLive r)
    ++ putB r.capture.isSome ++ putB r.loss ++ putU 2 r.checkErrors ++ putU 2 r.ownAddress
    ++ putU 2 r.tooLong

/-- The offset and leap indicator of the last upstream frame. -/
def putUpstreamFrame (f : UpstreamFrame) : List Byte := putU 1 f.offset ++ putLeapOption f.leap

/-- The kind, target and sequence of a waiting command. -/
def putCommandSlot (c : ChainCommand) : List Byte :=
  putCommandKind c.kind ++ putU 1 c.target ++ putU 1 c.sequence

/-- The stored word, its origin and its arrival second (R156). -/
def putInbox (w : InboxWord) : List Byte := putU 4 w.word.toNat ++ putU 1 w.origin ++ putU 6 w.second

/-- The reply contents of GET_CHAIN (R158).  A last sent second or a last command sequence of none is written
as an absent field: the model's choice (R140, R191; log entry 20). -/
def chainContents (s : State) : List Byte :=
  let u := s.chain
  putChainConfig u.config ++ putRole u.role ++ putU 1 u.address ++ putUpstream u.upstream
    ++ putU 1 u.unattached ++ putB (isIsland u) ++ putOpt 2 putSwap u.swap
    ++ putRecord u.portA ++ putRecord u.portB ++ putOpt 9 putUpstreamFrame u.lastUpstream
    ++ putOptU 6 u.lastSent ++ putU 1 u.sequence ++ putU 1 u.overwrites
    ++ putOpt 3 putCommandSlot u.commandSlot ++ putU 1 u.nextCommand ++ putB u.outbox.isSome
    ++ putB u.inbox.isSome ++ putU 1 u.lostWords ++ putOptU 1 u.lastCommand
    ++ putB u.portA.loss ++ putB u.portB.loss ++ putB (conflictPresent u) ++ putB (tooLongPresent u)

/-! ## Scheduler (R167) -/

/-- A pending action.  An argument of none is written as an absent field: the model's choice (R160, R191; log
entry 20). -/
def putAction (a : Action) : List Byte :=
  putU 2 a.id ++ putActionKind a.kind ++ putU 6 a.due ++ putOptU 1 a.arg ++ putActionSource a.source

/-- The reply contents of GET_ACTIONS (R167).  One octet is both the number of pending actions and the count
of their list: the model's choice (R191; log entry 20). -/
def actionContents (s : State) : List Byte :=
  putList putAction s.scheduler.table ++ putU 2 s.scheduler.nextId ++ putB s.scheduler.wrapped
    ++ putLeapOption s.time.leap ++ putU 6 s.time.base

/-! ## Alarms (R180) -/

/-- An entry of the alarm table, in the order of R169. -/
def putEntry (e : AlarmEntry) : List Byte :=
  putB e.condition ++ putEntryState e.state ++ putB e.acknowledged ++ putU 2 e.timer.left
    ++ putOptU 6 e.raisedAt ++ putOptU 6 e.clearedAt ++ putU 1 e.raiseCount

/-- The reply contents of GET_ALARMS for a kind (R180). -/
def alarmContents (g : AlarmGroup) : List Byte := putAlarmConfig g.config ++ g.entries.flatMap putEntry

/-- The state and acknowledged flag of an entry. -/
def putEntrySummary (e : AlarmEntry) : List Byte := putEntryState e.state ++ putB e.acknowledged

/-- The reply contents of GET_ALARMS for SUMMARY (R180).  An asserted contact is coded 1, a released one 0:
the model's choice (R191; log entry 20). -/
def summaryContents (u : AlarmUnit) : List Byte :=
  u.groups.toList.flatMap (fun g => g.entries.flatMap putEntrySummary) ++ putB u.crit ++ putB u.maj
    ++ putU 1 u.queue.length ++ putU 2 u.dropped ++ putB u.attentionOn

/-! ## Link (R186) -/

/-- The reply contents of GET_STATUS (R186). -/
def statusContents (s : State) : List Byte :=
  putPart s.part ++ putGrade s.holdover.grade ++ putServoState s.servo.state
    ++ putSlotOrNone s.selector.selected ++ putB s.time.timeSet ++ putU 6 s.time.base
    ++ putOptU 5 s.holdover.tee ++ putU 2 s.link.linkErrors ++ putU 2 s.link.overruns
    ++ putU 1 s.alarms.queue.length

end Sys2Proof.Machine
end

