-- ==== Sys2Proof/Machine/Restart.lean ====
section
/-!
DEFINITION. Start-up, the stored profile and the soft restart (R18, R44, R57, R74, R95, R115, R137,
R159, R168, R181, R187 to R190).
-/

namespace Sys2Proof.Machine

/-! ## Pin reset (R188) -/

/-- The part right after the reset pin is asserted: LOADING, every block at its pin-reset values, the
link mode as strapped.  The flash and the commands that wait outside the part are no part of it. -/
def pinReset (mode : LinkMode) (s : State) : State :=
  { State.reset with
    link := linkAtReset mode
    flash := s.flash
    pending := s.pending }

/-! ## Entering RUNNING (R181, R188) -/

/-- The reference records of a profile, with the fields that apply to each slot's kind (R19). -/
def profileReference (p : Profile) (k : Slot) : ReferenceConfig :=
  normalizeReference k (p.refs.get k)

/-- Every block at its starting state from the records of a profile and the address straps. -/
def startedBlocks (p : Profile) (address : Nat) (s : State) : State :=
  let f := clampTo p.servo.pullRange p.fBoot
  { s with
    part := .running
    time := { timeAtReset with correction := f }
    refs := PerSlot.of (fun k => monitorAtReset k (profileReference p k) false)
    filter := filterAtReset p.filter
    selector := selectorAtReset p.selection
    servo := servoAtReset p.servo f true
    holdover := holdoverAtReset p.holdover
    ports := p.ports.map portAtReset
    chain := chainAtReset p.chain (effectiveRole p.chain address) address
    scheduler := schedulerAtReset
    alarms := alarmsAtReset (fun k => p.alarms[alarmIndex k]) p.attention }

/-- Every block declares the conditions present in its state (R181), in the order of the alarm table: the
model's choice (R175; log entry 49). -/
def declareAll (s : State) : State := s.refreshAll allEntries

/-- Loading completes: with a good image its records, with none the defaults and PROFILE_DEFAULTED
(R188). -/
def enterRunning (p : Option Profile) (straps : BitVec 3) (s : State) : State :=
  let s := startedBlocks (p.getD defaultProfile) straps.toNat s
  declareAll (s.setLink { s.link with defaulted := p.isNone })

/-- The image that a completed read delivers, if it is good (R188). -/
def goodProfile (flash : Option FlashImage) : Option Profile :=
  match flash with
  | some i => if imageGood i then some i.profile else none
  | none => none

/-! ## Saving (R74, R95, R189) -/

/-- The selection record of a snapshot: a saved mode is recorded in place of the HOLD that replaced
it (R74). -/
def savedSelection (v : Selector) : SelectionConfig :=
  { v.config with mode := v.saved.getD v.config.mode }

/-- The snapshot that SAVE_PROFILE takes (R187, R189). -/
def snapshot (s : State) : Profile :=
  { refs := PerSlot.of (fun k => (s.ref k).config)
    filter := s.filter.config
    selection := savedSelection s.selector
    servo := s.servo.config
    holdover := s.holdover.config
    ports := s.ports.map (·.config)
    chain := s.chain.config
    alarms := s.alarms.groups.map (·.config)
    attention := s.alarms.attentionOn
    fBoot := s.servo.estimate }

/-- SAVE_PROFILE in RUNNING: the snapshot is taken and the image erased (R189). -/
def beginSave (s : State) : State :=
  ((s.setLink { s.link with saving := some (snapshot s) }).setFlash none).setPart .saving

/-- The save succeeds (R189).  PROFILE_DEFAULTED goes away, with the notice that this may post, before
PROFILE_SAVED is posted: the model's choice (R175; log entry 49). -/
def saveSucceeds (s : State) : State :=
  let s := s.setFlash
    (s.link.saving.map (fun p => { markerCorrect := true, checkMatches := true, profile := p }))
  let s := (s.setLink { s.link with saving := none, defaulted := false }).setPart .running
  (s.refresh .profileDefaulted 0).post (.profileSaved true) 0

/-- The save fails: the flash holds no good image (R189). -/
def saveFails (s : State) : State :=
  let s := (s.setLink { s.link with saving := none }).setPart .running
  s.post (.profileSaved false) 0

/-! ## The soft restart (R190) -/

/-- The holdover unit at RESTART (R115). -/
def restartedHoldover (base : Nat) (h : Holdover) : Holdover :=
  spoilAtStep base
    { h with
      fh := none, u := none, used := 0, e0 := none, frozenAging := 0, frozenDrift := 0, n := 0,
      tee := none, unavailable := false }

/-- The chain unit at RESTART (R159); what the chain ports put out last stands (log entry 34), and a sending
that waits for a due swap expiry and a frame that waits for its grade are dropped (log entry 52): the model's
choices. -/
def restartedChain (u : ChainUnit) : ChainUnit :=
  { chainAtReset u.config u.role u.address with
    lastSent := u.lastSent
    sequence := u.sequence
    nextCommand := u.nextCommand
    outA := u.outA
    outB := u.outB }

/-- The blocks as their chapters give for RESTART, the grade apart. -/
def restartedBlocks (s : State) : State :=
  { s with
    time := { s.time with leap := none }
    refs := PerSlot.of (fun k => monitorAtReset k (s.ref k).config (s.ref k).lockedOut)
    filter := filterAtReset s.filter.config
    selector := selectorAtReset s.selector.config
    servo := servoAtReset s.servo.config s.servo.estimate true
    holdover := restartedHoldover s.time.base s.holdover
    ports := s.ports.map (fun x => { x with queue := [] })
    chain := restartedChain s.chain
    scheduler := { s.scheduler with table := [], dueIds := [] }
    alarms := alarmsAtReset (fun k => (s.alarms.group k).config) s.alarms.attentionOn
    link := { s.link with linkErrors := 0, overruns := 0, restartDue := false } }

/-- The grade computed at the restart, presented to the ports, whose states change without a notice; the
PORT_SQUELCHED conditions are declared with the others (R115, R118, R137). -/
def restartedGrade (s : State) : State :=
  let g := gradeNow s
  (presentGrade g (s.setHoldover { s.holdover with grade := g })).setAlarms s.alarms

/-- The soft restart acts: the blocks, the grade, then every condition as an appearance (R190). -/
def softRestart (s : State) : State := declareAll (restartedGrade (restartedBlocks s))

end Sys2Proof.Machine
end

