-- ==== Sys2Proof/Machine/Requests.lean ====
section
/-!
DEFINITION. What each request of the host does once it is taken and handed to its owning block: the
new state and the answer (R13, R14, R17, R34, R40 to R45, R55, R56, R72, R73, R89, R92, R94, R111 to
R114, R119, R120, R131, R135, R136, R154 to R158, R161, R166, R167, R173, R177 to R180, R186, R189,
R190).
-/

namespace Sys2Proof.Machine

/-- A request handed to its owning block. -/
abbrev Request.Effect := State → State × Answer

/-- Answered OK with these reply contents. -/
def okWith (contents : List Byte) : Answer := { status := .ok, contents := contents, restart := false }

/-- Refused with this status, without contents. -/
def refusedWith (st : Status) : Answer := { status := st, contents := [], restart := false }

/-- Refused, the state left as it was. -/
def refuse (st : Status) (s : State) : State × Answer := (s, refusedWith st)

/-! ## Time base (R13, R14, R17) -/

/-- The offset written, if one is carried. -/
def writeOffset (offset : Option Nat) (s : State) : State :=
  s.setTime { s.time with offset := offset.getD s.time.offset }

/-- SET_TIME while time is set, in a state that takes it (R14). -/
def hostStep (seconds : Nat) (offset : Option Nat) (s : State) : State × Answer :=
  if seconds = 0 then refuse .invalid s
  else
    let amount := ((seconds : Int) - 1 - s.time.base) * Config.second
    (writeOffset offset (performStep .host amount s),
     okWith (putI 7 (stepEvent .host amount s).seconds))

/-- SET_TIME (R13, R14). -/
def requestSetTime (seconds : Nat) (offset : Option Nat) (s : State) : State × Answer :=
  if Config.maxSeconds < seconds ∨ 255 < offset.getD 0 then refuse .invalid s
  else if s.time.timeSet = false then
    (s.setTime { s.time with pendingSet := some { seconds := seconds, offset := offset } }, okWith [])
  else
    match s.servo.state with
    | .acquiring => refuse .wrongState s
    | .locked => refuse .wrongState s
    | .freerun => hostStep seconds offset s
    | .holdover => hostStep seconds offset s
    | .freqLocked => hostStep seconds offset s

/-- GET_TIME (R17). -/
def requestGetTime (s : State) : State × Answer := (s, okWith (timeContents s.time))

/-! ## Monitors (R34, R40 to R43) -/

/-- The monitor of a slot that is enabled enters ABSENT (R40). -/
def enableSlot (k : Slot) (c : ReferenceConfig) (s : State) : State :=
  reportToSelector (monitorConditions k (filterFollows k
    (modRef k (fun m => monitorAtReset k c m.lockedOut) s)))

/-- What a restart by SET_REFERENCE clears first (R40); the LINE interval in progress is given up
with the ring.  The level and the period timer, which a monitor that restarts into ABSENT keeps, are
brought within the new record's ranges (R21; log entry 28). -/
def restartCleared (c : ReferenceConfig) (m : Monitor) : Monitor :=
  { m with
    config := c
    level := min m.level (levelMax c)
    period := Timer.start c.period
    lastE := none
    lastDs := none
    lastFe := none
    ring := []
    line := { m.line with reference := none, fresh := false }
    skipNext := false }

/-- The monitor of a slot whose record changed restarts (R40). -/
def restartSlot (k : Slot) (c : ReferenceConfig) (s : State) : State :=
  let s := modRef k (restartCleared c) s
  if (s.ref k).signal then enterChecking k s else enterAbsent k s

/-- SET_REFERENCE's record is written and takes effect (R40).  With the slot off before and after it, the live
fields take their pin-reset values under the new record: the model's choice (log entry 28). -/
def configureSlot (k : Slot) (c : ReferenceConfig) (s : State) : State :=
  match (s.ref k).config.enabled, c.enabled with
  | false, false => modRef k (disabledMonitor k c) s
  | false, true => enableSlot k c s
  | true, false => enterDisabled k c s
  | true, true => if (s.ref k).config = c then s else restartSlot k c s

/-- SET_REFERENCE (R40). -/
def requestSetReference (n : Nat) (c : ReferenceConfig) (s : State) : State × Answer :=
  match slotOfNumber n with
  | some k =>
    if referenceOk k (normalizeReference k c) then
      (configureSlot k (normalizeReference k c) s, okWith [])
    else refuse .invalid s
  | none => refuse .invalid s

/-- GET_REFERENCE (R41). -/
def requestGetReference (n : Nat) (s : State) : State × Answer :=
  match slotOfNumber n with
  | some k => (s, okWith (referenceContents k (s.ref k)))
  | none => refuse .invalid s

/-- The locked-out flag written; a change is reported to the selector (R42). -/
def lockSlot (k : Slot) (on : Bool) (s : State) : State :=
  if (s.ref k).lockedOut = on then s
  else reportToSelector (modRef k (fun m => { m with lockedOut := on }) s)

/-- LOCKOUT (R42). -/
def requestLockout (n : Nat) (on : Bool) (s : State) : State × Answer :=
  match slotOfNumber n with
  | some k => (lockSlot k on s, okWith [])
  | none => refuse .invalid s

/-- The two total counts of a monitor returned to 0 (R43). -/
def clearedCounts (m : Monitor) : Monitor := { m with totalViolations := 0, totalMissing := 0 }

/-- CLEAR_COUNTS (R43). -/
def requestClearCounts (slot : Option Nat) (s : State) : State × Answer :=
  match slot with
  | none =>
    (s.setRefs (mapRefs (fun _ m => clearedCounts m) s.refs),
     okWith (allSlots.flatMap (fun k => countContents (s.ref k))))
  | some n =>
    match slotOfNumber n with
    | some k => (modRef k clearedCounts s, okWith (countContents (s.ref k)))
    | none => refuse .invalid s

/-- LABEL (R34). -/
def requestLabel (n seconds : Nat) (s : State) : State × Answer :=
  match slotOfNumber n with
  | some k =>
    if isSat k = false ∨ Config.maxSeconds < seconds then refuse .invalid s
    else if (s.ref k).state = .disabled then refuse .wrongState s
    else (modRef k (fun m => { m with label := some seconds }) s, okWith [])
  | none => refuse .invalid s

/-! ## Sample filter (R45, R55, R56) -/

/-- SAMPLE (R45). -/
def requestSample (sequence : Nat) (offset : Int) (delay : Nat) (grade : Grade) (s : State) :
    State × Answer :=
  if sampleInRange sequence offset delay then
    let r := judgeSample
      { sequence := sequence, offset := offset, delay := delay, grade := grade,
        arrival := s.time.base } s
    (r.1, okWith (putSampleResult r.2 ++ putU 1 r.1.filter.window.length))
  else refuse .invalid s

/-- SET_FILTER (R55). -/
def requestSetFilter (c : FilterConfig) (s : State) : State × Answer :=
  if filterOk c then (s.setFilter (configureFilter c s.filter), okWith []) else refuse .invalid s

/-- The five counts of the filter returned to 0 (R56). -/
def clearedFilter (f : Filter) : Filter :=
  { f with accepted := 0, old := 0, delayHigh := 0, disabled := 0, lost := 0 }

/-- GET_FILTER (R56). -/
def requestGetFilter (clear : Bool) (s : State) : State × Answer :=
  (if clear then s.setFilter (clearedFilter s.filter) else s, okWith (filterContents s.filter))

/-! ## Selector (R72, R73) -/

/-- The dwell timer reduced to a lower minimum; at 0 it has expired (R72). -/
def reducedDwell (minDwell : Nat) (t : Timer) : Timer :=
  if minDwell < t.left then Timer.start minDwell else t

/-- SET_SELECTION's record is written and takes effect (R72). -/
def configureSelection (c : SelectionConfig) (s : State) : State :=
  let cause := if s.selector.config.mode = c.mode then EvalCause.setting else .mode
  evaluate cause
    (s.setSelector
      { s.selector with
        config := c
        saved := none
        pendingSwitch := none
        dwell := reducedDwell c.minDwell s.selector.dwell })

/-- SET_SELECTION (R72). -/
def requestSetSelection (c : SelectionConfig) (s : State) : State × Answer :=
  if selectionOk c then (configureSelection c s, okWith []) else refuse .invalid s

/-- GET_SELECTION (R73). -/
def requestGetSelection (s : State) : State × Answer := (s, okWith (selectionContents s))

/-! ## Servo (R89, R92, R94) -/

/-- I and F clamped to a changed pull range, and the pull runs cleared (R89). -/
def clampLoop (pull : Nat) (s : State) : State :=
  clearPullRuns
    ((s.setServo { s.servo with estimate := clampTo pull s.servo.estimate }).setTime
      { s.time with correction := clampTo pull s.time.correction })

/-- SET_SERVO's record is written and takes effect (R89). -/
def configureServo (c : ServoConfig) (s : State) : State :=
  let changed := decide (s.servo.config.pullRange ≠ c.pullRange)
  let s := s.setServo { s.servo with config := c }
  if changed then clampLoop c.pullRange s else s

/-- SET_SERVO (R89). -/
def requestSetServo (c : ServoConfig) (s : State) : State × Answer :=
  if servoOk c then (configureServo c s, okWith []) else refuse .invalid s

/-- GET_SERVO (R94). -/
def requestGetServo (s : State) : State × Answer := (s, okWith (servoContents s))

/-- ALLOW_STEP (R92). -/
def requestAllowStep (s : State) : State × Answer :=
  let r := grantToken s
  (r.1, okWith (putB r.2))

/-! ## Holdover unit (R111 to R114) -/

/-- SET_HOLDOVER (R111): the conditions and the grade follow the new budget and percentage at once. -/
def requestSetHoldover (c : HoldoverConfig) (s : State) : State × Answer :=
  if holdoverOk c then
    (judgeEstimate (s.setHoldover { s.holdover with config := c }), okWith (putU 4 (warningLevel c)))
  else refuse .invalid s

/-- GET_HOLDOVER (R112). -/
def requestGetHoldover (s : State) : State × Answer := (s, okWith (holdoverContents s))

/-- GET_HISTORY (R113). -/
def requestGetHistory (start count : Nat) (s : State) : State × Answer :=
  if inRange 0 63 start && inRange 1 16 count then
    (s, okWith (historyContents start count s.holdover.history))
  else refuse .invalid s

/-- CLEAR_HISTORY (R114). -/
def requestClearHistory (s : State) : State × Answer :=
  (s.setHoldover (spoilAtStep s.time.base { s.holdover with history := [] }),
   okWith (putU 1 s.holdover.history.length))

/-! ## Ports (R119, R120, R131, R135, R136) -/

/-- A request that names a port; a number above 11 is refused. -/
def onPort (n : Nat) (f : Fin 12 → Request.Effect) : Request.Effect := fun s =>
  match portOfNumber n with
  | some p => f p s
  | none => refuse .invalid s

/-- SET_PORT's record is written and the port is held (R135). -/
def configurePort (c : PortConfig) (p : Fin 12) (s : State) : State :=
  let x := { s.port p with config := c, delay := c.delayComp, queue := [] }
  match x.state with
  | .off => s.setPort p x
  | .held => s.setPort p x
  | .armed => portMove p .held .request (s.setPort p (portCleared x))
  | .active => portMove p .held .request (s.setPort p (portCleared x))
  | .squelched => portMove p .held .request (s.setPort p (portCleared x))

/-- SET_PORT (R135). -/
def requestSetPort (n : Nat) (c : PortConfig) : Request.Effect :=
  onPort n fun p s =>
    if portOk c then
      let s' := configurePort c p s
      (s', okWith (putPortState (s'.port p).state ++ putU 1 (s.port p).queue.length))
    else refuse .invalid s

/-- ENABLE_PORT (R119): the unchanged mark and the state after the request. -/
def requestEnablePort (n : Nat) : Request.Effect :=
  onPort n fun p s =>
    let r := portEnable p .request s
    (r.1, okWith (putB (!r.2) ++ putPortState (r.1.port p).state))

/-- DISABLE_PORT (R120): the unchanged mark. -/
def requestDisablePort (n : Nat) : Request.Effect :=
  onPort n fun p s =>
    let r := portDisable p .request s
    (r.1, okWith (putB (!r.2)))

/-- An adjustment joins the port's queue (R131). -/
def joinAdjustment (amount : Int) (x : Port) : Port :=
  { x with queue := x.queue ++ [{ requested := amount, remainder := amount }] }

/-- ADJUST_PORT (R131). -/
def requestAdjustPort (n : Nat) (amount : Int) : Request.Effect :=
  onPort n fun p s =>
    if amount = 0 ∨ Config.maxDelay < amount.natAbs then refuse .invalid s
    else if Config.adjustSize ≤ (s.port p).queue.length then refuse .full s
    else
      (s.setPort p (joinAdjustment amount (s.port p)),
       okWith (putU 1 ((s.port p).queue.length + 1)))

/-- GET_PORT (R136). -/
def requestGetPort (n : Nat) : Request.Effect := onPort n fun p s => (s, okWith (portContents p s))

/-! ## Chain (R154 to R158) -/

/-- SET_CHAIN (R157): the reply carries the effective role. -/
def requestSetChain (c : ChainConfig) (s : State) : State × Answer :=
  if chainOk c then
    let s := configureChain c s
    (s, okWith (putRole s.chain.role))
  else refuse .invalid s

/-- GET_CHAIN (R158). -/
def requestGetChain (s : State) : State × Answer := (s, okWith (chainContents s))

/-- The argument of a chain command is as R154 has it: present and in range for LEAP, absent for the
other kinds. -/
def commandArgOk (k : ChainCommandKind) (arg : Option Leap) : Bool :=
  match k, arg with
  | .leap, some l => decide (l.due ≤ Config.maxSeconds)
  | .leap, none => false
  | .hold, a => a.isNone
  | .release, a => a.isNone
  | .stepPermit, a => a.isNone

/-- A command enters the leader's slot with the next sequence (R154). -/
def placeCommand (k : ChainCommandKind) (target : Nat) (arg : Option Leap) (u : ChainUnit) :
    ChainUnit :=
  { u with
    commandSlot := some { kind := k, target := target, sequence := u.nextCommand, arg := arg }
    nextCommand := (u.nextCommand + 1) % 256 }

/-- CHAIN_COMMAND (R154).  Target 7 in a part whose station address is 7 is INVALID by the first of the
tests that R154 judges in order, before the role is judged: DEDUCED (R138; log entry 53). -/
def requestChainCommand (kind : Option ChainCommandKind) (target : Nat) (arg : Option Leap)
    (s : State) : State × Answer :=
  match kind with
  | none => refuse .invalid s
  | some k =>
    if 7 < target ∨ target = s.chain.address ∨ commandArgOk k arg = false then refuse .invalid s
    else if s.chain.role ≠ .leader then refuse .notLeader s
    else if s.chain.commandSlot.isSome then refuse .busy s
    else (modChain (placeCommand k target arg) s, okWith (putU 1 s.chain.nextCommand))

/-- CHAIN_CANCEL (R154). -/
def requestChainCancel (s : State) : State × Answer :=
  match s.chain.commandSlot with
  | some c => (modChain (fun u => { u with commandSlot := none }) s, okWith (putU 1 c.sequence))
  | none => refuse .tooLate s

/-- POST_WORD (R155). -/
def requestPostWord (w : Word32) (s : State) : State × Answer :=
  if s.chain.role ≠ .leader then refuse .notLeader s
  else if s.chain.outbox.isSome then refuse .busy s
  else (modChain (fun u => { u with outbox := some w }) s, okWith [])

/-- FETCH_WORD (R156). -/
def requestFetchWord (s : State) : State × Answer :=
  (modChain (fun u => { u with inbox := none }) s, okWith (putOpt 11 putInbox s.chain.inbox))

/-! ## Scheduler (R161, R166, R167) -/

/-- SCHEDULE (R161). -/
def requestSchedule (kind : Option ActionKind) (due : Nat) (arg : Option Nat) (s : State) :
    State × Answer :=
  let r := enterAction kind due arg .host s
  match r.2 with
  | .invalid => (r.1, refusedWith .invalid)
  | .tooLate => (r.1, refusedWith .tooLate)
  | .full => (r.1, refusedWith .full)
  | .entered id => (r.1, okWith (putU 2 id))

/-- CANCEL (R166).  An action already due comes too late; between commands none is, since those due are taken
within the event that makes them due. -/
def requestCancel (id : Nat) (s : State) : State × Answer :=
  if id = 0 ∨ 65535 < id then refuse .invalid s
  else
    match s.scheduler.table.find? (fun a => decide (a.id = id)) with
    | some a =>
      if isDue s.scheduler a then refuse .tooLate s
      else (removeAction id s, okWith (putActionKind a.kind ++ putU 6 a.due))
    | none => if idIssued s.scheduler id then refuse .tooLate s else refuse .unknownId s

/-- GET_ACTIONS (R167). -/
def requestGetActions (s : State) : State × Answer := (s, okWith (actionContents s))

/-! ## Alarms and notices (R173, R177 to R180) -/

/-- SET_ALARM (R179). -/
def requestSetAlarm (kind : Option AlarmKind) (c : AlarmConfig) (s : State) : State × Answer :=
  match kind with
  | some k =>
    if alarmOk c then
      (s.setAlarms (refreshOutputs (s.alarms.setGroup k { s.alarms.group k with config := c })),
       okWith [])
    else refuse .invalid s
  | none => refuse .invalid s

/-- GET_ALARMS (R180). -/
def requestGetAlarms (q : AlarmQuery) (s : State) : State × Answer :=
  match q with
  | .kind k => (s, okWith (alarmContents (s.alarms.group k)))
  | .summary => (s, okWith (summaryContents s.alarms))
  | .unknown => refuse .invalid s

/-- An acknowledgement sets the entry's flag or changes its state (R173). -/
def ackCounts (u : AlarmUnit) (x : AlarmKind × Nat) : Bool :=
  match u.entry? x.1 x.2 with
  | some e =>
    decide (e.state = .latched)
      || (decide (e.state = .raised ∨ e.state = .pendingClear) && !e.acknowledged)
  | none => false

/-- One entry is acknowledged, and counted if that affects it (R173). -/
def acknowledgeOne (r : State × Nat) (x : AlarmKind × Nat) : State × Nat :=
  (r.1.moveAlarm entryAcknowledged x.1 x.2, r.2 + (ackCounts r.1.alarms x).toNat)

/-- Entries are acknowledged one after another; the reply carries how many it affected (R173). -/
def acknowledge (l : List (AlarmKind × Nat)) (s : State) : State × Answer :=
  let r := l.foldl acknowledgeOne (s, 0)
  (r.1, okWith (putU 1 r.2))

/-- ACK_ALARM (R173).  ALL goes through the entries in the order of the alarm table: the model's choice (R175;
log entry 49). -/
def requestAckAlarm (target : AckTarget) (s : State) : State × Answer :=
  match target with
  | .entry k n => if n < alarmCount k then acknowledge [(k, n)] s else refuse .invalid s
  | .all => acknowledge allEntries s
  | .unknown => refuse .invalid s

/-- The OVERFLOW notice that takes the place a reading freed (R177). -/
def reportOverflow (removed : Nat) (s : State) : State :=
  if removed ≠ 0 ∧ s.alarms.dropped ≠ 0 then
    let s := s.post (.overflow s.alarms.dropped) 0
    (s.setAlarms { s.alarms with dropped := 0 }).declare .noticeOverflow 0 false
  else s

/-- GET_NOTICES (R177). -/
def requestGetNotices (max : Nat) (s : State) : State × Answer :=
  if inRange 1 8 max then
    let taken := s.alarms.queue.take max
    let s := s.setAlarms (refreshOutputs { s.alarms with queue := s.alarms.queue.drop max })
    let s := reportOverflow taken.length s
    (s, okWith (putList putNotice taken ++ putU 1 s.alarms.queue.length))
  else refuse .invalid s

/-- SET_ATTENTION (R178). -/
def requestSetAttention (on : Bool) (s : State) : State × Answer :=
  (s.setAlarms (refreshOutputs { s.alarms with attentionOn := on }), okWith (putB s.alarms.attentionOn))

/-! ## Link (R186, R189, R190) -/

/-- GET_STATUS (R186). -/
def requestGetStatus (s : State) : State × Answer := (s, okWith (statusContents s))

/-- SAVE_PROFILE (R189). -/
def requestSaveProfile (s : State) : State × Answer :=
  if s.part = .saving then refuse .busy s else (beginSave s, okWith [])

/-- RESTART (R190): the soft restart acts when this reply has been sent. -/
def requestRestart (s : State) : State × Answer :=
  if s.part = .saving then refuse .busy s
  else (s, { status := .ok, contents := [], restart := true })

end Sys2Proof.Machine
end

