-- ==== Sys2Proof/Machine/Link.lean ====
section
/-!
DEFINITION. The link controller (chapter 11): the request catalogue, the judgement of a taken request,
the transmitter, the request buffer and the receiver.
-/

namespace Sys2Proof.Machine

/-! ## The request catalogue (11.3) -/

/-- The kinds of the catalogue. -/
def catalogue : List Nat :=
  [0x01, 0x02, 0x08, 0x09, 0x0A, 0x0B, 0x0C, 0x10, 0x11, 0x12, 0x14, 0x15, 0x18, 0x19, 0x1A,
   0x1C, 0x1D, 0x1E, 0x1F, 0x20, 0x21, 0x22, 0x23, 0x24, 0x28, 0x29, 0x2A, 0x2B, 0x2C, 0x2D,
   0x30, 0x31, 0x32, 0x34, 0x35, 0x36, 0x37, 0x38, 0x3C, 0x3D, 0x3E]

/-- A kind stands in the catalogue. -/
def knownKind (kind : Byte) : Bool := catalogue.contains kind.toNat

/-- A request of one field or several, read whole from its body. -/
def reads {α : Type} (r : Reader α) (f : α → Request.Effect) (body : List Byte) :
    Option Request.Effect :=
  (readAll r body).map f

/-- A request without parameters. -/
def readsNone (f : Request.Effect) (body : List Byte) : Option Request.Effect :=
  reads readNothing (fun _ => f) body

/-- The effect of a request from its kind and its body's octets; none when the body does not give the
kind's fields (R185). -/
def requestEffect (kind : Nat) (b : List Byte) : Option Request.Effect :=
  match kind with
  | 0x01 => reads readSetTime (fun x => requestSetTime x.1 x.2) b
  | 0x02 => readsNone requestGetTime b
  | 0x08 => reads readSetReference (fun x => requestSetReference x.1 x.2) b
  | 0x09 => reads (readU 1) requestGetReference b
  | 0x0A => reads (readPair (readU 1) readB) (fun x => requestLockout x.1 x.2) b
  | 0x0B => reads (readU 1) (fun n => requestClearCounts (slotOrAll n)) b
  | 0x0C => reads (readPair (readU 1) (readU 6)) (fun x => requestLabel x.1 x.2) b
  | 0x10 => reads readSample (fun x => requestSample x.1 x.2.1 x.2.2.1 x.2.2.2) b
  | 0x11 => reads readFilterConfig requestSetFilter b
  | 0x12 => reads readB requestGetFilter b
  | 0x14 => reads readSelection requestSetSelection b
  | 0x15 => readsNone requestGetSelection b
  | 0x18 => reads readServoConfig requestSetServo b
  | 0x19 => readsNone requestGetServo b
  | 0x1A => readsNone requestAllowStep b
  | 0x1C => reads readHoldoverConfig requestSetHoldover b
  | 0x1D => readsNone requestGetHoldover b
  | 0x1E => reads (readPair (readU 1) (readU 1)) (fun x => requestGetHistory x.1 x.2) b
  | 0x1F => readsNone requestClearHistory b
  | 0x20 => reads (readPair (readU 1) readPortConfig) (fun x => requestSetPort x.1 x.2) b
  | 0x21 => reads (readU 1) requestEnablePort b
  | 0x22 => reads (readU 1) requestDisablePort b
  | 0x23 => reads (readPair (readU 1) (readI 4)) (fun x => requestAdjustPort x.1 x.2) b
  | 0x24 => reads (readU 1) requestGetPort b
  | 0x28 => reads readChainConfig requestSetChain b
  | 0x29 => readsNone requestGetChain b
  | 0x2A => reads readChainCommand (fun x => requestChainCommand x.1 x.2.1 x.2.2) b
  | 0x2B => readsNone requestChainCancel b
  | 0x2C => reads (readU 4) (fun n => requestPostWord (BitVec.ofNat 32 n)) b
  | 0x2D => readsNone requestFetchWord b
  | 0x30 => reads readSchedule (fun x => requestSchedule x.1 x.2.1 x.2.2) b
  | 0x31 => reads (readU 2) requestCancel b
  | 0x32 => readsNone requestGetActions b
  | 0x34 => reads readSetAlarm (fun x => requestSetAlarm x.1 x.2) b
  | 0x35 => reads (readU 1) (fun n => requestGetAlarms (alarmQueryOf n)) b
  | 0x36 => reads (readPair (readU 1) (readU 1)) (fun x => requestAckAlarm (ackTargetOf x.1 x.2)) b
  | 0x37 => reads (readU 1) requestGetNotices b
  | 0x38 => reads readB requestSetAttention b
  | 0x3C => readsNone requestGetStatus b
  | 0x3D => readsNone requestSaveProfile b
  | 0x3E => readsNone requestRestart b
  | _ => none

/-! ## Taking a request (R185) -/

/-- A request whose kind and body have been judged: NOT_READY in LOADING except GET_STATUS, else the
owning block's answer (R185, tests 2 and 4). -/
def handOver (kind : Byte) (f : Request.Effect) (s : State) : State × Answer :=
  if s.part = .loading ∧ kind ≠ 0x3C then refuse .notReady s else f s

/-- The judgement of a taken request (R185). -/
def judgeRequest (r : Request) (s : State) : State × Answer :=
  if knownKind r.kind = false then refuse .unknownKind s
  else if s.part = .loading ∧ r.kind ≠ 0x3C then refuse .notReady s
  else
    match requestEffect r.kind.toNat r.body with
    | some f => f s
    | none => refuse .invalid s

/-- The answer of a taken request becomes the newest reply of the transmitter (R184). -/
def addReply (kind tag : Byte) (x : State × Answer) : State :=
  x.1.setLink
    { x.1.link with replies := x.1.link.replies ++ [{ kind := kind, tag := tag, answer := x.2 }] }

/-- A request is taken and judged. -/
def takeRequest (r : Request) (s : State) : State := addReply r.kind r.tag (judgeRequest r s)

/-! ## The transmitter (R184, R190) -/

/-- An idle transmitter sends the next overrun answer, or the oldest buffered request is taken
(R184). -/
def serveNext (s : State) : State :=
  match s.link.replies, s.link.waiting with
  | [], .request r :: rest => takeRequest r (s.setLink { s.link with waiting := rest })
  | [], .overrun kind tag :: rest =>
    addReply kind tag (refuse .overrun (s.setLink { s.link with waiting := rest }))
  | [], [] => s
  | _ :: _, _ => s

/-- The soft restart, if a RESTART's reply has been sent; the next buffered request is taken after it
(R190). -/
def restartActs (s : State) : State := if s.link.restartDue then serveNext (softRestart s) else s

/-- A command that is the taking of a request whose kind and body stand as judged (R184, R185): a
soft restart that is due acts first. -/
def takeTyped (kind tag : Byte) (f : Request.Effect) (s : State) : State :=
  addReply kind tag (handOver kind f (restartActs s))

/-- The transmitter finishes the reply it is sending (R184); after a RESTART's reply the soft restart
acts before the next request is taken (R190). -/
def replyFinished (s : State) : State :=
  match s.link.replies with
  | [] => s
  | r :: rest =>
    let s := s.setLink
      { s.link with replies := rest, restartDue := s.link.restartDue || r.answer.restart }
    if r.answer.restart then s else serveNext s

/-! ## The data-out pin (R182) -/

/-- The octet that an SPI target sends when no reply octet is ready (R182). -/
def idleOctet : Byte := 0x00

/-- The octet that the part puts out in place `i` of the reply it is sending (R182): past that reply, or with
none to send, an SPI target sends the idle octet and a UART nothing. -/
def octetOut (i : Nat) (k : Link) : Option Byte :=
  match (k.replies.head?.map encodeReply).bind (fun l => l[i]?), k.mode with
  | some b, _ => some b
  | none, .spi => some idleOctet
  | none, .uart => none

/-! ## The request buffer (R184) -/

/-- The requests that wait. -/
def bufferedCount (l : List Waiting) : Nat :=
  (l.filter fun w => match w with
    | .request _ => true
    | .overrun _ _ => false).length

/-- The overrun answers that wait. -/
def overrunCount (l : List Waiting) : Nat :=
  (l.filter fun w => match w with
    | .request _ => false
    | .overrun _ _ => true).length

/-- A request that finds the transmitter busy: it is buffered, or recorded as an overrun answer, or
discarded (R184). -/
def queueRequest (r : Request) (s : State) : State :=
  let k := s.link
  if bufferedCount k.waiting < 2 then s.setLink { k with waiting := k.waiting ++ [.request r] }
  else
    let k := { k with overruns := satSucc Config.count16 k.overruns }
    if overrunCount k.waiting < 8 then
      s.setLink { k with waiting := k.waiting ++ [.overrun r.kind r.tag] }
    else s.setLink k

/-- A request arrives (R184): it is taken at once when nothing is buffered and every earlier reply has
been sent. -/
def acceptRequest (r : Request) (s : State) : State :=
  let s := restartActs s
  if s.link.replies.isEmpty && s.link.waiting.isEmpty then takeRequest r s else queueRequest r s

/-! ## The receiver (R183) -/

/-- A discarded frame is counted (R183). -/
def linkError (s : State) : State :=
  s.setLink { s.link with linkErrors := satSucc Config.count16 s.link.linkErrors }

/-- A complete frame whose octets after the sync stand at the head of `l` (R183); `n` is its body
length. -/
def completeFrame (l : List Byte) (n : Nat) (s : State) : State :=
  if slice l (4 + n) 2 = checkOctets (l.take (4 + n)) then
    acceptRequest { kind := l.getD 2 0, tag := l.getD 3 0, body := slice l 4 n } s
  else linkError s

/-- The receiver goes through the octets (R183): it skips to a sync, discards an overlong frame at its
length octets, and takes a complete frame; octets of a frame that is not complete have no effect by
themselves.  The fuel is the number of octets. -/
def receiveOctets : Nat → List Byte → State → State
  | 0, _, s => s
  | _ + 1, [], s => s
  | fuel + 1, b :: rest, s =>
    if b ≠ 0xA5 then receiveOctets fuel rest s
    else if rest.length < 2 then s
    else
      let n := getU (rest.take 2)
      if Config.maxBody < n then receiveOctets fuel (rest.drop 2) (linkError s)
      else if rest.length < 6 + n then s
      else receiveOctets fuel (rest.drop (6 + n)) (completeFrame rest n s)

end Sys2Proof.Machine
end

