-- ==== Sys2Proof/Machine/Boundary.lean ====
section
/-!
DEFINITION. Marked boundaries and timer expiries: what SECOND_BOUNDARY does in every block (R3, R13,
R46 to R165), and the settling of expiries that are due before time runs on.
-/

namespace Sys2Proof.Machine

/-! ## Expiries that are due -/

/-- The expiries of one monitor's timers. -/
def slotExpiries (s : State) (k : Slot) : State := waitEnds k (qualifies k (periodEnds k s))

/-- The expiry of one alarm entry's timer. -/
def entryExpiries (s : State) (x : AlarmKind × Nat) : State :=
  (s.moveAlarm entryRaiseExpires x.1 x.2).moveAlarm entryClearExpires x.1 x.2

/-- The raise and clear timers that are due expire (R171, R172), in the order of the alarm table where they are
delivered together: the model's choice (R175; log entries 5, 49). -/
def alarmExpiries (s : State) : State := allEntries.foldl entryExpiries s

/-- Every expiry that is due is delivered, every window whose close the count has reached is judged,
and a soft restart that is due acts (log entry 5). -/
def settle (s : State) : State :=
  let s := restartActs s
  let s := allSlots.foldl slotExpiries s
  let s := closeWindows s
  let s := dwellExpires s
  let s := allPorts.foldl (fun s p => rearmExpires p s) s
  let s := tooLongExpires (conflictExpires (swapExpires s))
  alarmExpiries s

/-! ## Running the count on within the second (R2, R26) -/

/-- A run past half a second judges the windows that close there (R26). -/
def passHalf (t : Nat) (s : State) : State :=
  if s.time.frac < Config.half ∧ Config.half < t then closeWindows (runTo Config.half s) else s

/-- The count runs on to fraction `t`, judging the windows it passes. -/
def runPast (t : Nat) (s : State) : State := runTo t (passHalf t s)

/-- What is due is delivered before the count runs on to a fraction ahead of it (log entry 5). -/
def settleBefore (t : Nat) (s : State) : State := if s.time.frac < t then settle s else s

/-- The count runs on to fraction `t` of the running second, once what is due has been delivered; a
fraction that is not ahead of the count changes nothing.  An emission instant or a clock edge that the
run passes without its own command is left unused, and a line silence that it passes without LINE_LOSS
declares no loss: the model's choice (log entry 47). -/
def advanceTo (t : Nat) (s : State) : State :=
  if counting s && decide (s.time.frac < t) && decide (t < Config.second) then runPast t (settle s)
  else s

/-! ## Marking the boundary (R3, R13) -/

/-- The second that the next marked boundary begins (R3, R13). -/
def nextSecond (t : TimeBase) : Nat :=
  match t.pendingSet with
  | some p => p.seconds
  | none => t.base + 1

/-- The count passes from 999,999,999,999 to 0, and base seconds takes its new value. -/
def markTime (t : TimeBase) : TimeBase := { t with base := nextSecond t, frac := 0, counted := 0 }

/-- Every timer counts the marked boundary once, before any block acts on it, so that a timer set at
this boundary does not count it. -/
def countTimers (counted : Nat) (s : State) : State :=
  let s := s.setAlarms (tickEntries s.alarms)
  let s := s.setRefs (mapRefs (countMonitor counted) s.refs)
  let s := s.setSelector { s.selector with dwell := s.selector.dwell.tick }
  let s := s.setPorts (s.ports.map (fun x => { x with rearm := x.rearm.tick, activated := false }))
  s.setHoldover { s.holdover with recorded := none }

/-- The pending set gives this boundary its second: the flag, the offset, the notice, the grade and
the HOST step (R13). -/
def applyPending (old : Nat) (p : PendingSet) (s : State) : State :=
  let ev := pendingEvent old p.seconds
  let s := s.setTime
    { s.time with timeSet := true, offset := p.offset.getD s.time.offset, pendingSet := none }
  let s := s.post (.timeSet .host ev.seconds) 0
  let s := timeGiven s
  if ev.seconds = 0 then s else presentStep ev s

/-! ## The blocks (R27, R39, R93, R100, R110) -/

/-- A LINE monitor's epoch at a boundary (R27). -/
def lineEpoch (k : LineSlot) (s : State) : State :=
  let m := s.ref (lineSlot k)
  if m.state = .disabled then s
  else if !m.signal then modRef (lineSlot k) missedEpoch s
  else if m.line.fresh then
    takeMeasurement (lineSlot k) { value := ringError m, ds := none, grade := none, allowance := none } s
  else s

/-- The servo at the boundary of second `n`: the minute's count of updates (R93). -/
def servoBoundary (n : Nat) (s : State) : State :=
  if n % 60 = 0 then s.setServo { s.servo with updates := 0 } else s

/-- The grade of second `n` is recorded, and the labels that wait for it are composed (R110). -/
def recordGrade (n : Nat) (s : State) : State :=
  let r := secondRecord n s
  let s := s.setHoldover { s.holdover with gradeOfSecond := r.grade, recorded := some r }
  composeDue (composeRecorded r s)

/-- The holdover unit at the boundary of second `n`: the minute, the estimate, the recording. -/
def holdoverBoundary (n : Nat) (s : State) : State :=
  let s := if n % 60 = 0 then s.setHoldover (closeMinute n s.holdover) else s
  recordGrade n (estimateSecond s)

/-- One part of the work at the boundary of second `n`: a block acts, an expiry that is due there is
delivered, or what arrives at the boundary's own instant is taken. -/
def blockActs (n : Nat) (s : State) (b : Block) : State :=
  match b with
  | .scheduler => boundaryActions s
  | .filter => filterBoundary n s
  | .line k => lineEpoch k s
  | .agreement => agreementJudge s
  | .servo => servoBoundary n s
  | .ports => portsBoundary s
  | .holdover => holdoverBoundary n s
  | .chain => chainBoundary n s
  | .slotTimers k => slotExpiries s k
  | .dwell => dwellExpires s
  | .rearm p => rearmExpires p s
  | .alarms => alarmExpiries s
  | .pulse k => satPulseArrives k s
  | .edges k m => lineEdgeArrives k m s
  | .silence k => lineLossTaken k s
  | .marker p => captureMarker p s
  | .frame p octets commandFirst => receiveFrame p octets commandFirst s
  | .instant p => boundaryInstant p n s
  | .clock p k rising => edgeArrives p k rising s

/-- The work is the delivery of expiries. -/
def isExpiry (b : Block) : Bool :=
  match b with
  | .slotTimers _ => true
  | .dwell => true
  | .rearm _ => true
  | .alarms => true
  | .scheduler => false
  | .filter => false
  | .line _ => false
  | .agreement => false
  | .servo => false
  | .ports => false
  | .holdover => false
  | .chain => false
  | .pulse _ => false
  | .edges _ _ => false
  | .silence _ => false
  | .marker _ => false
  | .frame _ _ _ => false
  | .instant _ => false
  | .clock _ _ _ => false

/-- The order in which the blocks act when none is named (log entry 6).  An expiry, or what arrives at the
boundary's own instant, comes within the boundary only where the order names it, else by its own command
after it. -/
def defaultOrder : List Block :=
  [.scheduler, .filter, .line .lineA, .line .lineB, .agreement, .chain, .servo, .holdover, .ports]

/-- A block joins an order in which it does not stand. -/
def joinOrder (l : List Block) (b : Block) : List Block := if l.contains b then l else l ++ [b]

/-- Every block once: those named first, in the order named, with the expiries named among them, then the
others of the default order. -/
def blockOrder (order : List Block) : List Block := (order ++ defaultOrder).foldl joinOrder []

/-! ## SECOND_BOUNDARY and END_OF_RANGE (R3, R4) -/

/-- A boundary can be marked: the count runs, and its last second has not begun (R4). -/
def canMark (s : State) : Bool := counting s && decide (s.time.base < Config.maxSeconds)

/-- The count at the end of the running second. -/
def runOut (s : State) : State := countPicos (Config.second - s.time.frac) s

/-- The expiries that the order names before any block come before the pending set too (log entry 6). -/
def expiriesFirst (n : Nat) (order : List Block) (s : State) : State :=
  ((blockOrder order).takeWhile isExpiry).foldl (blockActs n) s

/-- The blocks act, with the expiries that the order names among them (R3). -/
def blocksAct (n : Nat) (order : List Block) (s : State) : State :=
  ((blockOrder order).dropWhile isExpiry).foldl (blockActs n) s

/-- The boundary is marked, and every block acts on it.  The HOST step of a pending set reaches the
scheduler before the boundary of its second does, so its late actions are taken before those due there: the
model's choice (R164; log entry 54). -/
def markBoundary (order : List Block) (s : State) : State :=
  let old := s.time.base
  let pending := s.time.pendingSet
  let n := nextSecond s.time
  let counted := s.time.counted
  let s := markDue n (countTimers counted (s.setTime (markTime s.time)))
  let s := expiriesFirst n order s
  let s := match pending with
    | some p => applyPending old p s
    | none => s
  blocksAct n order s

/-- The next second boundary, if one can be marked (R3).  An emission instant or a clock edge that lies
before it and was not commanded is left unused, and a line silence without LINE_LOSS declares no loss: the
model's choice (log entry 47). -/
def nextBoundary (order : List Block) (s : State) : State :=
  if canMark s then markBoundary order (runOut (passHalf Config.second (settle s))) else s

/-- The last second of the range runs. -/
def inLastSecond (s : State) : Bool := counting s && decide (s.time.base = Config.maxSeconds)

/-- The count runs to the last instant of its range and holds there (R4). -/
def runToEnd (s : State) : State :=
  let s := runPast 999999999999 s
  s.setTime (holdAtEnd s.time)

/-- The count reaches the last instant of its range, unless what is due has taken it elsewhere (R4). -/
def reachEnd (s : State) : State :=
  if inLastSecond s then
    let s := settle s
    if inLastSecond s then runToEnd s else s
  else s

/-! ## The oscillator (R2 to R4) -/

/-- The time base advances by one picosecond: within its second, over the boundary that ends it, or to
the last instant of the range. -/
def onePico (s : State) : State :=
  if counting s then
    if s.time.frac + 1 < Config.second then countPicos 1 s
    else if s.time.base < Config.maxSeconds then settle (markBoundary [] (countPicos 1 s))
    else s.setTime (holdAtEnd s.time)
  else s

/-- The time base advances by `k` picoseconds. -/
def picos : Nat → State → State
  | 0, s => s
  | k + 1, s => picos k (onePico s)

/-- The oscillator counts one nominal picosecond; what falls below one picosecond of the time base is
carried (R2). -/
def oscillatorTick (s : State) : State :=
  if counting s then
    let a := oscillatorAdvance s.time
    picos a.1 (s.setTime { s.time with rem := a.2 })
  else s

/-- What passes when no command waits: what is due is delivered, and the oscillator counts one nominal
picosecond (log entry 4).  An emission instant or a clock edge that the count passes is left unused, and a
line silence that it passes declares no loss (log entry 47). -/
def idle (s : State) : State := oscillatorTick (settle s)

end Sys2Proof.Machine
end

