-- ==== Sys2Proof/Machine/Events.lean ====
section
/-!
DEFINITION. Events of the pins and of the count within a second, to which the count runs on: satellite
pulses and windows, line clocks, chain markers and frames, emissions, pulse ends and clock edges (R26, R27,
R125 to R127, R144).
-/

namespace Sys2Proof.Machine

/-! ## Satellite pulses (R26, R35) -/

/-- A pulse arrives at fraction `t` of the running second.  A pulse at fraction 0 that comes by this command
comes after the work of the marked boundary; one that the boundary's order names comes where it is named
(R71; log entry 6). -/
def satPulse (k : SatSlot) (t : Nat) (s : State) : State :=
  if s.started then satPulseArrives k (advanceTo t s) else s

/-- The count reaches half a second past the boundary (R26). -/
def satWindowClose (k : SatSlot) (s : State) : State :=
  if s.started then closeWindow k (advanceTo Config.half s) else s

/-! ## Line clocks (R27) -/

/-- The newest of `edges` edges arrives at fraction `t` of the running second; no edge changes nothing
but the count.  A silence of 1 ms that ends here without LINE_LOSS having been commanded is no loss: the
model's choice (log entry 47). -/
def lineEdge (k : LineSlot) (t edges : Nat) (s : State) : State :=
  if s.started then lineEdgeArrives k edges (advanceTo t s) else s

/-- The count reaches 1 ms past the newest edge, if it does so within the running second. -/
def lineLoss (k : LineSlot) (s : State) : State :=
  if s.started && (s.ref (lineSlot k)).signal then
    let t := s.time.frac + (Config.lineSilence - (s.ref (lineSlot k)).line.sinceEdge)
    lineLossTaken k (advanceTo t s)
  else s

/-! ## Chain ports (R144, R145) -/

/-- A marker edge arrives at fraction `t` of the running second. -/
def chainMarker (p : ChainPort) (t : Nat) (s : State) : State :=
  if s.started then captureMarker p (advanceTo t s) else s

/-- A TIME frame arrives at fraction `t` of the running second. -/
def chainFrame (p : ChainPort) (t : Nat) (octets : List Byte) (commandFirst : Bool) (s : State) :
    State :=
  if s.started then receiveFrame p octets commandFirst (advanceTo t s) else s

/-! ## Emission (R125 to R128, R132) -/

/-- The count stands at fraction `t`, or will reach it by counting (R125, R127). -/
def reaches (t : Nat) (s : State) : Bool :=
  decide (s.time.frac < t) || (decide (s.time.frac = t) && !s.time.landed)

/-- The emission instant that the count reaches next in the running second, with its fraction: that of
the boundary just marked for a delay of 0, else that of the next second.  An instant is reached by
counting alone, never by a step (R125). -/
def emissionInstant (x : Port) (s : State) : Option (Nat × Nat) :=
  if x.delay = 0 then
    if s.time.frac = 0 ∧ s.time.landed = false
        ∧ s.holdover.recorded.map SecondRecord.second = some s.time.base ∧ x.activated = false then
      some (s.time.base, 0)
    else none
  else if reaches (Config.second - x.delay) s ∧ s.time.base < Config.maxSeconds then
    some (s.time.base + 1, Config.second - x.delay)
  else none

/-- The count runs on to an emission instant, and the port uses it if it may (R125). -/
def runToInstant (p : Fin 12) (i : Nat × Nat) (s : State) : State :=
  let s := runPast i.2 s
  if usesInstant i.1 (s.port p) then useInstant p i.1 s else s

/-- The count reaches the port's emission instant (R125); what is due before it may move it. -/
def portEmission (p : Fin 12) (s : State) : State :=
  if counting s then
    match emissionInstant (s.port p) s with
    | some i =>
      let s := settleBefore i.2 s
      match emissionInstant (s.port p) s with
      | some j => runToInstant p j s
      | none => s
    | none => s
  else s

/-- The pulse width elapses (R126). -/
def pulseEnd (p : Fin 12) (s : State) : State :=
  if s.started then
    match (s.port p).pulseWidth with
    | some _ => s.setPort p { s.port p with pin := false, pulseWidth := none }
    | none => s
  else s

/-! ## Clock edges (R127) -/

/-- The count reaches an edge of the clock's second (R127); what is due before it may move it. -/
def clockEdge (p : Fin 12) (k : Nat) (rising : Bool) (s : State) : State :=
  if counting s then
    match edgeFraction k rising (s.port p) s with
    | some t =>
      let s := settleBefore t s
      match edgeFraction k rising (s.port p) s with
      | some t =>
        let s := runPast t s
        s.setPort p (edgedPort k rising (s.port p))
      | none => s
    | none => s
  else s

end Sys2Proof.Machine
end

