-- ==== Sys2Proof/Machine/AlarmCommands.lean ====
section
/-!
DEFINITION. The commands of the alarm unit (chapter 10), one definition each.
-/

namespace Sys2Proof.Machine

/-- SET_ALARM (R179). -/
def execSetAlarm (tag : Byte) (kind : Option AlarmKind) (config : AlarmConfig)
    (s : State) : Host.Outcome State Fault Refusal :=
  .next (takeTyped 0x34 tag (requestSetAlarm kind config) s)

/-- GET_ALARMS (R180). -/
def execGetAlarms (tag : Byte) (query : AlarmQuery)
    (s : State) : Host.Outcome State Fault Refusal :=
  .next (takeTyped 0x35 tag (requestGetAlarms query) s)

/-- ACK_ALARM (R173). -/
def execAckAlarm (tag : Byte) (target : AckTarget) (s : State) : Host.Outcome State Fault Refusal :=
  .next (takeTyped 0x36 tag (requestAckAlarm target) s)

/-- GET_NOTICES (R177). -/
def execGetNotices (tag : Byte) (max : Nat) (s : State) : Host.Outcome State Fault Refusal :=
  .next (takeTyped 0x37 tag (requestGetNotices max) s)

/-- SET_ATTENTION (R178). -/
def execSetAttention (tag : Byte) (on : Bool) (s : State) : Host.Outcome State Fault Refusal :=
  .next (takeTyped 0x38 tag (requestSetAttention on) s)

/-- RAISE_DELAY_EXPIRY (R171). -/
def execRaiseDelayExpiry (kind : AlarmKind) (number : Nat)
    (s : State) : Host.Outcome State Fault Refusal :=
  .next (s.moveAlarm entryRaiseExpires kind number)

/-- CLEAR_DELAY_EXPIRY (R172). -/
def execClearDelayExpiry (kind : AlarmKind) (number : Nat)
    (s : State) : Host.Outcome State Fault Refusal :=
  .next (s.moveAlarm entryClearExpires kind number)

end Sys2Proof.Machine
end

