-- ==== Sys2Proof/Machine/ChainCommands.lean ====
section
/-!
DEFINITION. The commands of the site chain (chapter 8), one definition each.
-/

namespace Sys2Proof.Machine

/-- SET_CHAIN (R157). -/
def execSetChain (tag : Byte) (config : ChainConfig)
    (s : State) : Host.Outcome State Fault Refusal :=
  .next (takeTyped 0x28 tag (requestSetChain config) s)

/-- GET_CHAIN (R158). -/
def execGetChain (tag : Byte) (s : State) : Host.Outcome State Fault Refusal :=
  .next (takeTyped 0x29 tag requestGetChain s)

/-- CHAIN_COMMAND (R154). -/
def execChainCommand (tag : Byte) (kind : Option ChainCommandKind) (target : Nat) (arg : Option Leap)
    (s : State) : Host.Outcome State Fault Refusal :=
  .next (takeTyped 0x2A tag (requestChainCommand kind target arg) s)

/-- CHAIN_CANCEL (R154). -/
def execChainCancel (tag : Byte) (s : State) : Host.Outcome State Fault Refusal :=
  .next (takeTyped 0x2B tag requestChainCancel s)

/-- POST_WORD (R155). -/
def execPostWord (tag : Byte) (word : Word32) (s : State) : Host.Outcome State Fault Refusal :=
  .next (takeTyped 0x2C tag (requestPostWord word) s)

/-- FETCH_WORD (R156). -/
def execFetchWord (tag : Byte) (s : State) : Host.Outcome State Fault Refusal :=
  .next (takeTyped 0x2D tag requestFetchWord s)

/-- CHAIN_MARKER (R144). -/
def execChainMarker (port : ChainPort) (t : Nat) (s : State) : Host.Outcome State Fault Refusal :=
  .next (chainMarker port t s)

/-- CHAIN_FRAME (R145). -/
def execChainFrame (port : ChainPort) (t : Nat) (octets : List Byte) (commandFirst : Bool)
    (s : State) : Host.Outcome State Fault Refusal :=
  .next (chainFrame port t octets commandFirst s)

/-- SWAP_TIMER_EXPIRY (R148, R149). -/
def execSwapTimerExpiry (s : State) : Host.Outcome State Fault Refusal :=
  .next (swapExpires s)

/-- CONFLICT_TIMER_EXPIRY (R143, R146). -/
def execConflictTimerExpiry (s : State) : Host.Outcome State Fault Refusal :=
  .next (conflictExpires s)

/-- TOO_LONG_TIMER_EXPIRY (R146). -/
def execTooLongTimerExpiry (s : State) : Host.Outcome State Fault Refusal :=
  .next (tooLongExpires s)

end Sys2Proof.Machine
end

