-- ==== Sys2Proof/Machine/FilterCommands.lean ====
section
/-!
DEFINITION. The commands of the sample filter (chapter 3), one definition each.
-/

namespace Sys2Proof.Machine

/-- SAMPLE (R45). -/
def execSample (tag : Byte) (sequence : Nat) (offset : Int) (delay : Nat) (grade : Grade)
    (s : State) : Host.Outcome State Fault Refusal :=
  .next (takeTyped 0x10 tag (requestSample sequence offset delay grade) s)

/-- SET_FILTER (R55). -/
def execSetFilter (tag : Byte) (config : FilterConfig)
    (s : State) : Host.Outcome State Fault Refusal :=
  .next (takeTyped 0x11 tag (requestSetFilter config) s)

/-- GET_FILTER (R56). -/
def execGetFilter (tag : Byte) (clear : Bool) (s : State) : Host.Outcome State Fault Refusal :=
  .next (takeTyped 0x12 tag (requestGetFilter clear) s)

end Sys2Proof.Machine
end

