-- ==== Sys2Proof/Machine/HoldoverCommands.lean ====
section
/-!
DEFINITION. The commands of the holdover unit (chapter 6), one definition each.
-/

namespace Sys2Proof.Machine

/-- SET_HOLDOVER (R111). -/
def execSetHoldover (tag : Byte) (config : HoldoverConfig)
    (s : State) : Host.Outcome State Fault Refusal :=
  .next (takeTyped 0x1C tag (requestSetHoldover config) s)

/-- GET_HOLDOVER (R112). -/
def execGetHoldover (tag : Byte) (s : State) : Host.Outcome State Fault Refusal :=
  .next (takeTyped 0x1D tag requestGetHoldover s)

/-- GET_HISTORY (R113). -/
def execGetHistory (tag : Byte) (start : Nat) (count : Nat)
    (s : State) : Host.Outcome State Fault Refusal :=
  .next (takeTyped 0x1E tag (requestGetHistory start count) s)

/-- CLEAR_HISTORY (R114). -/
def execClearHistory (tag : Byte) (s : State) : Host.Outcome State Fault Refusal :=
  .next (takeTyped 0x1F tag requestClearHistory s)

end Sys2Proof.Machine
end

