-- ==== Sys2Proof/Machine/LinkCommands.lean ====
section
/-!
DEFINITION. The commands of the link, the profile and the restart (chapter 11), one definition each.
-/

namespace Sys2Proof.Machine

/-! ## Loading and saving -/

/-- The flash completes the read while the part is LOADING (R188). -/
def loadDone (read : FlashRead) (straps : BitVec 3) (s : State) : State :=
  if s.part = .loading then
    match read with
    | .stored => enterRunning (goodProfile s.flash) straps s
    | .image i => enterRunning (goodProfile (some i)) straps (s.setFlash (some i))
  else s

/-- The flash has not answered within 1 s of pin reset (R188). -/
def loadTimeout (straps : BitVec 3) (s : State) : State :=
  if s.part = .loading then enterRunning none straps s else s

/-- The flash ends a save (R189). -/
def saveDone (result : SaveResult) (s : State) : State :=
  if s.part = .saving then
    match result with
    | .readBackMatches => saveSucceeds s
    | .refused => saveFails s
    | .readBackDiffers => saveFails s
  else s

/-- The save is not complete 10 s after its snapshot (R189). -/
def saveTimeout (s : State) : State := if s.part = .saving then saveFails s else s

/-! ## Commands -/

/-- PIN_RESET (R188). -/
def execPinReset (mode : LinkMode) (s : State) : Host.Outcome State Fault Refusal :=
  .next (pinReset mode s)

/-- PROFILE_LOAD_DONE (R188). -/
def execProfileLoadDone (read : FlashRead) (straps : BitVec 3)
    (s : State) : Host.Outcome State Fault Refusal :=
  .next (loadDone read straps s)

/-- PROFILE_LOAD_TIMEOUT (R188). -/
def execProfileLoadTimeout (straps : BitVec 3) (s : State) : Host.Outcome State Fault Refusal :=
  .next (loadTimeout straps s)

/-- PROFILE_SAVE_DONE (R189). -/
def execProfileSaveDone (result : SaveResult) (s : State) : Host.Outcome State Fault Refusal :=
  .next (saveDone result s)

/-- PROFILE_SAVE_TIMEOUT (R189). -/
def execProfileSaveTimeout (s : State) : Host.Outcome State Fault Refusal :=
  .next (saveTimeout s)

/-- FRAME_RECEIVED (R183, R184). -/
def execFrameReceived (octets : List Byte) (s : State) : Host.Outcome State Fault Refusal :=
  .next (receiveOctets octets.length octets s)

/-- SELECT_RELEASED (R183): on SPI the frame in progress is discarded and counted. -/
def execSelectReleased (s : State) : Host.Outcome State Fault Refusal :=
  .next (if s.link.mode = .spi then linkError s else s)

/-- FRAME_TIMEOUT (R183): on UART the frame in progress is discarded and counted. -/
def execFrameTimeout (s : State) : Host.Outcome State Fault Refusal :=
  .next (if s.link.mode = .uart then linkError s else s)

/-- REPLY_SENT (R184, R190): a soft restart that is due acts first. -/
def execReplySent (s : State) : Host.Outcome State Fault Refusal :=
  .next (replyFinished (restartActs s))

/-- UNKNOWN_KIND (R185): a kind of the catalogue is no such request. -/
def execUnknownKind (tag : Byte) (kind : Byte) (s : State) : Host.Outcome State Fault Refusal :=
  .next (if knownKind kind then s
    else takeRequest { kind := kind, tag := tag, body := [] } (restartActs s))

/-- GET_STATUS (R186). -/
def execGetStatus (tag : Byte) (s : State) : Host.Outcome State Fault Refusal :=
  .next (takeTyped 0x3C tag requestGetStatus s)

/-- SAVE_PROFILE (R189). -/
def execSaveProfile (tag : Byte) (s : State) : Host.Outcome State Fault Refusal :=
  .next (takeTyped 0x3D tag requestSaveProfile s)

/-- RESTART (R190). -/
def execRestart (tag : Byte) (s : State) : Host.Outcome State Fault Refusal :=
  .next (takeTyped 0x3E tag requestRestart s)

/-- SOFT_RESTART (R190): it acts when a RESTART's reply has been sent. -/
def execSoftRestart (s : State) : Host.Outcome State Fault Refusal :=
  .next (restartActs s)

/-- OVERLONG_BODY_LENGTH (R183). -/
def execOverlongBodyLength (length : Word16) (s : State) : Host.Outcome State Fault Refusal :=
  .next (if Config.maxBody < length.toNat then linkError s else s)

end Sys2Proof.Machine
end

