-- ==== Sys2Proof/Machine/PortCommands.lean ====
section
/-!
DEFINITION. The commands of the output ports (chapter 7), one definition each.
-/

namespace Sys2Proof.Machine

/-- SET_PORT (R135). -/
def execSetPort (tag : Byte) (port : Nat) (config : PortConfig)
    (s : State) : Host.Outcome State Fault Refusal :=
  .next (takeTyped 0x20 tag (requestSetPort port config) s)

/-- ENABLE_PORT (R119). -/
def execEnablePort (tag : Byte) (port : Nat) (s : State) : Host.Outcome State Fault Refusal :=
  .next (takeTyped 0x21 tag (requestEnablePort port) s)

/-- DISABLE_PORT (R120). -/
def execDisablePort (tag : Byte) (port : Nat) (s : State) : Host.Outcome State Fault Refusal :=
  .next (takeTyped 0x22 tag (requestDisablePort port) s)

/-- ADJUST_PORT (R131). -/
def execAdjustPort (tag : Byte) (port : Nat) (amount : Int)
    (s : State) : Host.Outcome State Fault Refusal :=
  .next (takeTyped 0x23 tag (requestAdjustPort port amount) s)

/-- GET_PORT (R136). -/
def execGetPort (tag : Byte) (port : Nat) (s : State) : Host.Outcome State Fault Refusal :=
  .next (takeTyped 0x24 tag (requestGetPort port) s)

/-- REARM_TIMER_EXPIRY (R123). -/
def execRearmTimerExpiry (port : Fin 12) (s : State) : Host.Outcome State Fault Refusal :=
  .next (rearmExpires port s)

/-- PORT_EMISSION (R125). -/
def execPortEmission (port : Fin 12) (s : State) : Host.Outcome State Fault Refusal :=
  .next (portEmission port s)

/-- PULSE_END (R126). -/
def execPulseEnd (port : Fin 12) (s : State) : Host.Outcome State Fault Refusal :=
  .next (pulseEnd port s)

/-- CLOCK_EDGE (R127). -/
def execClockEdge (port : Fin 12) (k : Nat) (rising : Bool)
    (s : State) : Host.Outcome State Fault Refusal :=
  .next (clockEdge port k rising s)

end Sys2Proof.Machine
end

