-- ==== Sys2Proof/Machine/ReferenceCommands.lean ====
section
/-!
DEFINITION. The commands of the reference inputs and their monitors (chapter 2), one definition each.
-/

namespace Sys2Proof.Machine

/-- SET_REFERENCE (R40). -/
def execSetReference (tag : Byte) (slot : Nat) (config : ReferenceConfig)
    (s : State) : Host.Outcome State Fault Refusal :=
  .next (takeTyped 0x08 tag (requestSetReference slot config) s)

/-- GET_REFERENCE (R41). -/
def execGetReference (tag : Byte) (slot : Nat) (s : State) : Host.Outcome State Fault Refusal :=
  .next (takeTyped 0x09 tag (requestGetReference slot) s)

/-- LOCKOUT (R42). -/
def execLockout (tag : Byte) (slot : Nat) (on : Bool)
    (s : State) : Host.Outcome State Fault Refusal :=
  .next (takeTyped 0x0A tag (requestLockout slot on) s)

/-- CLEAR_COUNTS (R43). -/
def execClearCounts (tag : Byte) (slot : Option Nat)
    (s : State) : Host.Outcome State Fault Refusal :=
  .next (takeTyped 0x0B tag (requestClearCounts slot) s)

/-- LABEL (R34). -/
def execLabel (tag : Byte) (slot : Nat) (seconds : Nat)
    (s : State) : Host.Outcome State Fault Refusal :=
  .next (takeTyped 0x0C tag (requestLabel slot seconds) s)

/-- SAT_PULSE (R26). -/
def execSatPulse (slot : SatSlot) (t : Nat) (s : State) : Host.Outcome State Fault Refusal :=
  .next (satPulse slot t s)

/-- SAT_WINDOW_CLOSE (R26). -/
def execSatWindowClose (slot : SatSlot) (s : State) : Host.Outcome State Fault Refusal :=
  .next (satWindowClose slot s)

/-- LINE_EDGE (R27). -/
def execLineEdge (slot : LineSlot) (t : Nat) (edges : Nat)
    (s : State) : Host.Outcome State Fault Refusal :=
  .next (lineEdge slot t edges s)

/-- LINE_LOSS (R27). -/
def execLineLoss (slot : LineSlot) (s : State) : Host.Outcome State Fault Refusal :=
  .next (lineLoss slot s)

/-- QUALIFY_TIMER_EXPIRY (R24). -/
def execQualifyTimerExpiry (slot : Slot) (s : State) : Host.Outcome State Fault Refusal :=
  .next (qualifies slot s)

/-- WAIT_TIMER_EXPIRY (R25). -/
def execWaitTimerExpiry (slot : Slot) (s : State) : Host.Outcome State Fault Refusal :=
  .next (waitEnds slot s)

/-- OBSERVATION_PERIOD_END (R32). -/
def execObservationPeriodEnd (slot : Slot) (s : State) : Host.Outcome State Fault Refusal :=
  .next (periodEnds slot s)

end Sys2Proof.Machine
end

