-- ==== Sys2Proof/Machine/SchedulerCommands.lean ====
section
/-!
DEFINITION. The commands of the action scheduler (chapter 9), one definition each.
-/

namespace Sys2Proof.Machine

/-- SCHEDULE (R161). -/
def execSchedule (tag : Byte) (kind : Option ActionKind) (due : Nat) (arg : Option Nat)
    (s : State) : Host.Outcome State Fault Refusal :=
  .next (takeTyped 0x30 tag (requestSchedule kind due arg) s)

/-- CANCEL (R166). -/
def execCancel (tag : Byte) (id : Nat) (s : State) : Host.Outcome State Fault Refusal :=
  .next (takeTyped 0x31 tag (requestCancel id) s)

/-- GET_ACTIONS (R167). -/
def execGetActions (tag : Byte) (s : State) : Host.Outcome State Fault Refusal :=
  .next (takeTyped 0x32 tag requestGetActions s)

end Sys2Proof.Machine
end

