-- ==== Sys2Proof/Machine/SelectionCommands.lean ====
section
/-!
DEFINITION. The commands of the selector (chapter 4), one definition each.
-/

namespace Sys2Proof.Machine

/-- SET_SELECTION (R72). -/
def execSetSelection (tag : Byte) (config : SelectionConfig)
    (s : State) : Host.Outcome State Fault Refusal :=
  .next (takeTyped 0x14 tag (requestSetSelection config) s)

/-- GET_SELECTION (R73). -/
def execGetSelection (tag : Byte) (s : State) : Host.Outcome State Fault Refusal :=
  .next (takeTyped 0x15 tag requestGetSelection s)

/-- DWELL_EXPIRY (R65). -/
def execDwellExpiry (s : State) : Host.Outcome State Fault Refusal :=
  .next (dwellExpires s)

end Sys2Proof.Machine
end

