-- ==== Sys2Proof/Machine/ServoCommands.lean ====
section
/-!
DEFINITION. The commands of the servo (chapter 5), one definition each.
-/

namespace Sys2Proof.Machine

/-- SET_SERVO (R89). -/
def execSetServo (tag : Byte) (config : ServoConfig)
    (s : State) : Host.Outcome State Fault Refusal :=
  .next (takeTyped 0x18 tag (requestSetServo config) s)

/-- GET_SERVO (R94). -/
def execGetServo (tag : Byte) (s : State) : Host.Outcome State Fault Refusal :=
  .next (takeTyped 0x19 tag requestGetServo s)

/-- ALLOW_STEP (R92). -/
def execAllowStep (tag : Byte) (s : State) : Host.Outcome State Fault Refusal :=
  .next (takeTyped 0x1A tag requestAllowStep s)

end Sys2Proof.Machine
end

