-- ==== Sys2Proof/Machine/TimeCommands.lean ====
section
/-!
DEFINITION. The commands of the time base (chapter 1), one definition each.
-/

namespace Sys2Proof.Machine

/-- SET_TIME (R13, R14). -/
def execSetTime (tag : Byte) (seconds : Nat) (offset : Option Nat)
    (s : State) : Host.Outcome State Fault Refusal :=
  .next (takeTyped 0x01 tag (requestSetTime seconds offset) s)

/-- GET_TIME (R17). -/
def execGetTime (tag : Byte) (s : State) : Host.Outcome State Fault Refusal :=
  .next (takeTyped 0x02 tag requestGetTime s)

/-- SECOND_BOUNDARY (R3). -/
def execSecondBoundary (order : List Block) (s : State) : Host.Outcome State Fault Refusal :=
  .next (nextBoundary order s)

/-- END_OF_RANGE (R4). -/
def execEndOfRange (s : State) : Host.Outcome State Fault Refusal :=
  .next (reachEnd s)

end Sys2Proof.Machine
end

