-- ==== Sys2Proof/Machine/Dispatch.lean ====
section
/-!
DEFINITION. The meaning of each command: one arm for each row of the table.
-/

namespace Sys2Proof.Machine

/-- A command's effect on everything but the queue. -/
def exec (i : Instr) (s : State) : Host.Outcome State Fault Refusal :=
  match i with
  | .pinReset mode => Sys2Proof.Machine.execPinReset mode s
  | .profileLoadDone read straps => Sys2Proof.Machine.execProfileLoadDone read straps s
  | .profileLoadTimeout straps => Sys2Proof.Machine.execProfileLoadTimeout straps s
  | .profileSaveDone result => Sys2Proof.Machine.execProfileSaveDone result s
  | .profileSaveTimeout => Sys2Proof.Machine.execProfileSaveTimeout s
  | .frameReceived octets => Sys2Proof.Machine.execFrameReceived octets s
  | .selectReleased => Sys2Proof.Machine.execSelectReleased s
  | .frameTimeout => Sys2Proof.Machine.execFrameTimeout s
  | .replySent => Sys2Proof.Machine.execReplySent s
  | .unknownKind tag kind => Sys2Proof.Machine.execUnknownKind tag kind s
  | .setTime tag seconds offset => Sys2Proof.Machine.execSetTime tag seconds offset s
  | .getTime tag => Sys2Proof.Machine.execGetTime tag s
  | .setReference tag slot config => Sys2Proof.Machine.execSetReference tag slot config s
  | .getReference tag slot => Sys2Proof.Machine.execGetReference tag slot s
  | .lockout tag slot on => Sys2Proof.Machine.execLockout tag slot on s
  | .clearCounts tag slot => Sys2Proof.Machine.execClearCounts tag slot s
  | .label tag slot seconds => Sys2Proof.Machine.execLabel tag slot seconds s
  | .sample tag sequence offset delay grade => Sys2Proof.Machine.execSample tag sequence offset delay grade s
  | .setFilter tag config => Sys2Proof.Machine.execSetFilter tag config s
  | .getFilter tag clear => Sys2Proof.Machine.execGetFilter tag clear s
  | .setSelection tag config => Sys2Proof.Machine.execSetSelection tag config s
  | .getSelection tag => Sys2Proof.Machine.execGetSelection tag s
  | .setServo tag config => Sys2Proof.Machine.execSetServo tag config s
  | .getServo tag => Sys2Proof.Machine.execGetServo tag s
  | .allowStep tag => Sys2Proof.Machine.execAllowStep tag s
  | .setHoldover tag config => Sys2Proof.Machine.execSetHoldover tag config s
  | .getHoldover tag => Sys2Proof.Machine.execGetHoldover tag s
  | .getHistory tag start count => Sys2Proof.Machine.execGetHistory tag start count s
  | .clearHistory tag => Sys2Proof.Machine.execClearHistory tag s
  | .setPort tag port config => Sys2Proof.Machine.execSetPort tag port config s
  | .enablePort tag port => Sys2Proof.Machine.execEnablePort tag port s
  | .disablePort tag port => Sys2Proof.Machine.execDisablePort tag port s
  | .adjustPort tag port amount => Sys2Proof.Machine.execAdjustPort tag port amount s
  | .getPort tag port => Sys2Proof.Machine.execGetPort tag port s
  | .setChain tag config => Sys2Proof.Machine.execSetChain tag config s
  | .getChain tag => Sys2Proof.Machine.execGetChain tag s
  | .chainCommand tag kind target arg => Sys2Proof.Machine.execChainCommand tag kind target arg s
  | .chainCancel tag => Sys2Proof.Machine.execChainCancel tag s
  | .postWord tag word => Sys2Proof.Machine.execPostWord tag word s
  | .fetchWord tag => Sys2Proof.Machine.execFetchWord tag s
  | .schedule tag kind due arg => Sys2Proof.Machine.execSchedule tag kind due arg s
  | .cancel tag id => Sys2Proof.Machine.execCancel tag id s
  | .getActions tag => Sys2Proof.Machine.execGetActions tag s
  | .setAlarm tag kind config => Sys2Proof.Machine.execSetAlarm tag kind config s
  | .getAlarms tag query => Sys2Proof.Machine.execGetAlarms tag query s
  | .ackAlarm tag target => Sys2Proof.Machine.execAckAlarm tag target s
  | .getNotices tag max => Sys2Proof.Machine.execGetNotices tag max s
  | .setAttention tag on => Sys2Proof.Machine.execSetAttention tag on s
  | .getStatus tag => Sys2Proof.Machine.execGetStatus tag s
  | .saveProfile tag => Sys2Proof.Machine.execSaveProfile tag s
  | .restart tag => Sys2Proof.Machine.execRestart tag s
  | .softRestart => Sys2Proof.Machine.execSoftRestart s
  | .secondBoundary order => Sys2Proof.Machine.execSecondBoundary order s
  | .endOfRange => Sys2Proof.Machine.execEndOfRange s
  | .satPulse slot t => Sys2Proof.Machine.execSatPulse slot t s
  | .satWindowClose slot => Sys2Proof.Machine.execSatWindowClose slot s
  | .lineEdge slot t edges => Sys2Proof.Machine.execLineEdge slot t edges s
  | .lineLoss slot => Sys2Proof.Machine.execLineLoss slot s
  | .chainMarker port t => Sys2Proof.Machine.execChainMarker port t s
  | .chainFrame port t octets commandFirst => Sys2Proof.Machine.execChainFrame port t octets commandFirst s
  | .qualifyTimerExpiry slot => Sys2Proof.Machine.execQualifyTimerExpiry slot s
  | .waitTimerExpiry slot => Sys2Proof.Machine.execWaitTimerExpiry slot s
  | .observationPeriodEnd slot => Sys2Proof.Machine.execObservationPeriodEnd slot s
  | .dwellExpiry => Sys2Proof.Machine.execDwellExpiry s
  | .rearmTimerExpiry port => Sys2Proof.Machine.execRearmTimerExpiry port s
  | .portEmission port => Sys2Proof.Machine.execPortEmission port s
  | .pulseEnd port => Sys2Proof.Machine.execPulseEnd port s
  | .swapTimerExpiry => Sys2Proof.Machine.execSwapTimerExpiry s
  | .conflictTimerExpiry => Sys2Proof.Machine.execConflictTimerExpiry s
  | .tooLongTimerExpiry => Sys2Proof.Machine.execTooLongTimerExpiry s
  | .raiseDelayExpiry kind number => Sys2Proof.Machine.execRaiseDelayExpiry kind number s
  | .clearDelayExpiry kind number => Sys2Proof.Machine.execClearDelayExpiry kind number s
  | .clockEdge port k rising => Sys2Proof.Machine.execClockEdge port k rising s
  | .overlongBodyLength length => Sys2Proof.Machine.execOverlongBodyLength length s

end Sys2Proof.Machine
end

