-- ==== Sys2Proof/Safety.lean ====
section
/-!
DEFINITION. What the manual says always holds, block by block: the laws its rules name ("keeps this
law"), as properties of one state.  A run is safe while they hold.
Beside them stands what R162 says of an id that is issued.
-/

namespace Sys2Proof.Safety

open Sys2Proof.Machine

/-! ## Alarm unit (R174, R175, R178) -/

/-- An unacknowledged entry of this severity is in RAISED, PENDING_CLEAR or LATCHED (R174). -/
def Outstanding (v : Severity) (u : AlarmUnit) : Prop :=
  ∃ g ∈ u.groups.toList, g.config.severity = v ∧
    ∃ e ∈ g.entries, e.acknowledged = false ∧
      (e.state = .raised ∨ e.state = .pendingClear ∨ e.state = .latched)

/-- The notice queue holds at most 32 notices; each contact is asserted exactly when an entry of its
severity is outstanding; the attention line exactly when notices wait and attention is enabled. -/
structure AlarmLaw (u : AlarmUnit) : Prop where
  queue : u.queue.length ≤ Config.queueSize
  crit : u.crit = true ↔ Outstanding .critical u
  maj : u.maj = true ↔ Outstanding .major u
  attention : u.attention = true ↔ u.queue ≠ [] ∧ u.attentionOn = true

/-! ## Servo (R76, R84) -/

/-- The frequency estimate I and the applied correction F lie within the pull range (R84). -/
structure FrequencyLaw (s : State) : Prop where
  estimate : s.servo.estimate.natAbs ≤ s.servo.config.pullRange
  correction : s.time.correction.natAbs ≤ s.servo.config.pullRange

/-- The servo follows the selected slot, in a state of its kind: FREERUN or HOLDOVER with none,
FREQ_LOCKED with a LINE slot, ACQUIRING or LOCKED with a phase slot (R76). -/
structure ServoLaw (s : State) : Prop where
  followed : s.servo.followed = s.selector.selected
  free : s.selector.selected = none ↔ s.servo.state = .freerun ∨ s.servo.state = .holdover
  line : (∃ k, s.selector.selected = some k ∧ isLine k = true) ↔ s.servo.state = .freqLocked

/-! ## Selector (R60, R63) -/

/-- A selected slot is enabled and not locked out, its monitor is QUALIFIED and its declared grade
meets the minimum; its priority is not 0 unless the mode is FORCED with it, and the mode is not HOLD
(R60, R63). -/
def SelectionLaw (s : State) : Prop :=
  ∀ k, s.selector.selected = some k →
    (s.ref k).state = .qualified
    ∧ (s.ref k).lockedOut = false
    ∧ (∃ g, declaredGrade k (s.ref k) = some g ∧ gradeMeets g s.selector.config.minGrade = true)
    ∧ (s.selector.config.mode = .forced k
        ∨ (s.selector.config.mode = .auto ∧ (s.ref k).config.priority ≠ 0))

/-! ## Monitors (R21, R22, R31) -/

/-- A monitor is DISABLED exactly while its record is not enabled (R22, R40). -/
def MonitorLaw (s : State) : Prop :=
  ∀ k, (s.ref k).state = .disabled ↔ (s.ref k).config.enabled = false

/-- A monitor's level never exceeds the ceiling its record gives (R21, R31). -/
def LevelLaw (s : State) : Prop := ∀ k, (s.ref k).level ≤ levelMax (s.ref k).config

/-! ## Holdover unit (R110) -/

/-- The grade is F while time is unset (R110). -/
def GradeLaw (s : State) : Prop := s.time.timeSet = false → s.holdover.grade = .F

/-- The history holds at most 64 entries (R97). -/
def HistoryLaw (s : State) : Prop := s.holdover.history.length ≤ Config.historySize

/-! ## Ports (R122 to R124, R134) -/

/-- A port's effective delay lies within its range, and its queue within its capacity (R134). -/
def DelayLaw (s : State) : Prop :=
  ∀ p, (s.port p).delay ≤ Config.maxDelay ∧ (s.port p).queue.length ≤ Config.adjustSize

/-- One port under the grade in force (R122 to R124): an ACTIVE port with the SQUELCH policy has a
grade it meets; only such a port is ever SQUELCHED; the re-arm timer runs only in SQUELCHED and only
while the grade is met; an ACTIVE or SQUELCHED port has time set. -/
structure PortLaw (set : Bool) (g : Grade) (x : Port) : Prop where
  time : x.state = .active ∨ x.state = .squelched → set = true
  active : x.state = .active → x.config.policy = .squelch →
    gradeMeets g x.config.minGrade = true
  policy : x.state = .squelched → x.config.policy = .squelch
  rearming : x.rearm ≠ Timer.stopped →
    x.state = .squelched ∧ gradeMeets g x.config.minGrade = true

/-- Every port under the grade in force. -/
def SquelchLaw (s : State) : Prop :=
  ∀ p, PortLaw s.time.timeSet s.holdover.grade (s.port p)

/-! ## Time base (R1) -/

/-- Base seconds, fraction, remainder and a pending set lie within their ranges (R1). -/
structure TimeLaw (t : TimeBase) : Prop where
  base : t.base ≤ Config.maxSeconds
  frac : t.frac < Config.second
  rem : t.rem < 1000000000000
  pending : ∀ p, t.pendingSet = some p → p.seconds ≤ Config.maxSeconds

/-! ## Scheduler (R160) -/

/-- The table holds at most 8 actions, each due above the current base seconds, in table order, with
distinct ids (R160). -/
structure TableLaw (s : State) : Prop where
  room : s.scheduler.table.length ≤ Config.tableSize
  ahead : ∀ a ∈ s.scheduler.table, s.time.base < a.due
  order : s.scheduler.table.Pairwise (fun a b => actionBefore a b = true)
  ids : (s.scheduler.table.map Action.id).Nodup

/-- The scheduler issues an id (R162): the first from the next id on, round by 65,535, that no pending action
holds; the next id becomes the one after it, and the wrapped flag is set if the counter has come round. -/
structure IdIssued (c : Scheduler) (id next : Nat) (wrapped : Bool) : Prop where
  free : ∀ a ∈ c.table, a.id ≠ id
  passed : ∀ i, (c.nextId ≤ i ∧ i < id)
      ∨ (id < c.nextId ∧ (c.nextId ≤ i ∧ i ≤ 65535 ∨ 1 ≤ i ∧ i < id)) → ∃ a ∈ c.table, a.id = i
  advanced : next = if id < 65535 then id + 1 else 1
  cameRound : wrapped = (c.wrapped || decide (65535 ≤ id) || decide (id < c.nextId))

/-! ## Link (R184) -/

/-- At most 2 requests and 8 overrun answers wait, and none behind an idle transmitter unless a soft
restart is due first (R184, R190). -/
structure LinkLaw (k : Link) : Prop where
  buffer : bufferedCount k.waiting ≤ 2
  overruns : overrunCount k.waiting ≤ 8
  idle : k.replies = [] → k.restartDue = false → k.waiting = []

/-- While the part is LOADING every block stands at its pin-reset values: nothing but the link, the
flash and the commands that wait differs from the state right after the pin reset; no soft restart is
due or awaits a reply (R188, R190). -/
structure LoadingLaw (s : State) : Prop where
  blocks : s.part = .loading →
    s = { State.reset with link := s.link, flash := s.flash, pending := s.pending }
  due : s.part = .loading → s.link.restartDue = false
  replies : s.part = .loading → ∀ r ∈ s.link.replies, r.answer.restart = false

/-! ## Running the count on (R26) -/

/-- Nothing comes between the count and fraction `t` of the running second: no expiry is due, and the
count passes the close of no satellite window (R26). -/
structure Undisturbed (t : Nat) (s : State) : Prop where
  settled : settle s = s
  windows : ∀ (k : SatSlot) (w : SatWindow), (s.ref (satSlot k)).window = some w →
    w.second = s.time.base → s.time.frac < 500000000000 → t ≤ 500000000000

/-! ## Requests as typed commands (R184, R185) -/

/-- A request of the host that comes now is handed to its owning block: the part is not LOADING, and
no soft restart is due ahead of it (R185, R190). -/
def Takes (s : State) : Prop := s.part ≠ .loading ∧ s.link.restartDue = false

/-- The link once a request of this kind and tag has been answered with this status and contents. -/
def answered (k : Link) (kind tag : Byte) (status : Status) (contents : List Byte) : Link :=
  { k with
    replies := k.replies ++
      [{ kind := kind, tag := tag
         answer := { status := status, contents := contents, restart := false } }] }

end Sys2Proof.Safety
end

