-- ==== Sys2Proof/WellFormed.lean ====
section
/-!
DEFINITION. Which commands are well formed: every field fits the octets in which its request carries
it (R191), a fraction lies within one second, and an event names a thing that exists.  Then which
request of the catalogue a command is.
-/

namespace Sys2Proof

/-- A number fits `n` octets. -/
def fits (n v : Nat) : Bool := decide (v < 256 ^ n)

/-- A signed number fits `n` octets in two's complement. -/
def fitsInt (n : Nat) (v : Int) : Bool :=
  decide (-(256 ^ n : Int) ≤ 2 * v ∧ 2 * v < (256 ^ n : Int))

/-- An optional number fits `n` octets. -/
def fitsOption (n : Nat) (v : Option Nat) : Bool := fits n (v.getD 0)

/-- A leap's due second fits 6 octets. -/
def leapFits (l : Option Leap) : Bool := fits 6 ((l.map Leap.due).getD 0)

/-- A fraction of a second. -/
def fractionOk (t : Nat) : Bool := decide (t < Config.second)

/-- The fields of a reference record fit their octets (R19). -/
def referenceFits (c : ReferenceConfig) : Bool :=
  fits 1 c.priority && fits 4 c.floor && fits 4 c.ceiling && fits 1 c.immediate && fits 1 c.delayed
    && fits 2 c.period && fits 2 c.qualify && fits 2 c.waitRestore && fitsOption 4 c.agreement
    && fitsOption 4 c.nominal && fitsOption 3 c.uLine && fitsOption 3 c.lockedAllowance

/-- The fields of a filter configuration fit their octets (R55). -/
def filterFits (c : FilterConfig) : Bool := fits 1 c.length && fits 4 c.ceiling

/-- The fields of a servo configuration fit their octets (R89). -/
def servoFits (c : ServoConfig) : Bool :=
  fits 1 c.kp && fits 1 c.ki && fits 1 c.kpAcq && fits 1 c.kiAcq && fits 1 c.kf && fits 4 c.pullRange
    && fits 3 c.rampLocked && fits 3 c.rampAcq && fits 4 c.stepThreshold && fits 3 c.lockThreshold
    && fits 1 c.lockCount && fits 4 c.unlockThreshold

/-- The fields of a holdover configuration fit their octets (R111). -/
def holdoverFits (c : HoldoverConfig) : Bool :=
  fits 1 c.guard && fits 1 c.average && fits 3 c.u0 && fits 2 c.aging && fitsInt 2 c.drift
    && fits 4 c.eBase && fits 4 c.budget && fits 1 c.warnPercent

/-- The fields of a port record fit their octets (R116). -/
def portFits (c : PortConfig) : Bool :=
  fits 4 c.frequency && fits 3 c.delayComp && fits 4 c.width && fits 2 c.rearm && fits 3 c.stepLimit
    && fits 3 c.jumpTolerance

/-- The fields of a chain configuration fit their octets (R139). -/
def chainFits (c : ChainConfig) : Bool :=
  fits 3 c.linkA && fits 3 c.linkB && fits 3 c.hop && fits 1 c.holdOff

/-- The fields of an alarm record fit their octets (R170). -/
def alarmFits (c : AlarmConfig) : Bool := fits 1 c.raiseDelay && fits 2 c.clearDelay

/-- An entry of the alarm table exists (R169). -/
def entryExists (k : AlarmKind) (n : Nat) : Bool := decide (n < Machine.alarmCount k)

/-- What ACK_ALARM names fits its octets. -/
def targetFits : AckTarget → Bool
  | .entry _ n => fits 1 n
  | .unknown => true
  | .all => true

/-- A part of a boundary's order is well formed: line edges that arrive are at least one. -/
def blockOk : Block → Bool
  | .edges _ count => decide (0 < count)
  | .scheduler => true
  | .filter => true
  | .line _ => true
  | .agreement => true
  | .servo => true
  | .ports => true
  | .holdover => true
  | .chain => true
  | .slotTimers _ => true
  | .dwell => true
  | .rearm _ => true
  | .alarms => true
  | .pulse _ => true
  | .silence _ => true
  | .marker _ => true
  | .frame _ _ _ => true
  | .instant _ => true
  | .clock _ _ _ => true

/-- A command is well formed. -/
def wellFormed : Instr → Bool
  | .pinReset _ => true
  | .profileLoadDone _ _ => true
  | .profileLoadTimeout _ => true
  | .profileSaveDone _ => true
  | .profileSaveTimeout => true
  | .frameReceived octets => !octets.isEmpty
  | .selectReleased => true
  | .frameTimeout => true
  | .replySent => true
  | .unknownKind _ kind => !Machine.knownKind kind
  | .setTime _ seconds offset => fits 6 seconds && fitsOption 1 offset
  | .getTime _ => true
  | .setReference _ slot config => fits 1 slot && referenceFits config
  | .getReference _ slot => fits 1 slot
  | .lockout _ slot _ => fits 1 slot
  | .clearCounts _ slot => decide (slot.getD 0 < 255)
  | .label _ slot seconds => fits 1 slot && fits 6 seconds
  | .sample _ sequence offset delay _ => fits 2 sequence && fitsInt 8 offset && fits 4 delay
  | .setFilter _ config => filterFits config
  | .getFilter _ _ => true
  | .setSelection _ config => fits 2 config.minDwell
  | .getSelection _ => true
  | .setServo _ config => servoFits config
  | .getServo _ => true
  | .allowStep _ => true
  | .setHoldover _ config => holdoverFits config
  | .getHoldover _ => true
  | .getHistory _ start count => fits 1 start && fits 1 count
  | .clearHistory _ => true
  | .setPort _ port config => fits 1 port && portFits config
  | .enablePort _ port => fits 1 port
  | .disablePort _ port => fits 1 port
  | .adjustPort _ port amount => fits 1 port && fitsInt 4 amount
  | .getPort _ port => fits 1 port
  | .setChain _ config => chainFits config
  | .getChain _ => true
  | .chainCommand _ _ target arg => fits 1 target && leapFits arg
  | .chainCancel _ => true
  | .postWord _ _ => true
  | .fetchWord _ => true
  | .schedule _ _ due arg => fits 6 due && fitsOption 1 arg
  | .cancel _ id => fits 2 id
  | .getActions _ => true
  | .setAlarm _ _ config => alarmFits config
  | .getAlarms _ _ => true
  | .ackAlarm _ target => targetFits target
  | .getNotices _ max => fits 1 max
  | .setAttention _ _ => true
  | .getStatus _ => true
  | .saveProfile _ => true
  | .restart _ => true
  | .softRestart => true
  | .secondBoundary order => decide order.Nodup && order.all blockOk
  | .endOfRange => true
  | .satPulse _ t => fractionOk t
  | .satWindowClose _ => true
  | .lineEdge _ t edges => fractionOk t && decide (0 < edges)
  | .lineLoss _ => true
  | .chainMarker _ t => fractionOk t
  | .chainFrame _ t _ _ => fractionOk t
  | .qualifyTimerExpiry _ => true
  | .waitTimerExpiry _ => true
  | .observationPeriodEnd _ => true
  | .dwellExpiry => true
  | .rearmTimerExpiry _ => true
  | .portEmission _ => true
  | .pulseEnd _ => true
  | .swapTimerExpiry => true
  | .conflictTimerExpiry => true
  | .tooLongTimerExpiry => true
  | .raiseDelayExpiry kind number => entryExists kind number
  | .clearDelayExpiry kind number => entryExists kind number
  | .clockEdge _ _ _ => true
  | .overlongBodyLength length => decide (Config.maxBody < length.toNat)

/-- The request kind octet and the tag of a command that is the taking of a request of the catalogue
(11.3); the other commands are events, or a request of no kind. -/
def requestOf : Instr → Option (Byte × Byte)
  | .pinReset _ => none
  | .profileLoadDone _ _ => none
  | .profileLoadTimeout _ => none
  | .profileSaveDone _ => none
  | .profileSaveTimeout => none
  | .frameReceived _ => none
  | .selectReleased => none
  | .frameTimeout => none
  | .replySent => none
  | .unknownKind _ _ => none
  | .setTime tag _ _ => some (0x01, tag)
  | .getTime tag => some (0x02, tag)
  | .setReference tag _ _ => some (0x08, tag)
  | .getReference tag _ => some (0x09, tag)
  | .lockout tag _ _ => some (0x0A, tag)
  | .clearCounts tag _ => some (0x0B, tag)
  | .label tag _ _ => some (0x0C, tag)
  | .sample tag _ _ _ _ => some (0x10, tag)
  | .setFilter tag _ => some (0x11, tag)
  | .getFilter tag _ => some (0x12, tag)
  | .setSelection tag _ => some (0x14, tag)
  | .getSelection tag => some (0x15, tag)
  | .setServo tag _ => some (0x18, tag)
  | .getServo tag => some (0x19, tag)
  | .allowStep tag => some (0x1A, tag)
  | .setHoldover tag _ => some (0x1C, tag)
  | .getHoldover tag => some (0x1D, tag)
  | .getHistory tag _ _ => some (0x1E, tag)
  | .clearHistory tag => some (0x1F, tag)
  | .setPort tag _ _ => some (0x20, tag)
  | .enablePort tag _ => some (0x21, tag)
  | .disablePort tag _ => some (0x22, tag)
  | .adjustPort tag _ _ => some (0x23, tag)
  | .getPort tag _ => some (0x24, tag)
  | .setChain tag _ => some (0x28, tag)
  | .getChain tag => some (0x29, tag)
  | .chainCommand tag _ _ _ => some (0x2A, tag)
  | .chainCancel tag => some (0x2B, tag)
  | .postWord tag _ => some (0x2C, tag)
  | .fetchWord tag => some (0x2D, tag)
  | .schedule tag _ _ _ => some (0x30, tag)
  | .cancel tag _ => some (0x31, tag)
  | .getActions tag => some (0x32, tag)
  | .setAlarm tag _ _ => some (0x34, tag)
  | .getAlarms tag _ => some (0x35, tag)
  | .ackAlarm tag _ => some (0x36, tag)
  | .getNotices tag _ => some (0x37, tag)
  | .setAttention tag _ => some (0x38, tag)
  | .getStatus tag => some (0x3C, tag)
  | .saveProfile tag => some (0x3D, tag)
  | .restart tag => some (0x3E, tag)
  | .softRestart => none
  | .secondBoundary _ => none
  | .endOfRange => none
  | .satPulse _ _ => none
  | .satWindowClose _ => none
  | .lineEdge _ _ _ => none
  | .lineLoss _ => none
  | .chainMarker _ _ => none
  | .chainFrame _ _ _ _ => none
  | .qualifyTimerExpiry _ => none
  | .waitTimerExpiry _ => none
  | .observationPeriodEnd _ => none
  | .dwellExpiry => none
  | .rearmTimerExpiry _ => none
  | .portEmission _ => none
  | .pulseEnd _ => none
  | .swapTimerExpiry => none
  | .conflictTimerExpiry => none
  | .tooLongTimerExpiry => none
  | .raiseDelayExpiry _ _ => none
  | .clearDelayExpiry _ _ => none
  | .clockEdge _ _ _ => none
  | .overlongBodyLength _ => none

end Sys2Proof
end

