-- ==== Sys2Proof/Certificates/Slice0/Obligations.lean ====
section
/-!
DEFINITION. The statements for the provers, each citing the rules of spec/ it formalises.  Unless a
statement says otherwise, what it does not name stands as it was.  A request of the table is the
taking of that request, by a link whose transmitter may be busy (log entry 9).
-/

open Sys2Proof Sys2Proof.Machine Sys2Proof.Safety

/-! ## The machine -/

/-- The command at the front of the queue runs on the state with the rest of the queue. -/
def Obligations.StepRunsFrontCommand : Prop :=
  ∀ (c : Instr) (rest : List Instr) (s : State), s.pending = c :: rest →
    step s = exec c { s with pending := rest }

/-- With no command waiting and nothing due, the oscillator counts one nominal picosecond: F scales
it by 10^-12, and what falls below one picosecond is carried in the remainder (R2). A count that
reaches the end of the second marks the boundary and goes on from there with what is left, so that
nothing of the advance is lost (R2, R3); in the last second it stops at the last instant and sets the
end-of-range flag (R4). That a step on an empty queue is one nominal picosecond, which marks the
boundaries it reaches itself, in the default order, and that an emission instant, a clock edge and a line
silence of 1 ms which it reaches wait for their own commands, are the model's choices (log entries 4, 47). -/
def Obligations.EmptyQueueCountsOneNominalPicosecond : Prop :=
  ∀ s : State, s.pending = [] → settle s = s → s.part ≠ .loading → s.time.endOfRange = false →
    s.time.rem < 1000000000000 → s.time.correction.natAbs < 1000000000000 →
    s.time.frac < 1000000000000 →
    ∃ k r : Nat, r < 1000000000000
      ∧ ((k * 1000000000000 + r : Nat) : Int) = s.time.rem + 1000000000000 + s.time.correction
      ∧ (s.time.frac + k < 1000000000000 → step s = .next
          { s with
            time := { s.time with
              frac := s.time.frac + k, counted := s.time.counted + k, rem := r
              landed := s.time.landed && decide (k = 0)
              endOfRange := decide (0 < k ∧ s.time.base = Config.maxSeconds
                ∧ s.time.frac + k = 999999999999) }
            refs := refsCounted k s.refs })
      ∧ (∀ j, s.time.frac + j = 1000000000000 → j ≤ k → s.time.base < Config.maxSeconds →
          step s = .next (picos (k - j) (settle (markBoundary []
            { s with
              time := { s.time with
                frac := 1000000000000, counted := s.time.counted + j, rem := r, landed := false }
              refs := refsCounted j s.refs }))))
      ∧ (∀ j, s.time.frac + j = 999999999999 → j < k → s.time.base = Config.maxSeconds →
          step s = .next
            { s with
              time := { s.time with
                frac := 999999999999, counted := s.time.counted + j, rem := r
                landed := s.time.landed && decide (j = 0), endOfRange := true }
              refs := refsCounted j s.refs })

/-- Every command has its effect in every state, and none of them touches the queue of commands. That
PIN_RESET leaves the queue as it stands, and that an event which cannot occur in a state answers a next state
without an effect, are the model's choices (log entries 2, 7). -/
def Obligations.EveryCommandAnswersANextState : Prop :=
  ∀ (c : Instr) (s : State), ∃ t, exec c s = .next t ∧ t.pending = s.pending

/-! ## What every step keeps -/

/-- The laws that the rules name hold right after the pin reset (R18, R44, R57, R74, R95, R115,
R137, R159, R168, R181, R188). The values of State.reset that the spec leaves open are log entries 1
and 2. -/
def Obligations.ResetObeysTheLaws : Prop :=
  AlarmLaw State.reset.alarms ∧ FrequencyLaw State.reset ∧ ServoLaw State.reset
  ∧ SelectionLaw State.reset ∧ MonitorLaw State.reset ∧ LevelLaw State.reset ∧ GradeLaw State.reset
  ∧ HistoryLaw State.reset ∧ DelayLaw State.reset ∧ SquelchLaw State.reset
  ∧ TimeLaw State.reset.time ∧ TableLaw State.reset ∧ LinkLaw State.reset.link
  ∧ LoadingLaw State.reset

/-- The notice queue never holds more than 32 notices, and the contacts and the attention line
follow the entries and the queue at every step (R174, R175, R178). -/
def Obligations.StepsKeepTheAlarmLaw : Prop :=
  ∀ s t : State, step s = .next t → AlarmLaw s.alarms → AlarmLaw t.alarms

/-- I and F stay within the pull range (R1, R84, R87, R89, R95, R103). -/
def Obligations.StepsKeepFrequencyWithinThePullRange : Prop :=
  ∀ s t : State, step s = .next t → FrequencyLaw s → FrequencyLaw t

/-- A selected slot is a candidate, the servo follows it in a state of its kind, and a monitor is
DISABLED exactly while its record is not enabled (R22, R40, R60, R63, R76, R77). -/
def Obligations.StepsKeepTheSelection : Prop :=
  ∀ s t : State, step s = .next t → ServoLaw s ∧ SelectionLaw s ∧ MonitorLaw s →
    ServoLaw t ∧ SelectionLaw t ∧ MonitorLaw t

/-- No level exceeds the ceiling that its slot's record gives (R21, R31, R40). That a monitor which
SET_REFERENCE restarts into ABSENT has its level lowered to the new ceiling is the model's choice
(log entry 28). The frequency history holds at most 64 entries (R97). Effective delays stay from 0
to 10,000,000 ps and adjustment queues within 8 entries (R131, R134). -/
def Obligations.StepsKeepLevelsHistoryAndDelays : Prop :=
  (∀ s t : State, step s = .next t → LevelLaw s → LevelLaw t)
  ∧ (∀ s t : State, step s = .next t → HistoryLaw s → HistoryLaw t)
  ∧ (∀ s t : State, step s = .next t → DelayLaw s → DelayLaw t)

/-- The grade is F while time is unset, and the ports stand under it as their policies say: an
ACTIVE port with the SQUELCH policy meets the grade in force, only such a port is ever SQUELCHED,
and its re-arm timer runs only while the grade is met (R110, R121 to R124). -/
def Obligations.StepsKeepPortsUnderTheGrade : Prop :=
  ∀ s t : State, step s = .next t → GradeLaw s ∧ SquelchLaw s → GradeLaw t ∧ SquelchLaw t

/-- The time base stays in its range, and every pending action lies ahead of it, in table order and
with an id of its own (R1, R4, R9, R160 to R164). -/
def Obligations.StepsKeepTheTimeBaseAndTheTable : Prop :=
  ∀ s t : State, step s = .next t → TimeLaw s.time ∧ TableLaw s → TimeLaw t.time ∧ TableLaw t

/-- At most 2 requests are buffered and 8 overrun answers listed, and nothing waits behind an idle
transmitter (R184, R190). While the part is LOADING every block holds its pin-reset values (R188).
-/
def Obligations.StepsKeepTheLinkAndLoading : Prop :=
  (∀ s t : State, step s = .next t → LinkLaw s.link → LinkLaw t.link)
  ∧ (∀ s t : State, step s = .next t → LoadingLaw s → LoadingLaw t)

/-! ## Rules of the whole part -/

/-- Once time is set it stays set until a pin reset (R12, R13, R18). Neither a port's last emitted
second nor the chain's last sent second ever goes back but by a pin reset (R125, R142). So of every step,
with a command waiting or with none. -/
def Obligations.OnlyPinResetUndoesWhatIsSetOrSent : Prop :=
  ∀ s t : State, s.part ≠ .loading → (∀ m rest, s.pending ≠ .pinReset m :: rest) → step s = .next t →
    (s.time.timeSet = true → t.time.timeSet = true)
    ∧ (∀ p n, (s.port p).lastEmitted = some n → ∃ m, (t.port p).lastEmitted = some m ∧ n ≤ m)
    ∧ (∀ n, s.chain.lastSent = some n → ∃ m, t.chain.lastSent = some m ∧ n ≤ m)

/-- A word stays in the inbox at every step, whatever arrives after it, until it is fetched or the part
restarts (R156, R159): a control frame fetches it only with the kind FETCH_WORD, and the end of a reply only
when a FETCH_WORD is the next request that waits. -/
def Obligations.InboxKeepsItsWord : Prop :=
  ∀ (s t : State) (w : InboxWord), s.part ≠ .loading → s.link.restartDue = false →
    (∀ m rest, s.pending ≠ .pinReset m :: rest) →
    (∀ tag rest, s.pending ≠ .fetchWord tag :: rest) →
    (∀ l rest, s.pending = .frameReceived l :: rest → (0x2D : Byte) ∉ l
      ∨ ∃ (kind tag : Byte) (body : List Byte), l = encodeControl kind tag body ∧ kind ≠ 0x2D
          ∧ body.length ≤ 512) →
    (∀ rest, s.pending = .replySent :: rest → ∀ q more, s.link.waiting = .request q :: more →
      q.kind ≠ 0x2D) →
    step s = .next t → s.chain.inbox = some w → t.chain.inbox = some w

/-- A well-formed TIME frame reads back as it was sent: its octets hold every field, each through the
whole of its range (R141). -/
def Obligations.ChainFramesReadBackAsSent : Prop :=
  ∀ f : TimeFrame, 1 ≤ f.path.length → f.path.length ≤ 7 → (∀ a ∈ f.path, a ≤ 6) → f.path.Nodup →
    f.second ≤ Config.maxSeconds → f.sequence ≤ 15 → f.offset ≤ 255 →
    (∀ l, f.leap = some l → l.due ≤ Config.maxSeconds) → f.allowance ≤ Config.maxAllowance →
    (∀ c, f.command = some c → c.target ≤ 7 ∧ c.sequence ≤ 255
      ∧ (c.arg.isSome = true ↔ c.kind = .leap) ∧ ∀ l, c.arg = some l → l.due ≤ Config.maxSeconds) →
    decodeFrame (encodeFrame f) = some f

/-! ## Arithmetic -/

/-- A phase error D splits into a whole number of seconds and a part from above minus half a second
to half a second; the seconds are the smallest integer not less than (D - half a second) in seconds,
and a measurement without a stated second carries the part alone (R5). The nearest boundary to a
reading, and the error and seconds of a pulse or a chain marker that marks a whole second there (R6).
-/
def Obligations.PhaseErrorsSplitAtHalfASecond : Prop :=
  (∀ d : Int, phaseFraction d = d - phaseSeconds d * 1000000000000
      ∧ -500000000000 < phaseFraction d ∧ phaseFraction d ≤ 500000000000
      ∧ d - 500000000000 ≤ phaseSeconds d * 1000000000000
      ∧ (∀ z : Int, d - 500000000000 ≤ z * 1000000000000 → phaseSeconds d ≤ z)
      ∧ phaseSeconds 500000000000 = 0 ∧ phaseFraction 500000000000 = 500000000000
      ∧ phaseSeconds (-500000000000) = -1 ∧ phaseFraction (-500000000000) = 500000000000)
  ∧ (∀ (b f label : Nat) (p : ChainPort) (x : TimeFrame) (c : ChainConfig), f < 1000000000000 →
      let reading := b * 1000000000000 + f
      let nearest := if f < 500000000000 then b else b + 1
      let e : Int := if f < 500000000000 then -(f : Int) else 1000000000000 - f
      let marker := chainMeasurement p x ((reading : Int) + linkDelay c p) c
      nearestSecond (reading : Int) = nearest
      ∧ phaseFraction ((label : Int) * 1000000000000 - reading) = e
      ∧ phaseSeconds ((label : Int) * 1000000000000 - reading) = (label : Int) - nearest
      ∧ (satMeasurement reading (some label)).value = e
      ∧ (satMeasurement reading (some label)).ds = some ((label : Int) - nearest)
      ∧ (satMeasurement reading none).value = e ∧ (satMeasurement reading none).ds = none
      ∧ marker.value = e ∧ marker.ds = some ((x.second : Int) - nearest))

/-- A sequence number is newer than the last one when it lies 1 to 32,767 ahead of it, counting
modulo 65,536, or when there is no last one; k - 1 numbers then lie between. There is no last one
after pin reset and RESTART, and once the PKT monitor has entered ABSENT or DISABLED (R46). -/
def Obligations.SequenceNumbersCompareWithWrap : Prop :=
  (∀ q, newerSequence none q = true)
  ∧ (∀ l q k : Nat, l ≤ 65535 → q ≤ 65535 → k ≤ 65535 → (l + k) % 65536 = q →
      newerSequence (some l) q = decide (1 ≤ k ∧ k ≤ 32767)
      ∧ skippedSequences (some l) q = k - 1)
  ∧ (∀ (s : State) (m : LinkMode) (c : ReferenceConfig),
      (pinReset m s).filter.lastSequence = none ∧ (softRestart s).filter.lastSequence = none
      ∧ (enterAbsent .pkt s).filter.lastSequence = none
      ∧ (enterDisabled .pkt c s).filter.lastSequence = none)

/-- One boundary of the holdover unit in HOLDOVER: n counts it, F is clamp(f_h + drift x n / 3600)
and TEE is E0 + u x n + aging x n^2 / 7200 rounded up, saturating at 10^12 ps (R103). The entry to
HOLDOVER when a switch leaves no slot: with more entries in the ring than the guard, f_h is the mean
of the entries next to the guard, clamped, u is U0 and half their spread rounded up, E0 and TEE start
from what the state that ends gives, n is 0 and F is left (R79, R101, R102); with no more entries than
the guard the servo enters FREERUN and the flag is set (R101, R107). At a boundary in FREQ_LOCKED TEE grows by the
frequency uncertainty of the followed slot, saturating at 10^12 ps (R105). -/
def Obligations.HoldoverFollowsItsClosedForm : Prop :=
  (∀ (s : State) (f : Int) (e u : Nat), s.servo.state = .holdover → s.holdover.fh = some f →
    s.holdover.e0 = some e → s.holdover.u = some u → s.holdover.n < 4294967295 →
    (estimateSecond s).holdover.n = s.holdover.n + 1
    ∧ (estimateSecond s).time.correction = clampTo s.servo.config.pullRange
        (f + roundDiv (s.holdover.frozenDrift * ((s.holdover.n + 1 : Nat) : Int)) 3600)
    ∧ (estimateSecond s).holdover.tee = some (min 1000000000000
        (e + u * (s.holdover.n + 1)
          + (s.holdover.frozenAging * (s.holdover.n + 1) ^ 2 + 7199) / 7200))
    ∧ (estimateSecond s).time.base = s.time.base ∧ (estimateSecond s).time.frac = s.time.frac
    ∧ (estimateSecond s).servo = s.servo ∧ (estimateSecond s).refs = s.refs)
  ∧ (∀ s : State,
      s.servo.state = .acquiring ∨ s.servo.state = .locked ∨ s.servo.state = .freqLocked →
      let h := s.holdover
      let l := ((h.history.drop h.config.guard).take h.config.average).map HistoryEntry.average
      let fromLast := h.config.eBase + (s.servo.lastE.getD 0).natAbs
      let t := servoSwitch none s
      t.time = s.time ∧ t.holdover.history = h.history ∧ t.holdover.config = h.config
      ∧ t.servo.followed = none ∧ t.servo.estimate = s.servo.estimate ∧ t.part = s.part
      ∧ t.link = s.link ∧ t.pending = s.pending
      ∧ (h.config.guard < h.history.length →
          t.servo.state = .holdover ∧ t.holdover.n = 0 ∧ t.holdover.used = l.length
          ∧ t.holdover.fh = some (clampTo s.servo.config.pullRange (roundDiv l.sum l.length))
          ∧ (∀ lo ∈ l, ∀ hi ∈ l, (∀ x ∈ l, lo ≤ x ∧ x ≤ hi) →
              t.holdover.u = some (min 1000000 (h.config.u0 + ((hi - lo + 1) / 2).toNat)))
          ∧ t.holdover.frozenAging = h.config.aging ∧ t.holdover.frozenDrift = h.config.drift
          ∧ t.holdover.unavailable = h.unavailable
          ∧ ∃ e : Nat, t.holdover.e0 = some (min 1000000000000 e)
              ∧ t.holdover.tee = some (min 1000000000000 e)
              ∧ (s.servo.state = .locked → e = fromLast + s.servo.allowance)
              ∧ (s.servo.state = .freqLocked → ∀ x, h.tee = some x → e = x)
              ∧ (s.servo.state = .acquiring → e = max (h.tee.getD 0) fromLast))
      ∧ (h.history.length ≤ h.config.guard →
          t.servo.state = .freerun ∧ t.holdover.unavailable = true ∧ t.holdover.tee = none
          ∧ t.holdover.fh = h.fh ∧ t.holdover.u = h.u ∧ t.holdover.e0 = h.e0
          ∧ t.holdover.n = h.n ∧ t.holdover.used = h.used))
  ∧ (∀ (s : State) (k : Slot) (e u : Nat), s.servo.state = .freqLocked → s.servo.followed = some k →
      (s.ref k).config.uLine = some u → s.holdover.tee = some e →
      (estimateSecond s).holdover.tee = some (min 1000000000000 (e + u))
      ∧ (estimateSecond s).holdover.n = s.holdover.n ∧ (estimateSecond s).holdover.fh = s.holdover.fh
      ∧ (estimateSecond s).time = s.time ∧ (estimateSecond s).servo = s.servo
      ∧ (estimateSecond s).refs = s.refs)

/-- An update moves I by the integral step, clamped to the pull range, and F toward I plus the
proportional term, clamped too, by at most the ramp limit of the state (R83, R84, R87).  In ACQUIRING
and LOCKED the shifts are the configured ones, widened by the level in LOCKED with adaptive on.  An
update whose e exceeds the step threshold while the token is held is ended by a phase step of e,
clamped to the range of the time base: the step is counted, consumes the token, moves held captures
and sets the phase slots' skip-next flags, and one of amount zero is no step (R9 to R11, R82, R91).
The update ends with the lock judgement: in ACQUIRING the lock run reaches the lock count and the servo
enters LOCKED, in LOCKED the unlock run reaches 3 and it enters ACQUIRING, both runs then being 0 (R86).
A measurement with a seconds-step request ends its update, time being set, with a seconds step of delta-s
under the same clamp, which leaves I, F and both runs and, unless of amount zero, consumes the token and
returns every mismatch run to 0, and is recorded with the terms absent (R80, R81, R93). That the recorded
second is base seconds when the update began (log entry 29), and that an update ends as by a step whose
clamped amount is 0 (log entry 27), are the model's choices.
The update of a slot that has just replaced another is not spoken of here. -/
def Obligations.UpdatesMoveTheLoop : Prop :=
  ∀ (e : Int) (level : Nat) (s : State),
    let c := s.servo.config
    let i (k : Nat) : Int := clampTo c.pullRange (s.servo.estimate + roundDiv e (2 ^ k))
    let toward (ramp : Nat) (t : Int) : Int :=
      s.time.correction + clampTo ramp (clampTo c.pullRange t - s.time.correction)
    let leaves (u : Update) (i f : Int) : Prop :=
      u.made = s.servo.state ∧ u.step = none ∧ u.result.servo.estimate = i
      ∧ u.result.time = { s.time with correction := f } ∧ u.result.servo.config = c
      ∧ u.result.servo.token = s.servo.token ∧ u.result.selector = s.selector
      ∧ u.result.filter = s.filter ∧ u.result.chain = s.chain ∧ u.result.scheduler = s.scheduler
      ∧ u.result.link = s.link ∧ u.result.part = s.part
    let runs (u : Update) (state : ServoState) (lock unlock : Nat) : Prop :=
      u.result.servo.state = state ∧ u.result.servo.lockRun = lock
      ∧ u.result.servo.unlockRun = unlock
      ∧ u.result.servo.since = (if state = s.servo.state then s.servo.since else s.time.base)
    let locked := min 255 (s.servo.lockRun + 1)
    (s.servo.state = .acquiring → s.servo.replacement = false →
      ¬ (c.stepThreshold < e.natAbs ∧ s.servo.token = true) →
      ∃ u, servoUpdate e level s = some u
        ∧ leaves u (i c.kiAcq) (toward c.rampAcq (i c.kiAcq + roundDiv e (2 ^ c.kpAcq)))
        ∧ (c.lockThreshold < e.natAbs → runs u .acquiring 0 s.servo.unlockRun)
        ∧ (e.natAbs ≤ c.lockThreshold → locked < c.lockCount →
            runs u .acquiring locked s.servo.unlockRun)
        ∧ (e.natAbs ≤ c.lockThreshold → c.lockCount ≤ locked → runs u .locked 0 0))
    ∧ (s.servo.state = .locked → s.servo.replacement = false →
      ¬ (c.stepThreshold < e.natAbs ∧ s.servo.token = true) →
      let kp := if c.adaptive then min 31 (c.kp + level) else c.kp
      let ki := if c.adaptive then min 31 (c.ki + 2 * level) else c.ki
      ∃ u, servoUpdate e level s = some u
        ∧ leaves u (i ki) (toward c.rampLocked (i ki + roundDiv e (2 ^ kp)))
        ∧ (e.natAbs ≤ c.unlockThreshold → runs u .locked s.servo.lockRun 0)
        ∧ (c.unlockThreshold < e.natAbs → s.servo.unlockRun < 2 →
            runs u .locked s.servo.lockRun (s.servo.unlockRun + 1))
        ∧ (c.unlockThreshold < e.natAbs → 2 ≤ s.servo.unlockRun → runs u .acquiring 0 0))
    ∧ (s.servo.state = .freqLocked →
      ∃ u, servoUpdate e level s = some u ∧ leaves u (i c.kf) (toward c.rampLocked (i c.kf)))
    ∧ (s.servo.state = .freerun ∨ s.servo.state = .holdover → servoUpdate e level s = none)
    ∧ (s.servo.state = .acquiring ∨ s.servo.state = .locked → s.servo.replacement = false →
      c.stepThreshold < e.natAbs → s.servo.token = true →
      ∀ n : Nat, (n : Int) = max 0 (min 281474976710655999999999999 ((s.reading : Int) + e)) →
      (∀ a ∈ s.scheduler.table, n < a.due * 1000000000000) →
      ∃ u, servoUpdate e level s = some u ∧ u.made = s.servo.state ∧ u.terms = none
        ∧ u.result.servo.estimate = s.servo.estimate ∧ u.result.servo.state = s.servo.state
        ∧ u.result.servo.lockRun = 0 ∧ u.result.servo.unlockRun = 0
        ∧ u.result.scheduler = s.scheduler ∧ u.result.link = s.link ∧ u.result.part = s.part
        ∧ (n = s.reading → u.step = none ∧ u.result.time = s.time
            ∧ u.result.servo.token = true ∧ u.result.refs = s.refs ∧ u.result.chain = s.chain)
        ∧ (n ≠ s.reading → u.step = some .phase
            ∧ u.result.time = { s.time with
                base := n / 1000000000000, frac := n % 1000000000000
                endOfRange := decide (n = 281474976710655999999999999), landed := true
                stepCount := min 65535 (s.time.stepCount + 1) }
            ∧ u.result.servo.token = false
            ∧ (∀ k, isLine k = false → (u.result.ref k).skipNext = true)
            ∧ (∀ p, (u.result.chain.record p).capture
                = (s.chain.record p).capture.map fun x => x + ((n : Int) - s.reading))))
    ∧ (∀ (k : Slot) (m : Measurement) (d : Int) (n : Nat), isLine k = false →
      s.servo.followed = some k → s.time.timeSet = true → m.ds = some d →
      (n : Int) = max 0 (min 281474976710655999999999999 ((s.reading : Int) + d * 1000000000000)) →
      (∀ a ∈ s.scheduler.table, n < a.due * 1000000000000) →
      let t := handoff k m true s
      let v := s.servo
      t.servo.state = v.state ∧ t.servo.estimate = v.estimate ∧ t.servo.lockRun = v.lockRun
      ∧ t.servo.unlockRun = v.unlockRun ∧ t.servo.lastE = some m.value
      ∧ t.servo.allowance = m.allowance.getD v.allowance
      ∧ t.servo.updates = min 255 (v.updates + 1)
      ∧ t.servo.lastUpdate = some
          { second := s.time.base, slot := k, value := m.value, state := v.state, terms := none
            estimate := v.estimate, fBefore := s.time.correction, fAfter := s.time.correction
            step := if n = s.reading then none else some .seconds }
      ∧ t.scheduler = s.scheduler ∧ t.link = s.link ∧ t.part = s.part
      ∧ (n = s.reading → t.time = s.time ∧ t.servo.token = v.token ∧ t.refs = s.refs)
      ∧ (n ≠ s.reading →
          t.time = { s.time with
            base := n / 1000000000000, frac := n % 1000000000000
            endOfRange := decide (n = 281474976710655999999999999), landed := true
            stepCount := min 65535 (s.time.stepCount + 1) }
          ∧ t.servo.token = false
          ∧ (∀ j, (t.ref j).mismatch = { count := 0, value := 0 })
          ∧ (∀ j, (t.ref j).skipNext = (s.ref j).skipNext)
          ∧ (∀ p, (t.chain.record p).capture
              = (s.chain.record p).capture.map fun x => x + ((n : Int) - s.reading))))

/-- A minute whose open part gathers exactly 60 reports of one slot, made in one servo state other
than ACQUIRING and none of them ended by a step, forms a history entry with their average I, its
minute stamp and the largest level. One with any other number of reports, with one made in ACQUIRING
or ended by a step, or with reports of more than one slot or state, forms none, and neither does an
open part that is spoiled already (R97, R98, R100). The lead part becomes the open part; that one
which is spoiled keeps its mark is the model's reading (log entry 14). -/
def Obligations.MinutesFormHistoryEntries : Prop :=
  ∀ (h : Holdover) (m : Nat) (l : List (UpdateReport × Nat)),
    h.openPart.start = m →
    (∀ x ∈ l, (m : Int) ≤ nearestSecond x.2 ∧ nearestSecond x.2 ≤ m + 59) →
    let g := closeMinute (m + 60) (l.foldl (fun h x => fileReport x.1 x.2 h) h)
    g.openPart = { h.leadPart with start := m + 60 } ∧ g.leadPart = emptyPart (m + 120) false
    ∧ (h.openPart.spoiled = true → g.history = h.history)
    ∧ (h.openPart = emptyPart m false →
      (∀ (k : Slot) (state : ServoState), state ≠ .acquiring →
        (∀ x ∈ l, x.1.state = state ∧ x.1.slot = k ∧ x.1.step = none) → l.length = 60 →
        g.history =
          ({ average := roundDiv (l.map fun x => x.1.estimate).sum 60, stamp := m, slot := k,
             state := state, level := (l.map fun x => x.1.level).foldl max 0 } :: h.history).take 64)
      ∧ ((∃ x ∈ l, x.1.state = .acquiring ∨ x.1.step.isSome = true)
          ∨ (∃ x ∈ l, ∃ y ∈ l, x.1.state ≠ y.1.state ∨ x.1.slot ≠ y.1.slot) ∨ l.length ≠ 60 →
        g.history = h.history))

/-! ## Requests: reads and refusals -/

/-- The reads without operands are answered OK with their contents and change nothing but the
transmitter; GET_STATUS is answered in every part state (R17, R73, R94, R112, R158, R167, R186). The
reads with an operand: a slot above 5, a port above 11, a start above 63, a count outside 1 to 16
and an unknown alarm kind are refused INVALID (R41, R113, R136, R180). Octets that the spec leaves
open are laid out as log entry 20 says. -/
def Obligations.ReadsAnswerAndChangeNothing : Prop :=
  (∀ (tag : Byte) (s : State),
      (Takes s →
        exec (.getTime tag) s
          = .next { s with link := answered s.link 0x02 tag .ok (timeContents s.time) }
        ∧ exec (.getSelection tag) s
          = .next { s with link := answered s.link 0x15 tag .ok (selectionContents s) }
        ∧ exec (.getServo tag) s
          = .next { s with link := answered s.link 0x19 tag .ok (servoContents s) }
        ∧ exec (.getHoldover tag) s
          = .next { s with link := answered s.link 0x1D tag .ok (holdoverContents s) }
        ∧ exec (.getChain tag) s
          = .next { s with link := answered s.link 0x29 tag .ok (chainContents s) }
        ∧ exec (.getActions tag) s
          = .next { s with link := answered s.link 0x32 tag .ok (actionContents s) })
      ∧ (s.link.restartDue = false →
        exec (.getStatus tag) s
          = .next { s with link := answered s.link 0x3C tag .ok (statusContents s) }))
  ∧ (∀ (tag : Byte) (s : State), Takes s →
      (∀ k : Slot, exec (.getReference tag (slotNumber k)) s
          = .next { s with link := answered s.link 0x09 tag .ok (referenceContents k (s.ref k)) })
      ∧ (∀ n, 5 < n → exec (.getReference tag n) s
          = .next { s with link := answered s.link 0x09 tag .invalid [] })
      ∧ (∀ p : Fin 12, exec (.getPort tag p.val) s
          = .next { s with link := answered s.link 0x24 tag .ok (portContents p s) })
      ∧ (∀ n, 11 < n → exec (.getPort tag n) s
          = .next { s with link := answered s.link 0x24 tag .invalid [] })
      ∧ (∀ start count, exec (.getHistory tag start count) s
          = .next
            { s with
              link :=
                if start ≤ 63 ∧ 1 ≤ count ∧ count ≤ 16 then
                  answered s.link 0x1E tag .ok (historyContents start count s.holdover.history)
                else answered s.link 0x1E tag .invalid [] })
      ∧ (∀ k : AlarmKind, exec (.getAlarms tag (.kind k)) s
          = .next { s with link := answered s.link 0x35 tag .ok (alarmContents (s.alarms.group k)) })
      ∧ exec (.getAlarms tag .summary) s
          = .next { s with link := answered s.link 0x35 tag .ok (summaryContents s.alarms) }
      ∧ exec (.getAlarms tag .unknown) s
          = .next { s with link := answered s.link 0x35 tag .invalid [] })

/-- In LOADING every request but GET_STATUS is answered NOT_READY and changes nothing (R185). -/
def Obligations.LoadingAnswersNotReady : Prop :=
  ∀ (c : Instr) (kind tag : Byte) (s : State), requestOf c = some (kind, tag) → kind ≠ 0x3C →
    s.part = .loading → s.link.restartDue = false →
    exec c s = .next { s with link := answered s.link kind tag .notReady [] }

/-! ## Requests: the time base -/

/-- While time is unset SET_TIME waits for the next boundary; a value out of range is refused at any
time (R13). While time is set SET_TIME is refused WRONG_STATE in ACQUIRING and LOCKED; elsewhere
second 0 is refused INVALID, and a value that asks for no step only writes the offset (R14, R9). The
first measurement of the followed slot that carries delta-s sets the time: the count moves by that
many seconds, clamped to its range, a pending set is dropped, no step is counted and the token is
left; the measurement is then taken with time set (R12, R9). A measurement of a slot that is not
followed is dropped (R80), also where the setting of time has deselected its slot, which is the model's
choice (log entry 30). -/
def Obligations.SetTimeWithoutAStep : Prop :=
  (∀ (tag : Byte) (seconds : Nat) (offset : Option Nat) (s : State), Takes s →
      (seconds ≤ Config.maxSeconds → offset.getD 0 ≤ 255 → s.time.timeSet = false →
        exec (.setTime tag seconds offset) s = .next
          { s with
            time := { s.time with pendingSet := some { seconds := seconds, offset := offset } }
            link := answered s.link 0x01 tag .ok [] })
      ∧ (Config.maxSeconds < seconds ∨ 255 < offset.getD 0 →
        exec (.setTime tag seconds offset) s
          = .next { s with link := answered s.link 0x01 tag .invalid [] }))
  ∧ (∀ (tag : Byte) (seconds : Nat) (offset : Option Nat) (s : State), Takes s → s.time.timeSet = true →
      seconds ≤ Config.maxSeconds → offset.getD 0 ≤ 255 →
      (s.servo.state = .acquiring ∨ s.servo.state = .locked →
        exec (.setTime tag seconds offset) s
          = .next { s with link := answered s.link 0x01 tag .wrongState [] })
      ∧ (s.servo.state ≠ .acquiring → s.servo.state ≠ .locked → seconds = 0 →
        exec (.setTime tag seconds offset) s
          = .next { s with link := answered s.link 0x01 tag .invalid [] })
      ∧ (s.servo.state ≠ .acquiring → s.servo.state ≠ .locked → seconds = s.time.base + 1 →
        TimeLaw s.time →
        exec (.setTime tag seconds offset) s = .next
          { s with
            time := { s.time with offset := offset.getD s.time.offset }
            link := answered s.link 0x01 tag .ok (putI 7 0) }))
  ∧ (∀ (k : Slot) (d : Int) (s : State) (n : Nat),
      (n : Int)
        = max 0 (min 281474976710655999999999999 ((s.reading : Int) + d * 1000000000000)) →
      let t := timeSetting k d s
      t.time.timeSet = true ∧ t.time.pendingSet = none
      ∧ t.time.base = n / 1000000000000 ∧ t.time.frac = n % 1000000000000
      ∧ t.time.rem = s.time.rem ∧ t.time.correction = s.time.correction
      ∧ t.time.stepCount = s.time.stepCount ∧ t.servo.token = s.servo.token
      ∧ t.part = s.part ∧ t.link = s.link ∧ t.flash = s.flash ∧ t.pending = s.pending)
  ∧ (∀ (k : Slot) (m : Measurement) (request : Bool) (s : State),
      (s.servo.followed = some k → s.time.timeSet = false → ∀ d, m.ds = some d →
        handoff k m request s = handoff k m request (timeSetting k d s))
      ∧ (s.servo.followed ≠ some k → handoff k m request s = s))

/-- While time is set and the servo is in FREERUN, HOLDOVER or FREQ_LOCKED, SET_TIME to S steps base
seconds to S - 1 at once and leaves the fraction; the step is counted and consumes the token, and
the reply carries its seconds (R8, R10, R14, R91). A forward step takes the pending actions that it
reaches or passes, in table order, and no other (R164). That a carried offset is written after the
step, so that it stands whatever late leap actions did, is the model's choice (log entry 26). -/
def Obligations.SetTimeStepsAtOnce : Prop :=
  ∀ (tag : Byte) (seconds : Nat) (offset : Option Nat) (s : State), Takes s → s.time.timeSet = true →
    s.servo.state ≠ .acquiring → s.servo.state ≠ .locked → TimeLaw s.time → 1 ≤ seconds →
    seconds ≤ Config.maxSeconds → offset.getD 0 ≤ 255 → seconds ≠ s.time.base + 1 →
    ∃ t, exec (.setTime tag seconds offset) s = .next t
      ∧ t.time.base = seconds - 1 ∧ t.time.frac = s.time.frac ∧ t.time.rem = s.time.rem
      ∧ t.time.correction = s.time.correction ∧ t.time.timeSet = true
      ∧ (∀ o, offset = some o → t.time.offset = o)
      ∧ t.time.stepCount = min 65535 (s.time.stepCount + 1) ∧ t.servo.token = false
      ∧ t.link = answered s.link 0x01 tag .ok (putI 7 ((seconds : Int) - 1 - s.time.base))
      ∧ t.part = s.part ∧ t.flash = s.flash ∧ t.pending = s.pending
      ∧ (TableLaw s →
          t.scheduler.table = s.scheduler.table.filter (fun a => decide (t.time.base < a.due))
          ∧ (s.time.leap = earliestLeap s.scheduler.table →
              t.time.leap = earliestLeap t.scheduler.table)
          ∧ (offset = none → t.time.offset
              = (s.scheduler.table.filter fun a => decide (a.due ≤ t.time.base)).foldl
                  (fun o a => (offsetAfter a o).1) s.time.offset))

/-! ## Requests: monitors and samples -/

/-- SET_REFERENCE writes the record of a slot; its monitor is disabled, enabled into ABSENT,
restarted or left as it was by the enabled field before and after, and keeps its locked-out flag
(R40, R42). The other monitors stand as they were, their disagreement runs apart, which a switch
returns to 0 (R38). -/
def Obligations.SetReferenceConfiguresTheSlot : Prop :=
  ∀ (tag : Byte) (s : State), Takes s →
    (∀ n c, 5 < n → exec (.setReference tag n c) s
        = .next { s with link := answered s.link 0x08 tag .invalid [] })
    ∧ ∀ (k : Slot) (c : ReferenceConfig),
      (referenceOk k (normalizeReference k c) = false →
        exec (.setReference tag (slotNumber k) c) s
          = .next { s with link := answered s.link 0x08 tag .invalid [] })
      ∧ (referenceOk k (normalizeReference k c) = true →
        ∃ t, exec (.setReference tag (slotNumber k) c) s = .next t
          ∧ (t.ref k).config = normalizeReference k c
          ∧ (t.ref k).lockedOut = (s.ref k).lockedOut
          ∧ (c.enabled = false → (t.ref k).state = .disabled)
          ∧ (c.enabled = true → (s.ref k).config.enabled = false → (t.ref k).state = .absent)
          ∧ (c.enabled = true → (s.ref k).config.enabled = true →
              (s.ref k).config ≠ normalizeReference k c →
              (t.ref k).state = if (s.ref k).signal then .checking else .absent)
          ∧ (c.enabled = true → (s.ref k).config = normalizeReference k c →
              t = { s with link := answered s.link 0x08 tag .ok [] })
          ∧ (∀ j, j ≠ k → { t.ref j with disagree := 0 } = { s.ref j with disagree := 0 })
          ∧ t.link = answered s.link 0x08 tag .ok []
          ∧ t.part = s.part ∧ t.time = s.time ∧ t.filter.config = s.filter.config
          ∧ t.chain = s.chain ∧ t.scheduler = s.scheduler ∧ t.flash = s.flash
          ∧ t.pending = s.pending)

/-- LOCKOUT writes the flag in any monitor state; a slot locked out is no longer selected (R42). -/
def Obligations.LockoutWritesTheFlag : Prop :=
  ∀ (tag : Byte) (on : Bool) (s : State), Takes s →
    (∀ n, 5 < n → exec (.lockout tag n on) s
        = .next { s with link := answered s.link 0x0A tag .invalid [] })
    ∧ ∀ k : Slot,
      ((s.ref k).lockedOut = on → exec (.lockout tag (slotNumber k) on) s
          = .next { s with link := answered s.link 0x0A tag .ok [] })
      ∧ ((s.ref k).lockedOut ≠ on →
        ∃ t, exec (.lockout tag (slotNumber k) on) s = .next t
          ∧ { t.ref k with disagree := 0 } = { s.ref k with lockedOut := on, disagree := 0 }
          ∧ (on = true → t.selector.selected ≠ some k)
          ∧ (∀ j, j ≠ k → { t.ref j with disagree := 0 } = { s.ref j with disagree := 0 })
          ∧ t.link = answered s.link 0x0A tag .ok []
          ∧ t.part = s.part ∧ t.time = s.time ∧ t.filter = s.filter ∧ t.chain = s.chain
          ∧ t.scheduler = s.scheduler ∧ t.flash = s.flash ∧ t.pending = s.pending)

/-- CLEAR_COUNTS returns the two total counts to 0 and answers what they held (R43). LABEL becomes
the pending label of an enabled satellite slot (R34). That the ALL form answers the six slots in order,
without a count octet, is the model's choice (log entry 20). -/
def Obligations.CountsAreClearedAndLabelsPend : Prop :=
  (∀ (tag : Byte) (s : State), Takes s →
      (∃ r : PerSlot Monitor,
        (∀ k, r.get k = { s.ref k with totalViolations := 0, totalMissing := 0 })
        ∧ exec (.clearCounts tag none) s = .next
          { s with
            refs := r
            link := answered s.link 0x0B tag .ok (allSlots.flatMap fun k => countContents (s.ref k)) })
      ∧ (∀ k : Slot, exec (.clearCounts tag (some (slotNumber k))) s = .next
          { s.setRef k { s.ref k with totalViolations := 0, totalMissing := 0 } with
            link := answered s.link 0x0B tag .ok (countContents (s.ref k)) })
      ∧ (∀ n, 5 < n → exec (.clearCounts tag (some n)) s
          = .next { s with link := answered s.link 0x0B tag .invalid [] }))
  ∧ (∀ (tag : Byte) (seconds : Nat) (s : State), Takes s →
      (∀ k : SatSlot, seconds ≤ Config.maxSeconds → (s.ref (satSlot k)).state ≠ .disabled →
        exec (.label tag (slotNumber (satSlot k)) seconds) s = .next
          { s.setRef (satSlot k) { s.ref (satSlot k) with label := some seconds } with
            link := answered s.link 0x0C tag .ok [] })
      ∧ (∀ k : SatSlot, seconds ≤ Config.maxSeconds → (s.ref (satSlot k)).state = .disabled →
        exec (.label tag (slotNumber (satSlot k)) seconds) s
          = .next { s with link := answered s.link 0x0C tag .wrongState [] })
      ∧ (∀ n, 2 ≤ n ∨ Config.maxSeconds < seconds →
        exec (.label tag n seconds) s
          = .next { s with link := answered s.link 0x0C tag .invalid [] }))

/-- SAMPLE: the first check of R47 that applies gives the result; an accepted sample enters the
window, which holds at most 64 entries, and makes the signal of the PKT slot present (R23, R45, R47,
R48). -/
def Obligations.SampleIsJudgedInOrder : Prop :=
  ∀ (tag : Byte) (sequence : Nat) (offset : Int) (delay : Nat) (grade : Grade) (s : State),
    Takes s →
    let bad := 65535 < sequence ∨ 9000000000000000000 < offset.natAbs ∨ 1000000000 < delay
    let x : Sample :=
      { sequence := sequence, offset := offset, delay := delay, grade := grade,
        arrival := s.time.base }
    let reply := fun (r : SampleResult) (f : Filter) =>
      answered s.link 0x10 tag .ok (putSampleResult r ++ putU 1 f.window.length)
    (bad → exec (.sample tag sequence offset delay grade) s
        = .next { s with link := answered s.link 0x10 tag .invalid [] })
    ∧ (¬ bad → (s.ref .pkt).state = .disabled →
      exec (.sample tag sequence offset delay grade) s = .next
        { s with
          filter := { s.filter with disabled := min 65535 (s.filter.disabled + 1) }
          link := reply .disabled s.filter })
    ∧ (¬ bad → (s.ref .pkt).state ≠ .disabled →
      newerSequence s.filter.lastSequence sequence = false →
      exec (.sample tag sequence offset delay grade) s = .next
        { s with
          filter := { s.filter with old := min 65535 (s.filter.old + 1) }
          link := reply .old s.filter })
    ∧ (¬ bad → (s.ref .pkt).state ≠ .disabled →
      newerSequence s.filter.lastSequence sequence = true → s.filter.config.ceiling < delay →
      exec (.sample tag sequence offset delay grade) s = .next
        { s with
          filter := { s.filter with delayHigh := min 65535 (s.filter.delayHigh + 1) }
          link := reply .delayHigh s.filter })
    ∧ (¬ bad → (s.ref .pkt).state ≠ .disabled →
      newerSequence s.filter.lastSequence sequence = true → delay ≤ s.filter.config.ceiling →
      ∃ t, exec (.sample tag sequence offset delay grade) s = .next t
        ∧ t.filter = { s.filter with
            accepted := min 65535 (s.filter.accepted + 1)
            lost := min 65535 (s.filter.lost + skippedSequences s.filter.lastSequence sequence)
            lastSequence := some sequence
            window := joinWindow x s.filter.window }
        ∧ x ∈ t.filter.window
        ∧ (s.filter.window.length ≤ 64 → t.filter.window.length ≤ 64)
        ∧ (t.ref .pkt).signal = true
        ∧ ((s.ref .pkt).state = .absent → (s.ref .pkt).signal = false →
            (t.ref .pkt).state = .checking)
        ∧ ((s.ref .pkt).signal = true →
            t = { s with filter := t.filter, link := reply .accepted t.filter })
        ∧ t.link = reply .accepted t.filter ∧ t.time = s.time ∧ t.chain = s.chain
        ∧ t.scheduler = s.scheduler ∧ t.part = s.part ∧ t.flash = s.flash ∧ t.pending = s.pending)

/-- SET_FILTER writes both fields and excludes what the ceiling now forbids; GET_FILTER answers the
filter as it stands and, with the flag, returns the five counts to 0 (R55, R56). At the boundary of second
N, with the PKT monitor CHECKING, QUALIFIED or FAILED, the entries whose arrival lies below N minus the window
length leave, and the result is the entry of the least path delay, the newest of several, with the grade of
the newest entry and the locked allowance; or, with none left, a missing epoch, whose eighth running is a loss:
the signal is lost, and CHECKING or QUALIFIED goes to FAILED with cause LOSS (R23, R25, R28, R52, R53). That a
count above the limit with the signal present, which a signal that returns in FAILED leaves, declares loss again
(log entry 12), and that ageing and the copy go by N even where the base seconds are no longer N (log entry 58),
are the model's choices. -/
def Obligations.FilterIsConfiguredAndRead : Prop :=
  (∀ (tag : Byte) (s : State), Takes s →
    (∀ c, filterOk c = true → exec (.setFilter tag c) s = .next
        { s with
          filter := { s.filter with
            config := c, window := s.filter.window.filter fun x => decide (x.delay ≤ c.ceiling) }
          link := answered s.link 0x11 tag .ok [] })
    ∧ (∀ c, filterOk c = false → exec (.setFilter tag c) s
        = .next { s with link := answered s.link 0x11 tag .invalid [] })
    ∧ exec (.getFilter tag false) s
        = .next { s with link := answered s.link 0x12 tag .ok (filterContents s.filter) }
    ∧ exec (.getFilter tag true) s = .next
        { s with
          filter := { s.filter with
            accepted := 0, old := 0, delayHigh := 0, disabled := 0, lost := 0 }
          link := answered s.link 0x12 tag .ok (filterContents s.filter) })
  ∧ (∀ (n : Nat) (s : State),
      let m := s.ref .pkt
      let w := s.filter.window.filter fun x => decide (n ≤ x.arrival + s.filter.config.length)
      let missed : Monitor := { m with
        missing := min 65535 (m.missing + 1), totalMissing := min 65535 (m.totalMissing + 1) }
      let aged := s.setFilter { s.filter with window := w }
      (m.state = .absent ∨ m.state = .disabled → blockActs n s .filter = s)
      ∧ (m.state = .checking ∨ m.state = .qualified ∨ m.state = .failed →
        (w = [] → m.missing < 7 ∨ m.signal = false →
          blockActs n s .filter = aged.setRef .pkt missed)
        ∧ (w = [] → 7 ≤ m.missing → m.signal = true →
          let t := blockActs n s .filter
          (t.ref .pkt).signal = false ∧ (t.ref .pkt).state = .failed
          ∧ (m.state ≠ .failed → (t.ref .pkt).failCause = some .loss)
          ∧ (t.ref .pkt).missing = missed.missing ∧ (t.ref .pkt).totalMissing = missed.totalMissing
          ∧ t.filter = aged.filter ∧ t.time = s.time ∧ t.link = s.link ∧ t.pending = s.pending)
        ∧ (w ≠ [] → ∃ (before later : List Sample) (x newest : Sample),
          w = before ++ x :: later ∧ w.getLast? = some newest
          ∧ (∀ y ∈ before, x.delay ≤ y.delay) ∧ (∀ y ∈ later, x.delay < y.delay)
          ∧ blockActs n s .filter = takeMeasurement .pkt
              { value := phaseFraction x.offset, ds := some (phaseSeconds x.offset)
                grade := some newest.grade, allowance := some (m.config.lockedAllowance.getD 0) }
              ((s.setFilter { s.filter with
                window := w
                copy := some
                  { sequence := x.sequence, delay := x.delay, offset := x.offset
                    e := phaseFraction x.offset, ds := phaseSeconds x.offset, second := n } }).setRef
                .pkt { m with missing := 0 }))))

/-! ## Requests: selector, servo, holdover unit -/

/-- SET_SELECTION writes the record, forgets a saved mode, and the selector evaluates: HOLD selects
none, FORCED its slot exactly when it is a candidate, AUTO a candidate whenever there is one (R63,
R67, R68, R72). -/
def Obligations.SetSelectionEvaluatesAtOnce : Prop :=
  ∀ (tag : Byte) (c : SelectionConfig) (s : State), Takes s →
    (600 < c.minDwell → exec (.setSelection tag c) s
        = .next { s with link := answered s.link 0x14 tag .invalid [] })
    ∧ (c.minDwell ≤ 600 →
      ∃ t, exec (.setSelection tag c) s = .next t
        ∧ t.selector.config = c ∧ t.selector.saved = none ∧ SelectionLaw t
        ∧ (c.mode = .hold → t.selector.selected = none)
        ∧ (∀ f, c.mode = .forced f → (t.selector.selected = some f ↔ candidate t f = true))
        ∧ (c.mode = .auto → ∀ k, candidate t k = true → t.selector.selected ≠ none)
        ∧ (∀ j, { t.ref j with disagree := 0 } = { s.ref j with disagree := 0 })
        ∧ t.link = answered s.link 0x14 tag .ok []
        ∧ t.part = s.part ∧ t.time = s.time ∧ t.filter = s.filter ∧ t.chain = s.chain
        ∧ t.scheduler = s.scheduler ∧ t.flash = s.flash ∧ t.pending = s.pending)

/-- SET_SERVO writes the record; a changed pull range clamps I and F to it and clears the pull runs
(R89). ALLOW_STEP grants the step token in every servo state and says whether it was held (R90,
R92). -/
def Obligations.ServoIsConfiguredAndAllowedAStep : Prop :=
  (∀ (tag : Byte) (c : ServoConfig) (s : State), Takes s →
      (servoOk c = false → exec (.setServo tag c) s
          = .next { s with link := answered s.link 0x18 tag .invalid [] })
      ∧ (servoOk c = true → s.servo.config.pullRange = c.pullRange →
        exec (.setServo tag c) s = .next
          { s with
            servo := { s.servo with config := c }, link := answered s.link 0x18 tag .ok [] })
      ∧ (servoOk c = true → s.servo.config.pullRange ≠ c.pullRange →
        ∃ a : AlarmUnit, exec (.setServo tag c) s = .next
          { s with
            servo := { s.servo with
              config := c, estimate := clampTo c.pullRange s.servo.estimate, clampRun := 0,
              unclampRun := 0, pullLimit := false }
            time := { s.time with correction := clampTo c.pullRange s.time.correction }
            alarms := a
            link := answered s.link 0x18 tag .ok [] }))
  ∧ (∀ (tag : Byte) (s : State), Takes s → exec (.allowStep tag) s = .next
      { s with
        servo := { s.servo with token := true }
        link := answered s.link 0x1A tag .ok (putB s.servo.token) })

/-- SET_HOLDOVER writes the record, and the grade follows it at once (R109, R111). CLEAR_HISTORY
empties the ring, spoils the minute in progress, and answers how many entries it removed (R99,
R114). The grade follows the table: F with time unset, the followed slot's declared grade in LOCKED,
C in ACQUIRING, by the estimate against the warning level and the budget in HOLDOVER and FREQ_LOCKED,
and E in FREERUN; LOCKED without a declared grade leaves it (R108). -/
def Obligations.HoldoverIsConfiguredAndItsHistoryCleared : Prop :=
  (∀ (tag : Byte) (c : HoldoverConfig) (s : State), Takes s →
      (holdoverOk c = false → exec (.setHoldover tag c) s
          = .next { s with link := answered s.link 0x1C tag .invalid [] })
      ∧ (holdoverOk c = true →
        ∃ t, exec (.setHoldover tag c) s = .next t
          ∧ t = { s with
              holdover := { s.holdover with config := c, grade := t.holdover.grade }
              ports := t.ports
              alarms := t.alarms
              link := answered s.link 0x1C tag .ok (putU 4 (c.budget * c.warnPercent / 100)) }
          ∧ t.holdover.grade = gradeNow t))
  ∧ (∀ (tag : Byte) (s : State), Takes s → exec (.clearHistory tag) s = .next
      { s with
        holdover := { s.holdover with
          history := []
          openPart := emptyPart (s.time.base / 60 * 60) true
          leadPart := emptyPart (s.time.base / 60 * 60 + 60) false }
        link := answered s.link 0x1F tag .ok (putU 1 s.holdover.history.length) })
  ∧ (∀ s : State,
      let c := s.holdover.config
      let declared (k : Slot) : Option Grade :=
        if k = .pkt ∨ k = .chain then (s.ref k).declared else (s.ref k).config.declaredGrade
      (s.time.timeSet = false → gradeNow s = .F)
      ∧ (s.time.timeSet = true → s.servo.state = .locked →
          (∀ k g, s.servo.followed = some k → declared k = some g → gradeNow s = g)
          ∧ ((∀ k, s.servo.followed = some k → declared k = none) → gradeNow s = s.holdover.grade))
      ∧ (s.time.timeSet = true → s.servo.state = .acquiring → gradeNow s = .C)
      ∧ (s.time.timeSet = true → s.servo.state = .holdover ∨ s.servo.state = .freqLocked →
          ∀ x, s.holdover.tee = some x →
            gradeNow s = if x ≤ c.budget * c.warnPercent / 100 then .B
              else if x ≤ c.budget then .C else .D)
      ∧ (s.time.timeSet = true → s.servo.state = .freerun → gradeNow s = .E))

/-! ## Requests: ports -/

/-- SET_PORT writes the record, sets the effective delay to the record's compensation, drops the
queue and holds a port that is not OFF (R135). -/
def Obligations.SetPortHoldsThePort : Prop :=
  ∀ (tag : Byte) (s : State), Takes s →
    (∀ n c, 11 < n ∨ portOk c = false → exec (.setPort tag n c) s
        = .next { s with link := answered s.link 0x20 tag .invalid [] })
    ∧ ∀ (p : Fin 12) (c : PortConfig), portOk c = true →
      let k (x : PortState) :=
        answered s.link 0x20 tag .ok (putPortState x ++ putU 1 (s.port p).queue.length)
      ((s.port p).state = .off ∨ (s.port p).state = .held →
        exec (.setPort tag p.val c) s = .next
          { s.setPort p { s.port p with config := c, delay := c.delayComp, queue := [] } with
            link := k (s.port p).state })
      ∧ ((s.port p).state ≠ .off → (s.port p).state ≠ .held →
        ∃ a : AlarmUnit, exec (.setPort tag p.val c) s = .next
          { s.setPort p
              { s.port p with
                config := c, state := .held, delay := c.delayComp, queue := []
                rearm := Timer.stopped, pendingMessage := none, stepSeen := false
                suppressNext := false, activated := false } with
            alarms := a
            link := k .held })

/-- ENABLE_PORT arms a port in OFF or HELD; DISABLE_PORT turns any other than an OFF port OFF and
clears its timer and flags. A port that is already there is left, with the unchanged mark (R118 to
R120). ADJUST_PORT joins the newest end of the port's queue, which holds 8; it is taken in every
port state (R131). The octets of the replies, the mark alone from DISABLE_PORT and the mark and the
state from ENABLE_PORT, are the model's choice (log entry 20). -/
def Obligations.PortsAreEnabledDisabledAndAdjusted : Prop :=
  (∀ (tag : Byte) (s : State), Takes s →
      (∀ n, 11 < n →
        exec (.enablePort tag n) s = .next { s with link := answered s.link 0x21 tag .invalid [] }
        ∧ exec (.disablePort tag n) s = .next { s with link := answered s.link 0x22 tag .invalid [] })
      ∧ ∀ p : Fin 12,
        ((s.port p).state = .off ∨ (s.port p).state = .held →
          ∃ a : AlarmUnit, exec (.enablePort tag p.val) s = .next
            { s.setPort p
                { s.port p with state := .armed, rearm := Timer.stopped, activated := false } with
              alarms := a
              link := answered s.link 0x21 tag .ok (putB false ++ putPortState .armed) })
        ∧ ((s.port p).state ≠ .off → (s.port p).state ≠ .held →
          exec (.enablePort tag p.val) s = .next
            { s with
              link := answered s.link 0x21 tag .ok (putB true ++ putPortState (s.port p).state) })
        ∧ ((s.port p).state = .off → exec (.disablePort tag p.val) s
            = .next { s with link := answered s.link 0x22 tag .ok (putB true) })
        ∧ ((s.port p).state ≠ .off →
          ∃ a : AlarmUnit, exec (.disablePort tag p.val) s = .next
            { s.setPort p
                { s.port p with
                  state := .off, rearm := Timer.stopped, pendingMessage := none, stepSeen := false
                  suppressNext := false, activated := false } with
              alarms := a
              link := answered s.link 0x22 tag .ok (putB false) }))
  ∧ (∀ (tag : Byte) (amount : Int) (s : State), Takes s →
      (∀ n, 11 < n ∨ amount = 0 ∨ 10000000 < amount.natAbs → exec (.adjustPort tag n amount) s
          = .next { s with link := answered s.link 0x23 tag .invalid [] })
      ∧ ∀ p : Fin 12, amount ≠ 0 → amount.natAbs ≤ 10000000 →
        (8 ≤ (s.port p).queue.length → exec (.adjustPort tag p.val amount) s
            = .next { s with link := answered s.link 0x23 tag .full [] })
        ∧ ((s.port p).queue.length < 8 → exec (.adjustPort tag p.val amount) s = .next
            { s.setPort p
                { s.port p with
                  queue := (s.port p).queue ++ [{ requested := amount, remainder := amount }] } with
              link := answered s.link 0x23 tag .ok (putU 1 ((s.port p).queue.length + 1)) }))

/-! ## Requests: the chain -/

/-- SET_CHAIN writes the record; a change of the effective role, which the address strap value 7
keeps OFF, starts the unit afresh but for what it has sent and its counts (R138, R157). That the relay
overwrite count is among what is kept and that a sending or a frame which still waits is dropped (log entry
52), and that a change of the upstream port's link delay sets
the skip-next flag of the CHAIN monitor in whatever state it is (log entry 32), are the model's choices. -/
def Obligations.SetChainAppliesTheRole : Prop :=
  ∀ (tag : Byte) (c : ChainConfig) (s : State), Takes s →
    let role := if s.chain.address = 7 then ChainRole.off else c.role
    (chainOk c = false → exec (.setChain tag c) s
        = .next { s with link := answered s.link 0x28 tag .invalid [] })
    ∧ (chainOk c = true → role = s.chain.role → s.chain.upstream = none →
      exec (.setChain tag c) s = .next
        { s with
          chain := { s.chain with config := c }
          link := answered s.link 0x28 tag .ok (putRole role) })
    ∧ (chainOk c = true → role = s.chain.role → ∀ p, s.chain.upstream = some p →
      exec (.setChain tag c) s = .next
        { s with
          chain := { s.chain with config := c }
          refs :=
            if linkDelay s.chain.config p = linkDelay c p then s.refs
            else s.refs.set .chain { s.ref .chain with skipNext := true }
          link := answered s.link 0x28 tag .ok (putRole role) })
    ∧ (chainOk c = true → role ≠ s.chain.role →
      ∃ a : AlarmUnit, exec (.setChain tag c) s = .next
        { s with
          chain := { s.chain with
            config := c, role := role, upstream := none, unattached := 0, swap := none
            portA := chainRecordAtReset, portB := chainRecordAtReset, lastUpstream := none
            relayCommand := none, relayWord := none, commandSlot := none, outbox := none
            lastCommand := none, conflict := Timer.stopped, tooLong := Timer.stopped
            sendDue := none, frameDue := none }
          alarms := a
          link := answered s.link 0x28 tag .ok (putRole role) })

/-- CHAIN_COMMAND: the tests in order, then the command slot with the next sequence number;
CHAIN_CANCEL empties the slot, or comes too late (R154). That CHAIN_CANCEL of a part that is no
leader is answered as an empty slot (log entry 31), and that target 7 in a part of station address 7 is
INVALID before the role is judged (log entry 53), are the model's choices. -/
def Obligations.ChainCommandsWaitInTheSlot : Prop :=
  ∀ (tag : Byte) (s : State), Takes s →
    (∀ target arg, exec (.chainCommand tag none target arg) s
        = .next { s with link := answered s.link 0x2A tag .invalid [] })
    ∧ (∀ (k : ChainCommandKind) (target : Nat) (arg : Option Leap),
      let bad := 7 < target ∨ target = s.chain.address ∨ (arg.isSome = true ↔ k ≠ .leap)
        ∨ ∃ l, arg = some l ∧ Config.maxSeconds < l.due
      (bad → exec (.chainCommand tag (some k) target arg) s
          = .next { s with link := answered s.link 0x2A tag .invalid [] })
      ∧ (¬ bad → s.chain.role ≠ .leader → exec (.chainCommand tag (some k) target arg) s
          = .next { s with link := answered s.link 0x2A tag .notLeader [] })
      ∧ (¬ bad → s.chain.role = .leader → s.chain.commandSlot.isSome = true →
        exec (.chainCommand tag (some k) target arg) s
          = .next { s with link := answered s.link 0x2A tag .busy [] })
      ∧ (¬ bad → s.chain.role = .leader → s.chain.commandSlot = none →
        exec (.chainCommand tag (some k) target arg) s = .next
          { s with
            chain := { s.chain with
              commandSlot :=
                some { kind := k, target := target, sequence := s.chain.nextCommand, arg := arg }
              nextCommand := (s.chain.nextCommand + 1) % 256 }
            link := answered s.link 0x2A tag .ok (putU 1 s.chain.nextCommand) }))
    ∧ (s.chain.commandSlot = none → exec (.chainCancel tag) s
        = .next { s with link := answered s.link 0x2B tag .tooLate [] })
    ∧ (∀ c, s.chain.commandSlot = some c → exec (.chainCancel tag) s = .next
        { s with
          chain := { s.chain with commandSlot := none }
          link := answered s.link 0x2B tag .ok (putU 1 c.sequence) })

/-- POST_WORD: a part that is no leader, then an occupied outbox, is refused; else the word enters
the outbox (R155). FETCH_WORD answers the inbox and empties it (R156). -/
def Obligations.WordsArePostedAndFetched : Prop :=
  ∀ (tag : Byte) (s : State), Takes s →
    (∀ w, s.chain.role ≠ .leader → exec (.postWord tag w) s
        = .next { s with link := answered s.link 0x2C tag .notLeader [] })
    ∧ (∀ w, s.chain.role = .leader → s.chain.outbox.isSome = true → exec (.postWord tag w) s
        = .next { s with link := answered s.link 0x2C tag .busy [] })
    ∧ (∀ w, s.chain.role = .leader → s.chain.outbox = none → exec (.postWord tag w) s = .next
        { s with
          chain := { s.chain with outbox := some w }, link := answered s.link 0x2C tag .ok [] })
    ∧ exec (.fetchWord tag) s = .next
        { s with
          chain := { s.chain with inbox := none }
          link := answered s.link 0x2D tag .ok (putOpt 11 putInbox s.chain.inbox) }

/-! ## Requests: the scheduler -/

/-- SCHEDULE: the first test that applies refuses; an accepted action enters at its place in table
order with the first id from the next id on that no pending action holds; the next id goes to the one after it,
from 65,535 to 1, and the wrapped flag is set if the counter came round, on its way past pending ids or after
(R160 to R162). -/
def Obligations.ScheduleEntersTheTable : Prop :=
  ∀ (tag : Byte) (due : Nat) (arg : Option Nat) (s : State), Takes s →
    (exec (.schedule tag none due arg) s
        = .next { s with link := answered s.link 0x30 tag .invalid [] })
    ∧ ∀ k : ActionKind,
      (Config.maxSeconds < due ∨ argumentOk k arg = false →
        exec (.schedule tag (some k) due arg) s
          = .next { s with link := answered s.link 0x30 tag .invalid [] })
      ∧ (due ≤ Config.maxSeconds → argumentOk k arg = true → due ≤ s.time.base + 1 →
        exec (.schedule tag (some k) due arg) s
          = .next { s with link := answered s.link 0x30 tag .tooLate [] })
      ∧ (due ≤ Config.maxSeconds → argumentOk k arg = true → s.time.base + 1 < due →
        8 ≤ s.scheduler.table.length → exec (.schedule tag (some k) due arg) s
          = .next { s with link := answered s.link 0x30 tag .full [] })
      ∧ (due ≤ Config.maxSeconds → argumentOk k arg = true → s.time.base + 1 < due →
        s.scheduler.table.length < 8 →
        ∃ (id next : Nat) (wrapped : Bool) (table : List Action),
          exec (.schedule tag (some k) due arg) s = .next
            { s with
              time := { s.time with leap := earliestLeap table }
              scheduler := { s.scheduler with table := table, nextId := next, wrapped := wrapped }
              link := answered s.link 0x30 tag .ok (putU 2 id) }
          ∧ table.Perm ({ id := id, kind := k, due := due, arg := arg, source := .host }
              :: s.scheduler.table)
          ∧ IdIssued s.scheduler id next wrapped
          ∧ ((∀ a ∈ s.scheduler.table, a.id ≠ s.scheduler.nextId) → id = s.scheduler.nextId)
          ∧ (s.scheduler.table.Pairwise (fun a b => actionBefore a b = true) →
              table.Pairwise (fun a b => actionBefore a b = true)))

/-- CANCEL removes a pending action and answers its kind and due second; an id pending but already due, or
issued and no longer pending, comes too late, and one never issued is unknown (R166). -/
def Obligations.CancelRemovesTheAction : Prop :=
  ∀ (tag : Byte) (id : Nat) (s : State), Takes s →
    (id = 0 ∨ 65535 < id → exec (.cancel tag id) s
        = .next { s with link := answered s.link 0x31 tag .invalid [] })
    ∧ (0 < id → id ≤ 65535 → (∀ a ∈ s.scheduler.table, a.id ≠ id) → exec (.cancel tag id) s = .next
        { s with
          link := answered s.link 0x31 tag
            (if s.scheduler.wrapped = true ∨ id < s.scheduler.nextId then .tooLate else .unknownId)
            [] })
    ∧ (∀ a ∈ s.scheduler.table, a.id = id → 0 < id → id ≤ 65535 → id ∈ s.scheduler.dueIds →
      exec (.cancel tag id) s = .next { s with link := answered s.link 0x31 tag .tooLate [] })
    ∧ (∀ a ∈ s.scheduler.table, a.id = id → 0 < id → id ≤ 65535 → id ∉ s.scheduler.dueIds →
      TableLaw s → exec (.cancel tag id) s = .next
        { s with
          time := { s.time with
            leap := earliestLeap (s.scheduler.table.filter fun b => decide (b.id ≠ id)) }
          scheduler := { s.scheduler with
            table := s.scheduler.table.filter fun b => decide (b.id ≠ id) }
          link := answered s.link 0x31 tag .ok (putActionKind a.kind ++ putU 6 a.due) })

/-! ## Requests: alarms and notices -/

/-- SET_ALARM writes a kind's record, and the contacts follow it at once; SET_ATTENTION writes the
setting, answers the one before, and the line follows it at once (R174, R178, R179). -/
def Obligations.AlarmSettingsActAtOnce : Prop :=
  ∀ (tag : Byte) (s : State), Takes s →
    (∀ c, exec (.setAlarm tag none c) s
        = .next { s with link := answered s.link 0x34 tag .invalid [] })
    ∧ (∀ k c, alarmOk c = false → exec (.setAlarm tag (some k) c) s
        = .next { s with link := answered s.link 0x34 tag .invalid [] })
    ∧ (∀ k c, alarmOk c = true →
      let u := s.alarms.setGroup k { s.alarms.group k with config := c }
      exec (.setAlarm tag (some k) c) s = .next
        { s with
          alarms := { u with
            crit := contactAsserted .critical u, maj := contactAsserted .major u
            attention := !s.alarms.queue.isEmpty && s.alarms.attentionOn }
          link := answered s.link 0x34 tag .ok [] })
    ∧ (∀ on, AlarmLaw s.alarms → exec (.setAttention tag on) s = .next
        { s with
          alarms := { s.alarms with
            attentionOn := on, attention := !s.alarms.queue.isEmpty && on }
          link := answered s.link 0x38 tag .ok (putB s.alarms.attentionOn) })

/-- ACK_ALARM: an entry in RAISED or PENDING_CLEAR is acknowledged, one in LATCHED goes to CLEAR with
its flag clear, and any other is left; the reply gives the number of entries whose flag was set or
whose state changed; an entry that does not exist is refused (R173). The ALL form does so with every
entry. Where the notice of a LATCHED entry finds the queue full, NOTICE_OVERFLOW is declared and moves
its own entry, which ALL then acknowledges as it finds it (R176); with room for the notices that entry
too is moved by its state alone. -/
def Obligations.AcknowledgingMovesEntriesByTheirState : Prop :=
  ∀ (tag : Byte) (s : State), Takes s →
    let affects (x : AlarmKind × Nat) : Bool :=
      (s.alarms.entry? x.1 x.2).any fun e =>
        decide (e.state = .latched)
          || (decide (e.state = .raised ∨ e.state = .pendingClear) && !e.acknowledged)
    let latched (x : AlarmKind × Nat) : Bool :=
      (s.alarms.entry? x.1 x.2).any fun e => decide (e.state = .latched)
    let moved (e e' : AlarmEntry) : Prop :=
      (e.state = .raised ∨ e.state = .pendingClear → e' = { e with acknowledged := true })
      ∧ (e.state = .latched → e' = { e with state := .clear, acknowledged := false })
      ∧ (e.state = .clear ∨ e.state = .pendingRaise → e' = e)
    (exec (.ackAlarm tag .unknown) s
        = .next { s with link := answered s.link 0x36 tag .invalid [] })
    ∧ (∀ k n, alarmCount k ≤ n → exec (.ackAlarm tag (.entry k n)) s
        = .next { s with link := answered s.link 0x36 tag .invalid [] })
    ∧ (∀ k n, n < alarmCount k →
      ∃ a : AlarmUnit, exec (.ackAlarm tag (.entry k n)) s = .next
          { s with
            alarms := a
            link := answered s.link 0x36 tag .ok (putU 1 (affects (k, n)).toNat) }
        ∧ (∀ e, s.alarms.entry? k n = some e → ∃ e', a.entry? k n = some e' ∧ moved e e')
        ∧ (∀ j m, (j, m) ≠ (k, n) →
            j ≠ .noticeOverflow ∨ s.alarms.queue.length < 32 ∨ latched (k, n) = false →
            a.entry? j m = s.alarms.entry? j m)
        ∧ (∀ j, (a.group j).config = (s.alarms.group j).config)
        ∧ a.attentionOn = s.alarms.attentionOn)
    ∧ (let others := (allEntries.filter fun x => decide (x.1 ≠ .noticeOverflow)).countP affects
      let quiet := s.alarms.queue.length + allEntries.countP latched ≤ 32
      ∃ (a : AlarmUnit) (affected : Nat),
        exec (.ackAlarm tag .all) s = .next
          { s with alarms := a, link := answered s.link 0x36 tag .ok (putU 1 affected) }
        ∧ (∀ k n e, n < alarmCount k → k ≠ .noticeOverflow ∨ quiet →
            s.alarms.entry? k n = some e → ∃ e', a.entry? k n = some e' ∧ moved e e')
        ∧ others ≤ affected ∧ affected ≤ others + 1
        ∧ (quiet → affected = allEntries.countP affects)
        ∧ (∀ j, (a.group j).config = (s.alarms.group j).config)
        ∧ a.attentionOn = s.alarms.attentionOn)

/-- GET_NOTICES removes the oldest notices and answers them; an OVERFLOW notice with the dropped
count takes the place they freed, the count returns to 0 and NOTICE_OVERFLOW is declared absent, which moves
its entry as any condition that goes away does (R171, R172, R176, R177). -/
def Obligations.NoticesAreReadOldestFirst : Prop :=
  ∀ (tag : Byte) (max : Nat) (s : State), Takes s → AlarmLaw s.alarms →
    (max = 0 ∨ 8 < max → exec (.getNotices tag max) s
        = .next { s with link := answered s.link 0x37 tag .invalid [] })
    ∧ (1 ≤ max → max ≤ 8 →
      ∃ a : AlarmUnit, exec (.getNotices tag max) s = .next
        { s with
          alarms := a
          link := answered s.link 0x37 tag .ok
            (putList putNotice (s.alarms.queue.take max) ++ putU 1 a.queue.length) }
        ∧ (s.alarms.dropped = 0 →
            a.queue = s.alarms.queue.drop max ∧ a.dropped = 0 ∧ a.groups = s.alarms.groups)
        ∧ (s.alarms.dropped ≠ 0 → s.alarms.queue ≠ [] →
            a.queue = s.alarms.queue.drop max
                ++ [{ detail := .overflow s.alarms.dropped, number := 0, stamp := s.time.base }]
            ∧ a.dropped = 0
            ∧ (∀ k n, k ≠ .noticeOverflow → a.entry? k n = s.alarms.entry? k n)
            ∧ ∀ e, s.alarms.entry? .noticeOverflow 0 = some e →
                let c := (s.alarms.group .noticeOverflow).config
                ∃ e', a.entry? .noticeOverflow 0 = some e' ∧ e'.condition = false
                  ∧ (e.condition = false → e' = e)
                  ∧ (e.condition = true →
                    (e.state = .pendingRaise → e'.state = .clear ∧ e'.timer = Timer.stopped)
                    ∧ (e.state = .raised → c.clearDelay ≠ 0 →
                        e'.state = .pendingClear ∧ e'.timer = Timer.start c.clearDelay)
                    ∧ (e.state = .raised → c.clearDelay = 0 → e'.clearedAt = some s.time.base
                        ∧ e'.state = (if c.latch && !e.acknowledged then .latched else .clear))))
        ∧ a.attentionOn = s.alarms.attentionOn
        ∧ a.attention = (!a.queue.isEmpty && a.attentionOn))

/-! ## The profile and the restart -/

/-- SAVE_PROFILE takes the snapshot and enters SAVING, or finds a save running; the save ends by a
read-back that matches, by a failure, or by its 10 s. A snapshot holds every record as it stands,
F_boot equal to I, and the saved selection mode in place of the HOLD that replaced it (R74, R187,
R189). That an end of a save does nothing with none running is the model's choice (log entry 7). -/
def Obligations.ProfileIsSaved : Prop :=
  (∀ (tag : Byte) (s : State),
      (Takes s → s.part = .saving → exec (.saveProfile tag) s
          = .next { s with link := answered s.link 0x3D tag .busy [] })
      ∧ (Takes s → s.part = .running → exec (.saveProfile tag) s = .next
          { s with
            part := .saving
            flash := none
            link := answered { s.link with saving := some (snapshot s) } 0x3D tag .ok [] })
      ∧ (s.part = .saving → ∀ p, s.link.saving = some p →
        ∃ a : AlarmUnit, exec (.profileSaveDone .readBackMatches) s = .next
          { s with
            part := .running
            flash := some { markerCorrect := true, checkMatches := true, profile := p }
            link := { s.link with saving := none, defaulted := false }
            alarms := a })
      ∧ (s.part = .saving → ∃ a : AlarmUnit,
          let failed := { s with
            part := .running, link := { s.link with saving := none }, alarms := a }
          exec (.profileSaveDone .refused) s = .next failed
          ∧ exec (.profileSaveDone .readBackDiffers) s = .next failed
          ∧ exec .profileSaveTimeout s = .next failed)
      ∧ (s.part ≠ .saving → (∀ r, exec (.profileSaveDone r) s = .next s)
          ∧ exec .profileSaveTimeout s = .next s))
  ∧ (∀ s : State, (∀ k, (snapshot s).refs.get k = (s.ref k).config)
      ∧ (snapshot s).filter = s.filter.config ∧ (snapshot s).servo = s.servo.config
      ∧ (snapshot s).holdover = s.holdover.config ∧ (snapshot s).chain = s.chain.config
      ∧ (∀ p : Fin 12, (snapshot s).ports[p] = (s.port p).config)
      ∧ (∀ k, (snapshot s).alarms[alarmIndex k] = (s.alarms.group k).config)
      ∧ (snapshot s).attention = s.alarms.attentionOn ∧ (snapshot s).fBoot = s.servo.estimate
      ∧ (snapshot s).selection
          = { s.selector.config with mode := s.selector.saved.getD s.selector.config.mode })

/-- RESTART is answered OK and waits for that reply to be sent; REPLY_SENT ends the reply at the
head, and the next that waits is then taken, but after a RESTART's reply the soft restart comes
first (R184, R190). That REPLY_SENT does nothing with no reply being sent, and SOFT_RESTART with
none due, is the model's choice (log entry 7). -/
def Obligations.RestartWaitsForItsReply : Prop :=
  ∀ (tag : Byte) (s : State), s.link.restartDue = false →
    (s.part = .running → exec (.restart tag) s = .next
        { s with
          link := { s.link with
            replies := s.link.replies ++
              [{ kind := 0x3E, tag := tag
                 answer := { status := .ok, contents := [], restart := true } }] } })
    ∧ (s.part = .saving → exec (.restart tag) s
        = .next { s with link := answered s.link 0x3E tag .busy [] })
    ∧ (s.link.replies = [] → exec .replySent s = .next s)
    ∧ (∀ r rest, s.link.replies = r :: rest → r.answer.restart = true →
      exec .replySent s
        = .next { s with link := { s.link with replies := rest, restartDue := true } })
    ∧ (∀ r rest, s.link.replies = r :: rest → r.answer.restart = false →
      rest ≠ [] ∨ s.link.waiting = [] →
      exec .replySent s = .next { s with link := { s.link with replies := rest } })
    ∧ (∀ r kind tag' w, s.link.replies = [r] → r.answer.restart = false →
      s.link.waiting = .overrun kind tag' :: w →
      exec .replySent s = .next
        { s with link := answered { s.link with replies := [], waiting := w } kind tag' .overrun [] })
    ∧ (∀ r q w, s.link.replies = [r] → r.answer.restart = false →
      s.link.waiting = .request q :: w →
      exec .replySent s
        = .next (takeRequest q { s with link := { s.link with replies := [], waiting := w } }))
    ∧ exec .softRestart s = .next s

/-- The soft restart: every block as its chapter gives for RESTART, with the records, the time, F, I,
the history, the locked-out flags and the issued ids kept; the grade is computed and the ports stand
under it, without a notice; every condition present is declared as an appearance (R44, R57, R74, R95,
R108, R115, R118, R137, R159, R168, R181, R190). The next request that waits is then taken, if no reply
is being sent. That what the chain ports put out last stands (log entry 34), and that a sending or a frame
of the chain which still waits is dropped (log entry 52), are the model's choices. -/
def Obligations.SoftRestartKeepsWhatItsChaptersSay : Prop :=
  ∀ s : State, s.link.restartDue = true →
    let g : Grade := if s.time.timeSet then .E else .F
    ∃ r : State,
      (s.link.waiting = [] ∨ s.link.replies ≠ [] → exec .softRestart s = .next r)
      ∧ (∀ q w, s.link.replies = [] → s.link.waiting = .request q :: w →
          exec .softRestart s
            = .next (takeRequest q { r with link := { r.link with waiting := w } }))
      ∧ (∀ kind tag w, s.link.replies = [] → s.link.waiting = .overrun kind tag :: w →
          exec .softRestart s = .next
            { r with link := answered { r.link with waiting := w } kind tag .overrun [] })
      ∧ r.part = s.part ∧ r.flash = s.flash ∧ r.pending = s.pending
      ∧ r.time = { s.time with leap := none }
      ∧ (∀ k, r.ref k = monitorAtReset k (s.ref k).config (s.ref k).lockedOut)
      ∧ r.filter = filterAtReset s.filter.config ∧ r.selector = selectorAtReset s.selector.config
      ∧ r.servo = servoAtReset s.servo.config s.servo.estimate true
      ∧ r.holdover =
          { s.holdover with
            openPart := emptyPart (s.time.base / 60 * 60) true
            leadPart := emptyPart (s.time.base / 60 * 60 + 60) false
            fh := none, u := none, used := 0, e0 := none, frozenAging := 0, frozenDrift := 0, n := 0
            tee := none, unavailable := false, grade := g }
      ∧ (∀ p, let x := s.port p
          let meets := gradeMeets g x.config.minGrade
          r.port p =
            if x.state = .active ∧ x.config.policy = .squelch ∧ meets = false then
              { x with queue := [], state := .squelched, rearm := Timer.stopped, activated := false }
            else if x.state = .squelched ∧ meets = false then
              { x with queue := [], rearm := Timer.stopped }
            else if x.state = .squelched ∧ x.rearm = Timer.stopped ∧ x.config.rearm = 0 then
              { x with queue := [], state := .active, activated := decide (s.time.frac = 0) }
            else if x.state = .squelched ∧ x.rearm = Timer.stopped then
              { x with queue := [], rearm := Timer.start x.config.rearm }
            else { x with queue := [] })
      ∧ r.chain = { chainAtReset s.chain.config s.chain.role s.chain.address with
          lastSent := s.chain.lastSent, sequence := s.chain.sequence
          nextCommand := s.chain.nextCommand, outA := s.chain.outA, outB := s.chain.outB }
      ∧ r.scheduler = { s.scheduler with table := [], dueIds := [] }
      ∧ (∀ k, (r.alarms.group k).config = (s.alarms.group k).config)
      ∧ r.alarms.attentionOn = s.alarms.attentionOn ∧ r.alarms.dropped = 0 ∧ AlarmLaw r.alarms
      ∧ (∀ k n, n < alarmCount k →
          let c := (s.alarms.group k).config
          r.alarms.entry? k n = some
            (if conditionPresent r k n = false then entryAtReset
            else if c.raiseDelay = 0 then
              { entryAtReset with
                condition := true, state := .raised, raiseCount := 1, raisedAt := some s.time.base }
            else
              { entryAtReset with
                condition := true, state := .pendingRaise, timer := Timer.start c.raiseDelay }))
      ∧ (∀ x, x ∈ r.alarms.queue ↔ ∃ k n, n < alarmCount k ∧ conditionPresent r k n = true
          ∧ (s.alarms.group k).config.raiseDelay = 0
          ∧ (s.alarms.group k).config.severity ≠ .notReported
          ∧ x = { detail := .alarm k .raised (s.alarms.group k).config.severity 1
                  number := n, stamp := s.time.base })
      ∧ r.link = { s.link with linkErrors := 0, overruns := 0, restartDue := false }

/-- PIN_RESET: the state right after the reset pin, with the link mode as strapped; the flash keeps
its image (R182, R188). An SPI target sends the idle octet 0x00 wherever no reply octet is ready
(R182). Loading ends with the records of a good image, or with the defaults when there is none or the
flash does not answer in time; the chain's role follows the straps, and every monitor is ABSENT or
DISABLED by its record (R138, R188). The values in LOADING that the spec leaves open, and that the
flash and the commands that wait stand, are the model's choice (log entries 1, 2), and so is that the replies
not yet sent and a soft restart that is due are dropped at PIN_RESET (log entry 59), and that the
ends of loading do nothing outside LOADING (log entry 7). -/
def Obligations.LoadingStartsAndEnds : Prop :=
  (∀ (mode : LinkMode) (s : State), exec (.pinReset mode) s = .next
      { State.reset with
        link := { State.reset.link with mode := mode }, flash := s.flash, pending := s.pending })
  ∧ (∀ (straps : BitVec 3) (s : State),
      (s.part = .loading → ∀ (i : FlashImage) (p : Profile) (d : Bool) (c : Instr),
        (imageGood i = true ∧ p = i.profile ∧ d = false
            ∧ (c = .profileLoadDone (.image i) straps
                ∨ c = .profileLoadDone .stored straps ∧ s.flash = some i))
          ∨ (p = defaultProfile ∧ d = true
            ∧ (c = .profileLoadTimeout straps
                ∨ c = .profileLoadDone .stored straps ∧ s.flash = none
                ∨ c = .profileLoadDone .stored straps ∧ s.flash = some i ∧ imageGood i = false
                ∨ c = .profileLoadDone (.image i) straps ∧ imageGood i = false)) →
        ∃ t, exec c s = .next t ∧ t.part = .running ∧ t.link = { s.link with defaulted := d }
          ∧ (∀ k, t.ref k = monitorAtReset k (normalizeReference k (p.refs.get k)) false)
          ∧ t.filter = filterAtReset p.filter ∧ t.selector = selectorAtReset p.selection
          ∧ t.servo = servoAtReset p.servo (clampTo p.servo.pullRange p.fBoot) true
          ∧ t.time = { State.reset.time with correction := clampTo p.servo.pullRange p.fBoot }
          ∧ t.holdover = holdoverAtReset p.holdover
          ∧ (∀ q : Fin 12, t.port q = portAtReset p.ports[q])
          ∧ t.chain = chainAtReset p.chain
              (if straps.toNat = 7 then .off else p.chain.role) straps.toNat
          ∧ t.scheduler = schedulerAtReset
          ∧ (∀ k, (t.alarms.group k).config = p.alarms[alarmIndex k])
          ∧ t.pending = s.pending)
      ∧ (s.part ≠ .loading → (∀ r, exec (.profileLoadDone r straps) s = .next s)
          ∧ exec (.profileLoadTimeout straps) s = .next s))
  ∧ (∀ (i : Nat) (k : Link),
      (∀ r rest b, k.replies = r :: rest → (encodeReply r)[i]? = some b → octetOut i k = some b)
      ∧ ((∀ r rest, k.replies = r :: rest → (encodeReply r).length ≤ i) →
          octetOut i k = if k.mode = .spi then some 0x00 else none))

/-! ## The link -/

/-- A complete frame with a matching check is a request: taken at once when nothing waits and every
earlier reply has been sent, else buffered, else recorded as an overrun answer, else discarded; a
frame whose check does not match is counted (R183, R184). A soft restart that is due acts first, and
with it the taking of the oldest request that waits (R190). A taken request is judged in order:
unknown kind, LOADING, in which GET_STATUS alone is answered, a body that does not give the kind's
fields, and then by the owning block (R185): a body of the fields that fit their octets, laid out in
their order, is taken as the command of the table with this kind, tag and fields (R191). The octets of
the fields whose widths R191 leaves open are the model's choice (log entry 20), and so are that a
command of the table is the taking of its request (log entry 9) and that any octet after ALL in ACK_ALARM, and
after AUTO or HOLD in SET_SELECTION, is taken as the one which R191 gives (log entry 55). -/
def Obligations.FramesAreTakenBufferedOrOverrun : Prop :=
  (∀ (kind tag : Byte) (body : List Byte) (s : State), body.length ≤ 512 →
      s.link.restartDue = false →
      let c : Instr := .frameReceived (encodeControl kind tag body)
      let q : Request := { kind := kind, tag := tag, body := body }
      let k := s.link
      (k.replies = [] → k.waiting = [] → exec c s = .next (takeRequest q s))
      ∧ (k.replies ≠ [] ∨ k.waiting ≠ [] → bufferedCount k.waiting < 2 →
        exec c s = .next { s with link := { k with waiting := k.waiting ++ [.request q] } })
      ∧ (k.replies ≠ [] ∨ k.waiting ≠ [] → 2 ≤ bufferedCount k.waiting → overrunCount k.waiting < 8 →
        exec c s = .next
          { s with
            link := { k with
              overruns := min 65535 (k.overruns + 1)
              waiting := k.waiting ++ [.overrun kind tag] } })
      ∧ (k.replies ≠ [] ∨ k.waiting ≠ [] → 2 ≤ bufferedCount k.waiting → 8 ≤ overrunCount k.waiting →
        exec c s = .next { s with link := { k with overruns := min 65535 (k.overruns + 1) } })
      ∧ (∀ a b : Byte, [a, b] ≠ checkOctets (putU 2 body.length ++ [kind, tag] ++ body) →
        exec (.frameReceived (0xA5 :: putU 2 body.length ++ [kind, tag] ++ body ++ [a, b])) s
          = .next { s with link := { k with linkErrors := min 65535 (k.linkErrors + 1) } }))
  ∧ (∀ (kind tag : Byte) (body : List Byte) (s : State), body.length ≤ 512 →
      s.link.restartDue = true →
      (softRestart s).link.restartDue = false
      ∧ exec (.frameReceived (encodeControl kind tag body)) s
        = exec (.frameReceived (encodeControl kind tag body)) (serveNext (softRestart s)))
  ∧ (∀ (q : Request) (s : State),
      (knownKind q.kind = false → takeRequest q s
          = { s with link := answered s.link q.kind q.tag .unknownKind [] })
      ∧ (knownKind q.kind = true → s.part = .loading → q.kind ≠ 0x3C → takeRequest q s
          = { s with link := answered s.link q.kind q.tag .notReady [] })
      ∧ (q.kind = 0x3C → takeRequest q s = { s with
          link := if q.body = [] then answered s.link q.kind q.tag .ok (statusContents s)
            else answered s.link q.kind q.tag .invalid [] })
      ∧ (knownKind q.kind = true → s.part ≠ .loading → requestEffect q.kind.toNat q.body = none →
        takeRequest q s = { s with link := answered s.link q.kind q.tag .invalid [] })
      ∧ (knownKind q.kind = true → Takes s → ∀ f, requestEffect q.kind.toNat q.body = some f →
        takeRequest q s = takeTyped q.kind q.tag f s))
  ∧ (∀ (tag : Byte) (s : State), Takes s →
      let as (c : Instr) (kind : Byte) (body : List Byte) : Prop :=
        exec c s = .next (takeRequest { kind := kind, tag := tag, body := body } s)
      let opt (n : Nat) (v : Option Nat) : Prop := ∀ x, v = some x → x < 256 ^ n
      (as (.getTime tag) 0x02 [] ∧ as (.getSelection tag) 0x15 [] ∧ as (.getServo tag) 0x19 []
        ∧ as (.allowStep tag) 0x1A [] ∧ as (.getHoldover tag) 0x1D [] ∧ as (.clearHistory tag) 0x1F []
        ∧ as (.getChain tag) 0x29 [] ∧ as (.chainCancel tag) 0x2B [] ∧ as (.fetchWord tag) 0x2D []
        ∧ as (.getActions tag) 0x32 [] ∧ as (.getStatus tag) 0x3C [] ∧ as (.saveProfile tag) 0x3D []
        ∧ as (.restart tag) 0x3E [])
      ∧ (∀ n < 256, as (.getReference tag n) 0x09 (putU 1 n)
        ∧ as (.enablePort tag n) 0x21 (putU 1 n) ∧ as (.disablePort tag n) 0x22 (putU 1 n)
        ∧ as (.getPort tag n) 0x24 (putU 1 n) ∧ as (.getNotices tag n) 0x37 (putU 1 n)
        ∧ (n ≠ 255 → as (.clearCounts tag (some n)) 0x0B (putU 1 n))
        ∧ (∀ b, as (.lockout tag n b) 0x0A (putU 1 n ++ putB b))
        ∧ (∀ m < 256, as (.getHistory tag n m) 0x1E (putU 1 n ++ putU 1 m))
        ∧ (∀ v < 256 ^ 6, as (.label tag n v) 0x0C (putU 1 n ++ putU 6 v))
        ∧ (∀ v : Int, -2147483648 ≤ v → v < 2147483648 →
            as (.adjustPort tag n v) 0x23 (putU 1 n ++ putI 4 v)))
      ∧ as (.clearCounts tag none) 0x0B [0xFF]
      ∧ (∀ b, as (.getFilter tag b) 0x12 (putB b) ∧ as (.setAttention tag b) 0x38 (putB b))
      ∧ (∀ v o, v < 256 ^ 6 → opt 1 o → as (.setTime tag v o) 0x01 (putU 6 v ++ putOptU 1 o))
      ∧ (∀ q (o : Int) d g, q < 256 ^ 2 → -(2 ^ 63 : Int) ≤ o → o < 2 ^ 63 → d < 256 ^ 4 →
          as (.sample tag q o d g) 0x10 (putU 2 q ++ putI 8 o ++ putU 4 d ++ putGrade g))
      ∧ (∀ n < 256 ^ 2, as (.cancel tag n) 0x31 (putU 2 n))
      ∧ (∀ w : Word32, as (.postWord tag w) 0x2C (putU 4 w.toNat))
      ∧ (∀ k v o, v < 256 ^ 6 → opt 1 o → as (.schedule tag (some k) v o) 0x30
          (putActionKind k ++ putU 6 v ++ putOptU 1 o))
      ∧ (∀ n v o, 8 < n → n < 256 → v < 256 ^ 6 → opt 1 o → as (.schedule tag none v o) 0x30
          (putU 1 n ++ putU 6 v ++ putOptU 1 o))
      ∧ (∀ (l : Option Leap) m, m < 256 → (∀ x, l = some x → x.due < 256 ^ 6) →
          (∀ k, as (.chainCommand tag (some k) m l) 0x2A
            (putCommandKind k ++ putU 1 m ++ putOpt 7 putLeap l))
          ∧ (∀ n < 256, n = 0 ∨ 4 < n → as (.chainCommand tag none m l) 0x2A
            (putU 1 n ++ putU 1 m ++ putOpt 7 putLeap l)))
      ∧ (∀ k : AlarmKind, as (.getAlarms tag (.kind k)) 0x35 (putAlarmKind k)
        ∧ (∀ m < 256, as (.ackAlarm tag (.entry k m)) 0x36 (putAlarmKind k ++ putU 1 m)))
      ∧ as (.getAlarms tag .summary) 0x35 [0xFF]
      ∧ (∀ b : Byte, as (.ackAlarm tag .all) 0x36 [0xFF, b])
      ∧ (∀ n < 255, n = 0 ∨ 18 < n → as (.getAlarms tag .unknown) 0x35 (putU 1 n)
        ∧ (∀ b : Byte, as (.ackAlarm tag .unknown) 0x36 (putU 1 n ++ [b])))
      ∧ (∀ c : AlarmConfig, c.raiseDelay < 256 → c.clearDelay < 256 ^ 2 →
          (∀ k, as (.setAlarm tag (some k) c) 0x34 (putAlarmKind k ++ putAlarmConfig c))
          ∧ (∀ n < 256, n = 0 ∨ 18 < n → as (.setAlarm tag none c) 0x34
            (putU 1 n ++ putAlarmConfig c)))
      ∧ (∀ c : FilterConfig, c.length < 256 → c.ceiling < 256 ^ 4 →
          as (.setFilter tag c) 0x11 (putFilterConfig c))
      ∧ (∀ c : SelectionConfig, c.minDwell < 256 ^ 2 → as (.setSelection tag c) 0x14 (putSelection c))
      ∧ (∀ c : ServoConfig, c.kp < 256 → c.ki < 256 → c.kpAcq < 256 → c.kiAcq < 256 → c.kf < 256 →
          c.pullRange < 256 ^ 4 → c.rampLocked < 256 ^ 3 → c.rampAcq < 256 ^ 3 →
          c.stepThreshold < 256 ^ 4 → c.lockThreshold < 256 ^ 3 → c.lockCount < 256 →
          c.unlockThreshold < 256 ^ 4 → as (.setServo tag c) 0x18 (putServoConfig c))
      ∧ (∀ c : HoldoverConfig, c.guard < 256 → c.average < 256 → c.u0 < 256 ^ 3 → c.aging < 256 ^ 2 →
          -32768 ≤ c.drift → c.drift < 32768 → c.eBase < 256 ^ 4 → c.budget < 256 ^ 4 →
          c.warnPercent < 256 → as (.setHoldover tag c) 0x1C (putHoldoverConfig c))
      ∧ (∀ n (c : PortConfig), n < 256 → c.frequency < 256 ^ 4 → c.delayComp < 256 ^ 3 →
          c.width < 256 ^ 4 → c.rearm < 256 ^ 2 → c.stepLimit < 256 ^ 3 →
          c.jumpTolerance < 256 ^ 3 → as (.setPort tag n c) 0x20 (putU 1 n ++ putPortConfig c))
      ∧ (∀ c : ChainConfig, c.linkA < 256 ^ 3 → c.linkB < 256 ^ 3 → c.hop < 256 ^ 3 →
          c.holdOff < 256 → as (.setChain tag c) 0x28 (putChainConfig c))
      ∧ (∀ n (c : ReferenceConfig), n < 256 → c.priority < 256 → c.floor < 256 ^ 4 →
          c.ceiling < 256 ^ 4 → c.immediate < 256 → c.delayed < 256 → c.period < 256 ^ 2 →
          c.qualify < 256 ^ 2 → c.waitRestore < 256 ^ 2 → opt 4 c.agreement → opt 4 c.nominal →
          opt 3 c.uLine → opt 3 c.lockedAllowance →
          (∀ k, slotOfNumber n = some k → normalizeReference k c = c) →
          as (.setReference tag n c) 0x08 (putU 1 n ++ putReference c)))

/-- A frame broken off by select (SPI) or by time (UART), and one whose length octets ask for more
than 512, is discarded and counted; a kind outside the catalogue is answered UNKNOWN_KIND (R183,
R185). That these events do nothing in the other link mode, or with a length of 512 or less, is the
model's choice (log entry 7), and so is that a release or a timeout in its own mode counts an error in
every state, as the end of a frame that was begun (log entry 37). -/
def Obligations.DiscardedFramesAreCounted : Prop :=
  ∀ s : State,
    let counted := { s with
      link := { s.link with linkErrors := min 65535 (s.link.linkErrors + 1) } }
    exec .selectReleased s = .next (if s.link.mode = .spi then counted else s)
    ∧ exec .frameTimeout s = .next (if s.link.mode = .uart then counted else s)
    ∧ (∀ l : Word16, exec (.overlongBodyLength l) s = .next (if 512 < l.toNat then counted else s))
    ∧ (∀ tag kind, s.link.restartDue = false → knownKind kind = false →
      exec (.unknownKind tag kind) s
        = .next { s with link := answered s.link kind tag .unknownKind [] })

/-! ## The count -/

/-- A boundary begins second N, the old base seconds plus one or the second of a pending SET_TIME, and
the grade of second N is recorded; with the step token not held, time set and no chain frame among what
arrives there, no step follows, so the count stands at the boundary (R3, R13, R91, R110). The actions
due by second N are then taken in table order (R163, R164): those that were pending when N was marked, and
none that enters after it. A label of second N composed before they are
taken, at a boundary or at a forward step past it, carries the offset that they leave, and as its leap the
earliest pending leap due within a day after N (R16, R165). Whatever order a boundary names, every block acts
on it exactly once (R3), and an expiry that is due there, or what arrives at the boundary's own instant, comes
exactly where it is named: an expiry before the pending set too if it is named before every block. An emission
instant at an effective delay of 0 that is named there is used, before the grade is recorded or after it, by
an ACTIVE port, unless a step has moved the reading or the port became ACTIVE there (R121, R122, R125, R128).
That the order is an operand of the command, that the remainder of R2 stays over a commanded boundary, and
that the pending set comes before what arrives there, are the model's choices (log entries 6, 8, 19, 54). -/
def Obligations.BoundaryBeginsTheNextSecond : Prop :=
  (∀ (order : List Block) (s : State), s.part ≠ .loading → s.time.endOfRange = false →
      s.time.base < Config.maxSeconds → settle s = s →
      let n := (s.time.pendingSet.map PendingSet.seconds).getD (s.time.base + 1)
      ∃ t, exec (.secondBoundary order) s = .next t
        ∧ (∃ r, t.holdover.recorded = some r ∧ r.second = n
            ∧ t.holdover.gradeOfSecond = r.grade)
        ∧ t.part = s.part ∧ t.link = s.link ∧ t.flash = s.flash ∧ t.pending = s.pending
        ∧ (s.servo.token = false → s.time.timeSet = true ∨ s.time.pendingSet ≠ none →
            (∀ p l b, Block.frame p l b ∉ order) →
            t.time.base = n ∧ t.time.frac = 0 ∧ t.time.rem = s.time.rem ∧ t.time.timeSet = true
            ∧ t.time.pendingSet = none ∧ t.time.stepCount = s.time.stepCount
            ∧ t.servo.token = false
            ∧ (TableLaw s →
                t.scheduler.table = s.scheduler.table.filter (fun a => decide (n < a.due))
                ∧ (s.time.leap = earliestLeap s.scheduler.table →
                    t.time.leap = earliestLeap t.scheduler.table)
                ∧ t.time.offset
                  = (s.scheduler.table.filter fun a => decide (a.due ≤ n)).foldl
                      (fun o a => (offsetAfter a o).1)
                      ((s.time.pendingSet.bind PendingSet.offset).getD s.time.offset))))
  ∧ (∀ order : List Block, (blockOrder order).Nodup
      ∧ (∀ b : Block, b ∈ blockOrder order ↔ b ∈ order
          ∨ b ∈ [Block.scheduler, .filter, .line .lineA, .line .lineB, .agreement, .chain, .servo,
              .holdover, .ports])
      ∧ (∀ (n : Nat) (s : State), blocksAct n order (expiriesFirst n order s)
          = (blockOrder order).foldl (blockActs n) s))
  ∧ (∀ (n : Nat) (s : State),
      (markDue n s).scheduler = { s.scheduler with
        dueIds := (s.scheduler.table.filter fun a => decide (a.due = n)).map Action.id }
      ∧ (blockActs n s .scheduler).scheduler.table
        = s.scheduler.table.filter fun a => decide (a.id ∉ s.scheduler.dueIds))
  ∧ (∀ (p : Fin 12) (n : Nat) (s : State),
      let x := s.port p
      let comes : Prop := x.delay = 0 ∧ s.time.base = n ∧ s.time.frac = 0 ∧ s.time.landed = false
        ∧ x.activated = false ∧ x.state = .active ∧ ∀ l, x.lastEmitted = some l → l < n
      (¬ comes → blockActs n s (.instant p) = s)
      ∧ (comes → ∃ (y : Port) (a : AlarmUnit),
          blockActs n s (.instant p) = { s.setPort p y with alarms := a }
          ∧ y.lastEmitted = some n ∧ y.state = .active ∧ y.suppressNext = false
          ∧ (x.suppressNext = true → y.pin = x.pin ∧ y.pendingMessage = x.pendingMessage)
          ∧ (x.suppressNext = false → y.pin = true
              ∧ (x.config.type = .pulseTod →
                  (∀ r, s.holdover.recorded = some r → r.second ≠ n) → y.pendingMessage = some n))))
  ∧ (∀ (n : Nat) (s : State),
      ((s.scheduler.table.filter fun a => decide (a.due ≤ n)).foldl (takeAction false) s).time.offset
          = labelOffset n s
      ∧ (∀ ev : StepEvent, ev.forward = true →
          (if ev.pending then ev.before ≤ n ∧ n < ev.after else ev.before < n ∧ n ≤ ev.after) →
          (schedulerStep ev s).time.offset = stepLabelOffset ev n s)
      ∧ (s.scheduler.table.Pairwise (fun a b => actionBefore a b = true) →
          (∀ l, labelLeap n s = some l →
            n < l.due ∧ l.due ≤ n + 86400 ∧ (∃ a ∈ s.scheduler.table, actionLeap a = some l)
            ∧ ∀ a ∈ s.scheduler.table, ∀ x, actionLeap a = some x → n < x.due → l.due ≤ x.due)
          ∧ (labelLeap n s = none →
              ∀ a ∈ s.scheduler.table, ∀ x, actionLeap a = some x → x.due ≤ n ∨ n + 86400 < x.due)))

/-- In the last second the count stops at its last instant and the end-of-range flag is set; no
boundary is marked from there on (R4). That END_OF_RANGE runs the count on, in whole picoseconds and
with the remainder kept, past emission instants, clock edges and line silences that were not commanded, and
does nothing once the flag is set, is the model's choice (log entries 7, 8, 47). -/
def Obligations.CountHoldsAtTheEndOfItsRange : Prop :=
  ∀ s : State,
    (s.part ≠ .loading → s.time.endOfRange = false → s.time.base = Config.maxSeconds →
      s.time.frac ≤ 999999999999 → Undisturbed 999999999999 s →
      ∃ k : Nat, k = 999999999999 - s.time.frac ∧ exec .endOfRange s = .next
        { s with
          time := { s.time with
            frac := 999999999999, counted := s.time.counted + k, endOfRange := true
            landed := s.time.landed && decide (k = 0) }
          refs := refsCounted k s.refs })
    ∧ (s.time.endOfRange = true → exec .endOfRange s = .next s
        ∧ ∀ order, exec (.secondBoundary order) s = .next s)

/-- A pin event ahead of the count finds the count run on to its instant; nothing acts between when
nothing is due and no satellite window closes on the way (R2, R6, R26, R27, R144); a run to the
last instant of the range sets the end-of-range flag (R4). That the instant is an operand of the
command (log entry 8), and that emission instants, clock edges and a line silence of 1 ms on the way, which
were not commanded, are left unused (log entry 47), are the model's choices. -/
def Obligations.PinEventsFindTheCountAtTheirInstant : Prop :=
  ∀ (t : Nat) (s : State),
    (∀ k, exec (.satPulse k t) s = exec (.satPulse k 0) (advanceTo t s))
    ∧ (∀ k n, exec (.lineEdge k t n) s = exec (.lineEdge k 0 n) (advanceTo t s))
    ∧ (∀ p, exec (.chainMarker p t) s = exec (.chainMarker p 0) (advanceTo t s))
    ∧ (∀ p l b, exec (.chainFrame p t l b) s = exec (.chainFrame p 0 l b) (advanceTo t s))
    ∧ (s.part ≠ .loading → s.time.endOfRange = false → s.time.frac < t → t < 1000000000000 →
      Undisturbed t s →
      advanceTo t s = { s with
        time := { s.time with
          frac := t, counted := s.time.counted + (t - s.time.frac), landed := false
          endOfRange := decide (s.time.base = Config.maxSeconds ∧ t = 999999999999) }
        refs := refsCounted (t - s.time.frac) s.refs })

/-! ## Satellite and line inputs -/

/-- A satellite pulse: a DISABLED monitor takes nothing; the first pulse of its window is a
measurement of the nearest boundary, takes the pending label and makes the signal present; a further
pulse is only counted (R6, R23, R26, R35). That last e and last delta-s are taken also when the
measurement fails the slot for WANDER is the model's choice (log entry 11).  The checks of a
measurement: the time check keeps the mismatch run, and at 3 asks for a seconds step or fails the slot
for TIME (R37); the agreement run counts measurements outside the limit while LOCKED (R38); at a
boundary two slots of 5 that agree outvote the selected one, else each of 5 fails for DISAGREE (R39).
-/
def Obligations.SatellitePulsesAreMeasured : Prop :=
  (∀ (k : SatSlot) (s : State), s.part ≠ .loading →
    let m := s.ref (satSlot k)
    let now := (nearestSecond s.reading).toNat
    (m.state = .disabled → exec (.satPulse k 0) s = .next s)
    ∧ (m.state ≠ .disabled → m.signal = true → windowReached s (satSlot k) = none →
      ∀ w, m.window = some w → w.second = now → w.pulses ≠ 0 →
      exec (.satPulse k 0) s = .next
        (s.setRef (satSlot k) { m with window := some { second := now, pulses := w.pulses + 1 } }))
    ∧ (m.state ≠ .disabled → (m.state = .absent → m.signal = false) →
      windowReached s (satSlot k) = none →
      (∀ w, m.window = some w → w.second = now → w.pulses = 0) →
      ∃ t, exec (.satPulse k 0) s = .next t
        ∧ (t.ref (satSlot k)).signal = true
        ∧ (t.ref (satSlot k)).lastE = some (boundaryError s.reading)
        ∧ (t.ref (satSlot k)).lastDs = m.label.map (fun l => (l : Int) - nearestSecond s.reading)
        ∧ (t.ref (satSlot k)).label = none
        ∧ t.part = s.part ∧ t.link = s.link ∧ t.flash = s.flash ∧ t.pending = s.pending))
  ∧ (∀ (k : Slot) (x : Measurement) (s : State),
      let m := s.ref k
      let run (c : Nat) (v : Int) : State :=
        s.setRef k { m with mismatch := { count := c, value := v } }
      let c (d : Int) : Nat :=
        if m.mismatch.count ≠ 0 ∧ m.mismatch.value = d then min 3 (m.mismatch.count + 1) else 1
      (x.ds = none ∨ s.time.timeSet = false ∨ m.carriesTime = false → timeCheck k x s = (s, false))
      ∧ (s.time.timeSet = true → m.carriesTime = true → ∀ d, x.ds = some d →
          (d = 0 → timeCheck k x s = (run 0 0, false))
          ∧ (d ≠ 0 → c d < 3 → timeCheck k x s = (run (c d) d, false))
          ∧ (d ≠ 0 → c d = 3 → s.selector.selected = some k → s.servo.token = true →
              timeCheck k x s = (run 0 0, true))
          ∧ (d ≠ 0 → c d = 3 → s.selector.selected ≠ some k ∨ s.servo.token = false →
              m.state = .checking ∨ m.state = .qualified →
              (timeCheck k x s).2 = false ∧ ((timeCheck k x s).1.ref k).state = .failed
              ∧ ((timeCheck k x s).1.ref k).failCause = some .time)))
  ∧ (∀ (k : Slot) (value : Int) (s : State),
      let m := s.ref k
      let kept := s.servo.state = .locked ∧ isLine k = false ∧ m.state = .qualified
        ∧ s.selector.selected ≠ some k
      (¬ kept → agreementRun k value s = s)
      ∧ (kept → ∀ l, m.config.agreement = some l →
          agreementRun k value s = s.setRef k
            { m with disagree := if l < value.natAbs then min 255 (m.disagree + 1) else 0 }))
  ∧ (∀ s : State,
      let apart (k : Slot) : Prop := isLine k = false ∧ s.selector.selected ≠ some k
        ∧ (s.ref k).state = .qualified ∧ 5 ≤ (s.ref k).disagree
      let agree (x y : Slot) : Prop := x ≠ y ∧ apart x ∧ apart y ∧ ∃ ex ey lx ly,
        (s.ref x).lastE = some ex ∧ (s.ref y).lastE = some ey
        ∧ (s.ref x).config.agreement = some lx ∧ (s.ref y).config.agreement = some ly
        ∧ (ex - ey).natAbs ≤ min lx ly
      let t := agreementJudge s
      (s.servo.state ≠ .locked ∨ (∀ k, ¬ apart k) → t = s)
      ∧ (s.servo.state = .locked → (∃ x y, agree x y) → ∀ k, s.selector.selected = some k →
          (s.ref k).state = .checking ∨ (s.ref k).state = .qualified →
          (t.ref k).state = .failed ∧ (t.ref k).failCause = some .outvoted
          ∧ (∀ j, (t.ref j).disagree = 0) ∧ (∀ j, j ≠ k → (t.ref j).state = (s.ref j).state))
      ∧ (s.servo.state = .locked → (∀ x y, ¬ agree x y) →
          (∀ j, apart j → (t.ref j).state = .failed ∧ (t.ref j).failCause = some .disagree)
          ∧ (∀ j, ¬ apart j → (t.ref j).state = (s.ref j).state)))

/-- The close of a satellite window: one pulse is a good epoch, any other number a missing one, and
the third missing one running declares loss (R23, R25, R26). That a count above the limit with the
signal present, which a signal that returns in FAILED leaves, declares loss again is the model's
choice (log entry 12). -/
def Obligations.SatelliteWindowsAreJudged : Prop :=
  ∀ (k : SatSlot) (s : State) (w : SatWindow), s.part ≠ .loading →
    let m := s.ref (satSlot k)
    let next : Option SatWindow := some { second := w.second + 1, pulses := 0 }
    m.window = some w → w.second = s.time.base → 500000000000 ≤ s.time.frac →
    (m.state = .checking ∨ m.state = .qualified ∨ m.state = .failed) →
    (w.pulses = 1 → exec (.satWindowClose k) s
        = .next (s.setRef (satSlot k) { m with window := next, missing := 0 }))
    ∧ (w.pulses ≠ 1 → m.missing < 2 → exec (.satWindowClose k) s = .next
        (s.setRef (satSlot k)
          { m with
            window := next, missing := m.missing + 1
            totalMissing := min 65535 (m.totalMissing + 1) }))
    ∧ (w.pulses ≠ 1 → 2 ≤ m.missing → m.signal = true →
      ∃ t, exec (.satWindowClose k) s = .next t
        ∧ (t.ref (satSlot k)).signal = false ∧ (t.ref (satSlot k)).state = .failed
        ∧ (m.state ≠ .failed → (t.ref (satSlot k)).failCause = some .loss)
        ∧ t.time = s.time ∧ t.chain = s.chain ∧ t.scheduler = s.scheduler ∧ t.link = s.link
        ∧ t.part = s.part ∧ t.flash = s.flash ∧ t.pending = s.pending)

/-- A line-clock edge restarts the silence and is counted, and the first after a loss makes the
signal present; 1 ms without an edge empties the ring and declares loss, and LINE_LOSS before that runs the
count on to the end of that silence (R23, R25, R27). At a boundary the accumulation, the line clock's phase
advance less the counted time, joins a ring of 16, unless a phase step fell in its interval, and a full ring
gives fe, its mean rounded to nearest; while the signal is lost the boundary is a missing epoch (R27). That
edges come in groups, the phase between them being the counted time since the newest (log entry 15), that a
clock already lost is not lost again (log entry 7), that LINE_LOSS runs the count on (log entry 8) and leaves
alone a silence that ends in a later second (log entry 7) and what it passes without a command (log entry 47),
that an interval begun without a signal gives no accumulation (log entry 16), that a missing epoch is counted
in ABSENT too (log entry 17), and that periods which are no whole number of picoseconds are taken at a
neighbouring one (log entry 3), are the model's choices. -/
def Obligations.LineClocksAreTimed : Prop :=
  ∀ (k : LineSlot) (s : State), s.part ≠ .loading →
    let m := s.ref (lineSlot k)
    (m.state = .disabled → ∀ n, exec (.lineEdge k 0 n) s = .next s)
    ∧ (m.state ≠ .disabled → m.signal = true → ∀ n, 0 < n → exec (.lineEdge k 0 n) s = .next
        (s.setRef (lineSlot k)
          { m with line := { m.line with sinceEdge := 0, edges := m.line.edges + n } }))
    ∧ (m.state ≠ .disabled → m.signal = false → ∀ n, 0 < n →
      ∃ t, exec (.lineEdge k 0 n) s = .next t
        ∧ (t.ref (lineSlot k)).signal = true ∧ (t.ref (lineSlot k)).missing = 0
        ∧ (t.ref (lineSlot k)).line.sinceEdge = 0
        ∧ (m.state = .absent → (t.ref (lineSlot k)).state = .checking)
        ∧ (m.state ≠ .absent → (t.ref (lineSlot k)).state = m.state)
        ∧ t.time = s.time ∧ t.link = s.link ∧ t.pending = s.pending)
    ∧ (m.signal = false → exec (.lineLoss k) s = .next s)
    ∧ (m.signal = true → 1000000000 ≤ m.line.sinceEdge →
      ∃ t, exec (.lineLoss k) s = .next t
        ∧ (t.ref (lineSlot k)).signal = false ∧ (t.ref (lineSlot k)).ring = []
        ∧ (m.state = .checking ∨ m.state = .qualified →
            (t.ref (lineSlot k)).state = .failed ∧ (t.ref (lineSlot k)).failCause = some .loss)
        ∧ t.time = s.time ∧ t.link = s.link ∧ t.pending = s.pending)
    ∧ (m.signal = true → m.line.sinceEdge < 1000000000 →
      let x := s.time.frac + (1000000000 - m.line.sinceEdge)
      (s.time.endOfRange = true ∨ 1000000000000 ≤ x → exec (.lineLoss k) s = .next s)
      ∧ (s.time.endOfRange = false → x < 1000000000000 → Undisturbed x s →
        ∃ t, exec (.lineLoss k) s = .next t
          ∧ (t.ref (lineSlot k)).signal = false ∧ (t.ref (lineSlot k)).ring = []
          ∧ (m.state = .checking ∨ m.state = .qualified →
              (t.ref (lineSlot k)).state = .failed ∧ (t.ref (lineSlot k)).failCause = some .loss)
          ∧ t.time = { s.time with
              frac := x, counted := s.time.counted + (x - s.time.frac), landed := false
              endOfRange := decide (s.time.base = Config.maxSeconds ∧ x = 999999999999) }
          ∧ t.link = s.link ∧ t.pending = s.pending))
    ∧ (∀ (n : Nat),
      (m.state = .disabled → blockActs n s (.line k) = s)
      ∧ (m.state ≠ .disabled → m.signal = false → blockActs n s (.line k)
          = s.setRef (lineSlot k) { m with
              missing := min 65535 (m.missing + 1), totalMissing := min 65535 (m.totalMissing + 1) })
      ∧ (m.state ≠ .disabled → m.signal = true → blockActs n s (.line k)
          = if m.line.fresh then takeMeasurement (lineSlot k)
              { value := roundDiv m.ring.sum 16, ds := none, grade := none, allowance := none } s
            else s))
    ∧ (∀ (counted f r0 : Nat), m.config.nominal = some f → 0 < f → m.line.reference = some r0 →
      m.signal = true → (m.state = .checking ∨ m.state = .qualified ∨ m.state = .failed) →
      let y := (countTimers counted s).ref (lineSlot k)
      ∃ p : Nat,
        ((p * f : Nat) : Int) - ((m.line.edges * 1000000000000 : Nat) : Int) < f
        ∧ ((m.line.edges * 1000000000000 : Nat) : Int) - ((p * f : Nat) : Int) < f
        ∧ (m.line.stepped = false →
            y.ring = (((p : Int) + m.line.sinceEdge - r0 - counted) :: m.ring).take 16
            ∧ y.line.fresh = decide (y.ring.length = 16))
        ∧ (m.line.stepped = true → y.ring = m.ring ∧ y.line.fresh = false)
        ∧ y.line.reference = some m.line.sinceEdge ∧ y.line.edges = 0 ∧ y.line.stepped = false
        ∧ y.line.sinceEdge = m.line.sinceEdge ∧ y.signal = true)
    ∧ (∀ (counted : Nat), m.line.reference = none ∨ m.signal = false →
      let y := (countTimers counted s).ref (lineSlot k)
      y.ring = m.ring ∧ y.line.fresh = false ∧ y.line.edges = 0 ∧ y.line.stepped = false
      ∧ y.signal = m.signal)

/-- A due qualify timer makes a CHECKING slot QUALIFIED; a due wait timer takes a FAILED one to
CHECKING or, with its signal lost, to ABSENT; one that is not due does nothing (R24, R25). That an
expiry which is not due may be commanded at all is the model's choice (log entry 7). -/
def Obligations.MonitorTimersExpire : Prop :=
  ∀ (k : Slot) (s : State),
    ((s.ref k).qualify.due = false → exec (.qualifyTimerExpiry k) s = .next s)
    ∧ ((s.ref k).wait.due = false → exec (.waitTimerExpiry k) s = .next s)
    ∧ ((s.ref k).qualify.due = true → (s.ref k).state = .checking →
      ∃ t, exec (.qualifyTimerExpiry k) s = .next t
        ∧ { t.ref k with disagree := 0 }
            = { s.ref k with
                state := .qualified, disagree := 0
                qualify := { (s.ref k).qualify with due := false } }
        ∧ (∀ j, j ≠ k → { t.ref j with disagree := 0 } = { s.ref j with disagree := 0 })
        ∧ t.time = s.time ∧ t.filter = s.filter ∧ t.chain = s.chain ∧ t.scheduler = s.scheduler
        ∧ t.link = s.link ∧ t.part = s.part ∧ t.flash = s.flash ∧ t.pending = s.pending)
    ∧ ((s.ref k).wait.due = true → (s.ref k).state = .failed →
      ∃ t, exec (.waitTimerExpiry k) s = .next t
        ∧ (t.ref k).state = (if (s.ref k).signal then .checking else .absent)
        ∧ (t.ref k).failCause = none ∧ (t.ref k).wait = Timer.stopped
        ∧ (∀ j, j ≠ k → { t.ref j with disagree := 0 } = { s.ref j with disagree := 0 })
        ∧ t.time = s.time ∧ t.chain = s.chain ∧ t.scheduler = s.scheduler
        ∧ t.link = s.link ∧ t.part = s.part ∧ t.flash = s.flash ∧ t.pending = s.pending)

/-- The end of an observation period: a delayed attack raises the level, a quiet period lowers it,
and a new period begins; at the level ceiling the slot fails with cause WANDER (R31, R32). That an
end which is not due does nothing is the model's choice (log entry 7). A measurement that lies further
from the last one than the limit of its level is a violation, which is counted unless the skip-next
flag is set; the immediate-attack count raises the level at once (R30, R31). -/
def Obligations.ObservationPeriodsMoveTheLevel : Prop :=
  ∀ (k : Slot) (s : State),
    let m := s.ref k
    let fresh := Timer.start m.config.period
    let qualify := if m.state = .checking then Timer.start m.config.qualify else m.qualify
    ((m.period.due = false ∨ m.state ≠ .checking ∧ m.state ≠ .qualified) →
      exec (.observationPeriodEnd k) s = .next s)
    ∧ (m.period.due = true → m.state = .checking ∨ m.state = .qualified →
      m.periodCount < m.config.delayed → 0 < m.periodCount →
      exec (.observationPeriodEnd k) s
        = .next (s.setRef k { m with periodCount := 0, period := fresh }))
    ∧ (m.period.due = true → m.state = .checking ∨ m.state = .qualified →
      m.periodCount = 0 → 0 < m.config.delayed →
      exec (.observationPeriodEnd k) s
        = .next (s.setRef k { m with level := m.level - 1, periodCount := 0, period := fresh }))
    ∧ (m.period.due = true → m.state = .checking ∨ m.state = .qualified →
      m.config.delayed ≤ m.periodCount → m.level < levelMax m.config →
      exec (.observationPeriodEnd k) s = .next
        (s.setRef k
          { m with level := m.level + 1, periodCount := 0, period := fresh, qualify := qualify }))
    ∧ (m.period.due = true → m.state = .checking ∨ m.state = .qualified →
      m.config.delayed ≤ m.periodCount → levelMax m.config ≤ m.level →
      ∃ t, exec (.observationPeriodEnd k) s = .next t
        ∧ (t.ref k).state = .failed ∧ (t.ref k).failCause = some .wander
        ∧ (t.ref k).level = m.level ∧ t.time = s.time ∧ t.link = s.link ∧ t.pending = s.pending)
    ∧ (∀ value : Int,
      let last := if isLine k then m.lastFe else m.lastE
      let count := min 15 (m.periodCount + 1)
      let total := min 255 (m.totalViolations + 1)
      (last = none ∨ m.skipNext = true → wanderJudge k value s = s)
      ∧ (∀ v, last = some v → (value - v).natAbs ≤ m.config.floor * 2 ^ m.level →
          wanderJudge k value s = s)
      ∧ (∀ v, last = some v → m.skipNext = false →
          m.config.floor * 2 ^ m.level < (value - v).natAbs →
          (count < m.config.immediate → wanderJudge k value s
            = s.setRef k { m with periodCount := count, totalViolations := total })
          ∧ (m.config.immediate ≤ count → m.level < levelMax m.config → wanderJudge k value s
            = s.setRef k
                { m with
                  level := m.level + 1, periodCount := 0, totalViolations := total
                  period := fresh, qualify := qualify })
          ∧ (m.config.immediate ≤ count → levelMax m.config ≤ m.level →
              m.state = .checking ∨ m.state = .qualified →
              let t := wanderJudge k value s
              (t.ref k).state = .failed ∧ (t.ref k).failCause = some .wander
              ∧ (t.ref k).level = m.level ∧ (t.ref k).totalViolations = total
              ∧ t.time = s.time ∧ t.link = s.link ∧ t.pending = s.pending)))

/-! ## Chain inputs -/

/-- A marker's edge captures the reading, in place of any capture still held; with the role OFF nothing
is taken (R144). A TIME frame: one that is not well formed is counted; a valid one marks its port, and
on the upstream port it is what the member relays, with the command and word in the relay slots (R140,
R144, R145, R152); its word is stored in an empty inbox with a notice, or dropped, counted and noticed as lost
(R156); one that holds the member's address or 7 entries is discarded and counted, by each
test (R145), and the leader takes a frame from another origin as a conflict (R143). A command addressed
to the member, or to all, which is no repeat, is taken: ignored, or acted on, with its notice (R153). That
the instant is an operand of the command (log entry 8), that a frame may be counted by both tests (log
entry 22), what is taken as not well formed (log entry 23), that the inbox word's second is that after the
hand-off (log entry 48), and that CHAIN_COMMAND_TAKEN is posted after the notices of what the command does
(log entry 49), are the model's choices.
What the chain sends: for a second not yet sent the markers go out on the sending ports, and the
frame once its grade is recorded, with the next sequence number; the leader's carries its command and
word, with notices, a member's the path, allowance and slots that it relays, an island's its own
address alone (R142, R143, R152). -/
def Obligations.ChainInputsAreJudged : Prop :=
  (∀ (p : ChainPort) (u : Nat) (s₀ : State), s₀.part ≠ .loading →
      let s := advanceTo u s₀
      (s.chain.role = .off → exec (.chainMarker p u) s₀ = .next s)
      ∧ (s.chain.role ≠ .off → exec (.chainMarker p u) s₀ = .next
          { s with
            chain := s.chain.setRecord p
              { s.chain.record p with capture := some (s.reading : Int) } }))
  ∧ (∀ (p : ChainPort) (u : Nat) (l : List Byte) (b : Bool) (s₀ : State), s₀.part ≠ .loading →
      let s := advanceTo u s₀
      let own := s.chain.address
      let r := { s.chain.record p with capture := none }
      let valid (f : TimeFrame) : ChainRecord :=
        { r with seen := true, validThisSecond := true, loss := false, summary := some f }
      (s.chain.role = .off → exec (.chainFrame p u l b) s₀ = .next s)
      ∧ (s.chain.role ≠ .off → decodeFrame l = none → exec (.chainFrame p u l b) s₀ = .next
          { s with
            chain := s.chain.setRecord p { r with checkErrors := min 65535 (r.checkErrors + 1) } })
      ∧ (∀ f, decodeFrame l = some f → s.chain.role = .member →
        (own ∉ f.path → f.path.length < 7 → s.chain.upstream ≠ some p →
          ∃ a : AlarmUnit, exec (.chainFrame p u l b) s₀ = .next
            { s with chain := s.chain.setRecord p (valid f), alarms := a })
        ∧ (own ∉ f.path → f.path.length < 7 → s.chain.upstream = some p →
          ∃ t, exec (.chainFrame p u l b) s₀ = .next t ∧ t.chain.record p = valid f
            ∧ t.chain.lastUpstream = some
                { path := f.path, allowance := f.allowance, offset := f.offset, leap := f.leap }
            ∧ t.chain.relayCommand
                = (if f.command.isSome then f.command else s.chain.relayCommand)
            ∧ t.chain.relayWord = (if f.word.isSome then f.word else s.chain.relayWord)
            ∧ t.chain.overwrites = min 255 (s.chain.overwrites
                + (f.command.isSome && s.chain.relayCommand.isSome).toNat
                + (f.word.isSome && s.chain.relayWord.isSome).toNat)
            ∧ (f.command = none → t.chain.lastCommand = s.chain.lastCommand)
            ∧ (∀ x, f.command = some x →
                let taken : Prop := (x.target = own ∨ x.target = 7)
                  ∧ s.chain.lastCommand ≠ some x.sequence
                (taken → t.chain.lastCommand = some x.sequence)
                ∧ (¬ taken → t.chain.lastCommand = s.chain.lastCommand)
                ∧ (taken → s.chain.config.ignoreCommands = false → b = false →
                    (x.kind = .hold → t.selector.config.mode = .hold)
                    ∧ (x.kind = .stepPermit → t.servo.token = true)))
            ∧ (∀ w, f.word = some w → s.chain.inbox = none → t.chain.inbox
                = some { word := w, origin := f.path.headD 0, second := t.time.base }
                ∧ t.chain.lostWords = s.chain.lostWords
                ∧ ∃ v : State, t.alarms = (v.post (.wordReceived (f.path.headD 0)) 0).alarms)
            ∧ (∀ w i, f.word = some w → s.chain.inbox = some i → t.chain.inbox = some i
                ∧ t.chain.lostWords = min 255 (s.chain.lostWords + 1)
                ∧ ∃ v : State, t.alarms = (v.post (.wordLost t.chain.lostWords) 0).alarms)
            ∧ (f.word = none → t.chain.inbox = s.chain.inbox
                ∧ t.chain.lostWords = s.chain.lostWords)
            ∧ ((s.ref .chain).state ≠ .disabled → (t.ref .chain).signal = true)
            ∧ t.part = s.part ∧ t.link = s.link ∧ t.flash = s.flash ∧ t.pending = s.pending)
        ∧ (own ∈ f.path ∨ f.path.length = 7 →
          ∃ a : AlarmUnit, exec (.chainFrame p u l b) s₀ = .next
            { s with
              chain :=
                { s.chain.setRecord p
                    { r with
                      ownAddress :=
                        if own ∈ f.path then min 65535 (r.ownAddress + 1) else r.ownAddress
                      tooLong :=
                        if f.path.length = 7 then min 65535 (r.tooLong + 1) else r.tooLong } with
                  tooLong := if f.path.length = 7 then Timer.start 3 else s.chain.tooLong
                  conflict :=
                    if own ∈ f.path ∧ s.chain.upstream = some p then Timer.start 3
                    else s.chain.conflict }
              alarms := a }))
      ∧ (∀ f, decodeFrame l = some f → s.chain.role = .leader →
          ∃ a : AlarmUnit, (f.path.head? = some own → a = s.alarms)
            ∧ exec (.chainFrame p u l b) s₀ = .next
              { s with
                chain :=
                  { s.chain.setRecord p
                      (if own ∈ f.path then { r with ownAddress := min 65535 (r.ownAddress + 1) }
                      else if f.path.length = 7 then { r with tooLong := min 65535 (r.tooLong + 1) }
                      else valid f) with
                    conflict :=
                      if f.path.head? = some own then s.chain.conflict else Timer.start 3 }
                alarms := a }))
  ∧ (∀ (x : ChainCommand) (s : State),
      let taken : Prop := (x.target = s.chain.address ∨ x.target = 7)
        ∧ s.chain.lastCommand ≠ some x.sequence
      let noted := { s with chain := { s.chain with lastCommand := some x.sequence } }
      let answers (t : State) (result : CommandResult) : Prop :=
        takeCommand x s = t.post (.chainCommandTaken x.kind x.target x.sequence result) 0
      let keeps (t : State) : Prop :=
        t.chain = noted.chain ∧ t.time = s.time ∧ t.scheduler = s.scheduler ∧ t.filter = s.filter
        ∧ t.link = s.link ∧ t.part = s.part ∧ t.flash = s.flash ∧ t.pending = s.pending
      let config := s.selector.config
      (¬ taken → takeCommand x s = s)
      ∧ (taken → s.chain.config.ignoreCommands = true → takeCommand x s
          = noted.post (.chainCommandIgnored x.kind x.target x.sequence) 0)
      ∧ (taken → s.chain.config.ignoreCommands = false →
        (x.kind = .hold → config.mode = .hold → answers noted .alreadyHeld)
        ∧ (x.kind = .hold → config.mode ≠ .hold → ∃ t, answers t .applied ∧ keeps t
            ∧ t.selector.config = { config with mode := .hold }
            ∧ t.selector.saved = some config.mode ∧ t.selector.selected = none
            ∧ t.selector.pendingSwitch = none)
        ∧ (x.kind = .release → config.mode ≠ .hold → answers noted .notHeld)
        ∧ (x.kind = .release → config.mode = .hold → ∃ t, answers t .applied ∧ keeps t
            ∧ t.selector.config = { config with mode := s.selector.saved.getD .auto }
            ∧ t.selector.saved = none)
        ∧ (x.kind = .stepPermit → answers { noted with servo := { s.servo with token := true } }
            (if s.servo.token then .alreadyHeld else .granted))
        ∧ (x.kind = .leap → x.arg = none → answers noted .invalid)
        ∧ (x.kind = .leap → ∀ l, x.arg = some l →
          (Config.maxSeconds < l.due → answers noted .invalid)
          ∧ (l.due ≤ Config.maxSeconds → l.due ≤ s.time.base + 1 → answers noted .tooLate)
          ∧ (l.due ≤ Config.maxSeconds → s.time.base + 1 < l.due →
              8 ≤ s.scheduler.table.length → answers noted .full)
          ∧ (l.due ≤ Config.maxSeconds → s.time.base + 1 < l.due →
              s.scheduler.table.length < 8 →
              ∃ (id next : Nat) (wrapped : Bool) (table : List Action),
                answers { noted with
                  time := { s.time with leap := earliestLeap table }
                  scheduler := { s.scheduler with
                    table := table, nextId := next, wrapped := wrapped } } (.entered id)
                ∧ table.Perm ({ id := id, kind := if l.dir = .insert then .leapInsert else .leapDelete
                                due := l.due, arg := none, source := .chain } :: s.scheduler.table)
                ∧ IdIssued s.scheduler id next wrapped))))
  ∧ (∀ (n : Nat) (s : State),
      let c := s.chain
      let island : Prop := (c.upstream = none ∧ c.unattached = 3)
        ∨ ∃ q, c.upstream = some q ∧ 3 ≤ (c.record q).silence
      let sends (p : ChainPort) : Prop := c.role = .leader
        ∨ c.role = .member ∧ (island ∨ c.upstream = some (otherPort p))
      let old : Prop := ∃ m, c.lastSent = some m ∧ n ≤ m
      (old ∨ ¬ sends .a ∧ ¬ sends .b → chainSend n s = s)
      ∧ (¬ old → sends .a ∨ sends .b → ∀ onA onB : Bool, (onA = true ↔ sends .a) →
          (onB = true ↔ sends .b) →
          chainSend n s = composeDue
            { s with
              chain := { c with
                lastSent := some n, frameDue := some { second := n, onA := onA, onB := onB }
                outA := if onA then { c.outA with marker := some n } else c.outA
                outB := if onB then { c.outB with marker := some n } else c.outB } })
      ∧ (∀ r, s.holdover.recorded = some r → (∀ d, c.frameDue = some d → d.second ≠ r.second) →
          composeDue s = s)
      ∧ (s.holdover.recorded = none → composeDue s = s)
      ∧ (∀ r d, s.holdover.recorded = some r → c.frameDue = some d → d.second = r.second →
          ∃ (f : TimeFrame) (u : ChainUnit) (a : AlarmUnit),
            composeDue s = { s with
              chain := { u with
                sequence := (c.sequence + 1) % 16, frameDue := none
                outA := if d.onA then { c.outA with frame := some f } else c.outA
                outB := if d.onB then { c.outB with frame := some f } else c.outB }
              alarms := a }
            ∧ f.second = r.second ∧ f.sequence = c.sequence ∧ f.grade = r.grade
            ∧ f.offset = labelOffset r.second s ∧ f.leap = labelLeap r.second s
            ∧ (c.role = .leader →
                f.path = [c.address] ∧ f.allowance = 0 ∧ f.command = c.commandSlot
                ∧ f.word = c.outbox ∧ u = { c with commandSlot := none, outbox := none }
                ∧ (s.alarms.queue.length + 2 ≤ 32 → a.queue = s.alarms.queue
                    ++ (c.commandSlot.toList.map fun x =>
                      { detail := .chainCommandSent x.kind x.target x.sequence, number := 0
                        stamp := s.time.base })
                    ++ (c.outbox.toList.map fun w =>
                      { detail := .wordSent w, number := 0, stamp := s.time.base })))
            ∧ (c.role ≠ .leader → ¬ island → ∀ x, c.lastUpstream = some x →
                f.path = x.path ++ [c.address]
                ∧ f.allowance = min 1000000000 (x.allowance + c.config.hop)
                ∧ f.command = c.relayCommand ∧ f.word = c.relayWord
                ∧ u = { c with relayCommand := none, relayWord := none } ∧ a = s.alarms)
            ∧ (c.role ≠ .leader → island →
                f.path = [c.address] ∧ f.allowance = 0 ∧ f.command = none ∧ f.word = none
                ∧ u = c ∧ a = s.alarms)))

/-- The chain's timers: one that is not due does nothing; a due conflict or too-long timer stops; a
due swap timer makes the swap, to the other port or, after a LOSS with the other port dead, to none
(R143, R146, R148 to R150). At a boundary a member counts the silence of its ports, marks the loss of its
upstream at 3, reports to the CHAIN monitor, and then judges its upstream (R146): with none it attaches to the
best live port that suits it (R147); at a silence of 3 it swaps, starts the hold-off or detaches (R148); with a live upstream
a better grade on the other port swaps or runs the hold-off, and its end stops it (R149); every change
of upstream clears what was relayed and is noticed (R150). With no valid upstream frame in the second that
ended, and in the roles OFF and LEADER always, the CHAIN monitor counts a missing epoch, and its third in a row
is a loss: the signal is lost, and CHECKING or QUALIFIED goes to FAILED with cause LOSS; a boundary with one
returns the count to 0 (R23, R25, R28, R146). That an expiry which is not due may be commanded at all (log entry
7), that a count above the limit with the signal present, which a signal that returns in FAILED leaves, declares
loss again (log entry 12), that a LOSS hold-off which stops may be followed by a GRADE hold-off at the
same boundary (log entry 24), and that the sending of a boundary waits for a swap timer's expiry due there
(log entry 25), are the model's choices. -/
def Obligations.ChainTimersExpire : Prop :=
  (∀ s : State,
    (s.chain.conflict.due = false → exec .conflictTimerExpiry s = .next s)
    ∧ (s.chain.tooLong.due = false → exec .tooLongTimerExpiry s = .next s)
    ∧ ((∀ w, s.chain.swap = some w → w.timer.due = false) → exec .swapTimerExpiry s = .next s)
    ∧ (s.chain.conflict.due = true → ∃ a : AlarmUnit, exec .conflictTimerExpiry s = .next
        { s with chain := { s.chain with conflict := Timer.stopped }, alarms := a })
    ∧ (s.chain.tooLong.due = true → ∃ a : AlarmUnit, exec .tooLongTimerExpiry s = .next
        { s with chain := { s.chain with tooLong := Timer.stopped }, alarms := a })
    ∧ (∀ w p, s.chain.swap = some w → w.timer.due = true → s.chain.upstream = some p →
      ∃ t, exec .swapTimerExpiry s = .next t
        ∧ t.chain.upstream
            = (if w.reason = .loss ∧ portLive (s.chain.record (otherPort p)) = false then none
              else some (otherPort p))
        ∧ t.chain.swap = none ∧ t.chain.lastCommand = none
        ∧ t.chain.sendDue = none
        ∧ t.time = s.time ∧ t.filter = s.filter ∧ t.selector = s.selector ∧ t.servo = s.servo
        ∧ t.holdover = s.holdover ∧ t.scheduler = s.scheduler ∧ t.link = s.link ∧ t.part = s.part
        ∧ t.flash = s.flash ∧ t.pending = s.pending))
  ∧ (∀ (n : Nat) (s : State), s.chain.role = .member →
      let t := chainBoundary n s
      (∀ p : ChainPort,
        let r := s.chain.record p
        let silence := if r.validThisSecond then 0 else min 255 (r.silence + 1)
        (t.chain.record p).silence = silence ∧ (t.chain.record p).validThisSecond = false
        ∧ (t.chain.record p).loss = (r.loss || decide (s.chain.upstream = some p ∧ silence = 3)))
      ∧ ∃ u : State, u.chain = chainCounts s.chain ∧ u.time = s.time ∧ u.scheduler = s.scheduler
          ∧ u.link = s.link ∧ t = sendOrWait n (modChain tickChainTimers (judgeUpstream u)))
  ∧ (∀ (n : Nat) (s : State),
      let m := s.ref .chain
      let x := (chainBoundary n s).ref .chain
      let arrived : Prop := s.chain.role = .member
        ∧ ∃ p, s.chain.upstream = some p ∧ (s.chain.record p).validThisSecond = true
      let judged : Prop := m.state = .checking ∨ m.state = .qualified ∨ m.state = .failed
      (¬ judged → x.missing = m.missing ∧ x.totalMissing = m.totalMissing ∧ x.state = m.state
          ∧ x.signal = m.signal)
      ∧ (judged → arrived → x.missing = 0 ∧ x.totalMissing = m.totalMissing ∧ x.state = m.state
          ∧ x.signal = m.signal)
      ∧ (judged → ¬ arrived → x.missing = min 65535 (m.missing + 1)
          ∧ x.totalMissing = min 65535 (m.totalMissing + 1)
          ∧ (m.missing < 2 ∨ m.signal = false → x.state = m.state ∧ x.signal = m.signal)
          ∧ (2 ≤ m.missing → m.signal = true → x.state = .failed ∧ x.signal = false
              ∧ (m.state ≠ .failed → x.failCause = some .loss
                ∧ x.wait = Timer.start m.config.waitRestore))))
  ∧ (∀ s : State,
      let c := s.chain
      let t := judgeUpstream s
      let counted := min 3 (c.unattached + 1)
      let live (p : ChainPort) : Prop := (c.record p).seen = true ∧ (c.record p).silence < 3
      let moves (new : Option ChainPort) (reason : PathReason) (count : Nat) : Prop :=
        ∃ a : AlarmUnit,
          t = { s with
            chain := { c with
              upstream := new, unattached := count, swap := none
              relayCommand := none, relayWord := none, lastCommand := none
              lastUpstream := new.bind fun q => (c.record q).summary.map fun f =>
                { path := f.path, allowance := f.allowance, offset := f.offset, leap := f.leap } }
            refs := if new = none then s.refs
              else (s.setRef .chain { s.ref .chain with skipNext := true }).refs
            alarms := a }
          ∧ (s.alarms.queue.length < 32 → a.queue = s.alarms.queue
              ++ [{ detail := .chainPathSwitch c.upstream new reason, number := 0
                    stamp := s.time.base }])
      let waits (w : Option SwapTimer) : Prop := t = { s with chain := { c with swap := w } }
      let started (reason : PathReason) : Option SwapTimer :=
        some { timer := Timer.start c.config.holdOff, reason := reason }
      let suits (p : ChainPort) (f : TimeFrame) : Prop :=
        (c.record p).summary = some f ∧ live p
        ∧ (counted = 3 → gradeBetter f.grade s.holdover.grade = true
            ∨ f.grade = s.holdover.grade ∧ f.path.headD 0 < c.address)
      (c.upstream = none →
        ((∀ p f, ¬ suits p f) → t = { s with chain := { c with unattached := counted } })
        ∧ (∀ p f, suits p f →
            (∀ g, suits (otherPort p) g → gradeBetter f.grade g.grade = true
              ∨ f.grade = g.grade ∧ (f.path.length < g.path.length
                ∨ f.path.length = g.path.length ∧ p = .a)) →
            moves (some p) .attach 0))
      ∧ (∀ p, c.upstream = some p →
        let other := otherPort p
        let silence := (c.record p).silence
        let better : Prop := live other ∧ ∃ f g, (c.record p).summary = some f
          ∧ (c.record other).summary = some g ∧ gradeBetter g.grade f.grade = true
        (silence < 3 →
          (c.swap = none → ¬ better → t = s)
          ∧ (c.swap = none → better → c.config.holdOff = 0 → moves (some other) .grade c.unattached)
          ∧ (c.swap = none → better → 0 < c.config.holdOff → waits (started .grade))
          ∧ (∀ w, c.swap = some w →
              (w.reason = .grade → better → waits (some { w with timer := w.timer.tick }))
              ∧ (w.reason ≠ .grade → better → 0 < c.config.holdOff → waits (started .grade))
              ∧ (w.reason ≠ .grade → c.config.holdOff = 0 → waits none)
              ∧ (¬ better → waits none)))
        ∧ (silence = 3 →
          (live other → c.config.holdOff = 0 → moves (some other) .loss c.unattached)
          ∧ (live other → 0 < c.config.holdOff → waits (started .loss))
          ∧ (¬ live other → moves none .loss 3))
        ∧ (3 < silence → waits (c.swap.map fun w => { w with timer := w.timer.tick }))))

/-! ## Timers of the selector, the ports and the alarm table -/

/-- The dwell timer's expiry: the pending switch is made if the best candidate is still better, and
cleared in any case (R65). The re-arm timer's expiry returns a SQUELCHED port to ACTIVE (R123). The
raise delay's end takes a PENDING_RAISE entry to RAISED; the clear delay's end takes a PENDING_CLEAR
one to LATCHED, when its kind latches and it is not acknowledged, else to CLEAR; a delay that has
not ended moves nothing (R171, R172). The entry of NOTICE_OVERFLOW moves like any other, but posts no notice
(R176). That an expiry which is not due may be commanded at all is the
model's choice (log entry 7). -/
def Obligations.SelectorPortAndAlarmTimersExpire : Prop :=
  (∀ s : State,
      (s.selector.dwell.due = false → exec .dwellExpiry s = .next s)
      ∧ (s.selector.dwell.due = true →
        ∃ t, exec .dwellExpiry s = .next t ∧ t.selector.pendingSwitch = none
          ∧ (s.selector.config.revertive = false ∨ s.selector.config.mode ≠ .auto →
              t = { s with
                selector := { s.selector with dwell := Timer.stopped, pendingSwitch := none } })
          ∧ (∀ k b, s.selector.config.revertive = true → s.selector.config.mode = .auto →
              s.selector.selected = some k → bestCandidate s = some b → ranksAbove s b k = true →
              t.selector.selected = some b
              ∧ t.selector.dwell = Timer.start s.selector.config.minDwell)
          ∧ t.time = s.time ∧ t.filter = s.filter ∧ t.chain = s.chain ∧ t.scheduler = s.scheduler
          ∧ t.link = s.link ∧ t.part = s.part ∧ t.flash = s.flash ∧ t.pending = s.pending))
  ∧ (∀ (p : Fin 12) (s : State),
      ((s.port p).rearm.due = false → exec (.rearmTimerExpiry p) s = .next s)
      ∧ ((s.port p).rearm.due = true → (s.port p).state = .squelched →
        ∃ a : AlarmUnit, exec (.rearmTimerExpiry p) s = .next
          { s.setPort p
              { s.port p with
                rearm := Timer.stopped, state := .active, activated := decide (s.time.frac = 0) } with
            alarms := a }))
  ∧ (∀ (k : AlarmKind) (n : Nat) (s : State) (e : AlarmEntry), AlarmLaw s.alarms →
      s.alarms.entry? k n = some e →
      let c := (s.alarms.group k).config
      (e.state ≠ .pendingRaise ∨ e.timer.due = false → exec (.raiseDelayExpiry k n) s = .next s)
      ∧ (e.state ≠ .pendingClear ∨ e.timer.due = false → exec (.clearDelayExpiry k n) s = .next s)
      ∧ (e.state = .pendingRaise → e.timer.due = true →
        ∃ a : AlarmUnit, exec (.raiseDelayExpiry k n) s = .next { s with alarms := a }
          ∧ a.entry? k n = some
            { e with
              state := .raised, timer := Timer.stopped, acknowledged := false
              raiseCount := min 255 (e.raiseCount + 1), raisedAt := some s.time.base }
          ∧ (k = .noticeOverflow → a.queue = s.alarms.queue ∧ a.dropped = s.alarms.dropped))
      ∧ (e.state = .pendingClear → e.timer.due = true →
        ∃ a : AlarmUnit, exec (.clearDelayExpiry k n) s = .next { s with alarms := a }
          ∧ a.entry? k n = some
            { e with
              state := if c.latch = true ∧ e.acknowledged = false then .latched else .clear
              timer := Timer.stopped, clearedAt := some s.time.base, acknowledged := false }
          ∧ (k = .noticeOverflow → a.queue = s.alarms.queue ∧ a.dropped = s.alarms.dropped)))

/-! ## Port outputs -/

/-- The emission instant of an ACTIVE port: with an effective delay above 0 the one before the next
boundary, with 0 the boundary just marked, whose second the holdover unit has recorded, unless the
port became ACTIVE there. The port gives the pulse or the aligning edge, or spends the instant when a
step suppressed it; then the head of its queue moves the delay by at most the step limit. A port that
is not ACTIVE, or has emitted that second, does not use the instant, and a command with no instant
ahead does nothing (R121, R123, R125 to R128, R132). At a boundary a port that is not ACTIVE has its
head applied whole, and an ARMED one may start (R121, R133). A move that would leave the range stops at
its end and ends the adjustment (R134). That a command with no instant ahead does nothing (log entry 7),
that the command runs the count on to the instant (log entry 8), that the clock run keeps its second,
delay and frequency and takes the delay just served for the next aligning edge (log entry 18), and that
the instant at delay 0 comes after its second's recording unless the boundary names it among its work, with
none for second 2^48 (log entry 19), and that the run passes other instants, clock edges and line silences
unused (log entry 47), are the model's choices. -/
def Obligations.PortsEmitAtTheirInstant : Prop :=
  (∀ (p : Fin 12) (s : State), s.part ≠ .loading → s.time.endOfRange = false →
    let x := s.port p
    let at0 : Prop := x.delay = 0 ∧ s.time.frac = 0 ∧ s.time.landed = false ∧ x.activated = false
      ∧ ∃ r, s.holdover.recorded = some r ∧ r.second = s.time.base
    let reached : Prop := at0 ∨ 0 < x.delay ∧ s.time.base < Config.maxSeconds
      ∧ (s.time.frac < 1000000000000 - x.delay
        ∨ s.time.frac = 1000000000000 - x.delay ∧ s.time.landed = false)
    let u := if x.delay = 0 then 0 else 1000000000000 - x.delay
    let n := if x.delay = 0 then s.time.base else s.time.base + 1
    let there := { s with
      time := { s.time with
        frac := u, counted := s.time.counted + (u - s.time.frac), landed := false }
      refs := refsCounted (u - s.time.frac) s.refs }
    let used : Prop := x.state = .active ∧ ∀ l, x.lastEmitted = some l → l < n
    let amount (a : Adjustment) : Int := clampTo x.config.stepLimit a.remainder
    let first : Int := (n : Int) * 1000000000000 - x.delay
    let served (y : Port) (a : AlarmUnit) : Prop :=
      (x.queue = [] → y.delay = x.delay ∧ y.queue = [] ∧ a = s.alarms)
      ∧ ∀ h rest, x.queue = h :: rest →
        let d := (x.delay : Int) + amount h
        (0 ≤ d → d ≤ 10000000 → (y.delay : Int) = d
          ∧ (amount h = h.remainder → y.queue = rest)
          ∧ (amount h ≠ h.remainder → a = s.alarms
              ∧ y.queue = { h with remainder := h.remainder - amount h } :: rest))
        ∧ (d < 0 → y.delay = 0 ∧ y.queue = rest)
        ∧ (10000000 < d → y.delay = 10000000 ∧ y.queue = rest)
        ∧ (y.queue = rest → s.alarms.queue.length < 32 →
            a.queue = s.alarms.queue ++
              [{ detail := .adjustDone h.requested
                    (h.requested - h.remainder + ((y.delay : Int) - x.delay))
                    (decide (d < 0 ∨ 10000000 < d))
                 number := p.val, stamp := s.time.base }])
    (¬ reached → exec (.portEmission p) s = .next s)
    ∧ (reached → x.delay ≤ 10000000 → (s.time.frac < u → Undisturbed u s) →
      (¬ used → exec (.portEmission p) s = .next there)
      ∧ (used → x.suppressNext = true →
        ∃ (y : Port) (a : AlarmUnit),
          exec (.portEmission p) s = .next { there.setPort p y with alarms := a } ∧ served y a
          ∧ y = { x with
              lastEmitted := some n, suppressNext := false, clock := none
              delay := y.delay, queue := y.queue })
      ∧ (used → x.suppressNext = false →
        ∃ (y : Port) (a : AlarmUnit),
          exec (.portEmission p) s = .next { there.setPort p y with alarms := a } ∧ served y a
          ∧ y.lastEmitted = some n ∧ y.pin = true ∧ y.state = .active ∧ y.config = x.config
          ∧ y.suppressNext = false
          ∧ (x.config.type ≠ .clock → y.pulseWidth = some x.config.width ∧ y.clock = none)
          ∧ (x.config.type = .clock → y.pulseWidth = none ∧ y.clock = some
              { second := n, delay := x.delay, frequency := x.config.frequency, last := 0
                falls := some (first + ((if 1 < x.config.frequency then
                    min (first + roundDiv 1000000000000 x.config.frequency)
                      (((n : Int) + 1) * 1000000000000 - y.delay)
                  else ((n : Int) + 1) * 1000000000000 - y.delay) - first) / 2) })
          ∧ (x.config.type = .pulseTod → (∀ r, s.holdover.recorded = some r → r.second ≠ n) →
              y.pendingMessage = some n)
          ∧ (x.config.type = .pulseTod → ∀ r, s.holdover.recorded = some r → r.second = n →
              y.pendingMessage = none ∧ y.sequence = (x.sequence + 1) % 16 ∧ y.stepSeen = false
              ∧ y.message = some (timeMessage p r (labelOffset n s) s)))))
  ∧ (∀ (p : Fin 12) (s : State),
      let x := s.port p
      let y := (portBoundary p s).port p
      (x.state = .active → portBoundary p s = s)
      ∧ (x.state ≠ .active → y.queue = x.queue.drop 1
          ∧ (x.queue = [] → y.delay = x.delay)
          ∧ (∀ h rest, x.queue = h :: rest →
              (y.delay : Int) = max 0 (min 10000000 ((x.delay : Int) + h.remainder)))
          ∧ y.state =
            (if x.state = .armed ∧ s.time.timeSet = true
                ∧ (x.config.policy = .mark ∨ gradeMeets s.holdover.grade x.config.minGrade = true)
              then .active else x.state)))

/-- The pulse width's end lowers the pin; a rising clock edge that the count runs on to raises it while
the port is ACTIVE, and the pin falls half the interval to the next edge later, which is the second's next
edge or the next second's aligning edge at the effective delay then in force; from that aligning edge's
instant on the second has no edge more (R126, R127). The time message of second N is composed with the
recording of its grade, or at a forward step past it, by an ACTIVE port, with the port, the sequence, the
label, the grade, TEE in ns, the holdover seconds, the source and the step-seen flag, which it clears; another
port drops it (R110, R128 to R130). That the end of a pulse comes when it is commanded and does nothing
without one (log entries 7, 21), that a clock edge runs the count on (log entry 8), past instants, edges and line silences left unused (log
entry 47), that the run keeps its own
frequency and delay and that a fall which a step left behind the count comes at once (log entry 18), and that
a step sets its flags before it composes (log entry 46), are the model's choices. -/
def Obligations.PinsFollowTheirEdges : Prop :=
  (∀ (p : Fin 12) (s : State), s.part ≠ .loading →
    ((s.port p).pulseWidth = none → exec (.pulseEnd p) s = .next s)
    ∧ (∀ w, (s.port p).pulseWidth = some w → exec (.pulseEnd p) s
        = .next (s.setPort p { s.port p with pin := false, pulseWidth := none }))
    ∧ ((s.port p).clock = none → ∀ k b, exec (.clockEdge p k b) s = .next s)
    ∧ (∀ (c : ClockRun) (edge : Nat → Int) (k t : Nat), (s.port p).clock = some c →
      (∀ j, edge j = (c.second : Int) * 1000000000000 - c.delay
          + roundDiv ((j : Int) * 1000000000000) c.frequency) →
      s.time.endOfRange = false →
      let x := s.port p
      let aligning : Int := ((c.second : Int) + 1) * 1000000000000 - x.delay
      let next : Int := if k + 1 < c.frequency then min (edge (k + 1)) aligning else aligning
      let fallen : Port := { x with pin := false, clock := some { c with falls := none } }
      let there (y : Port) : State :=
        { s.setPort p y with
          time := { s.time with
            frac := t, counted := s.time.counted + (t - s.time.frac), landed := false
            endOfRange := decide (s.time.base = Config.maxSeconds ∧ t = 999999999999) }
          refs := refsCounted (t - s.time.frac) s.refs }
      (s.time.frac < t → t < 1000000000000 → Undisturbed t s → 0 < k → k < c.frequency →
        edge k < aligning → (s.time.base : Int) * 1000000000000 + t = edge k →
        exec (.clockEdge p k true) s = .next (there
          (if x.state = .active then
            { x with
              pin := true
              clock := some
                { c with last := k, falls := some (edge k + (next - edge k) / 2) } }
          else x)))
      ∧ ((s.reading : Int) > edge k ∨ k = 0 ∨ c.frequency ≤ k ∨ aligning ≤ edge k →
          exec (.clockEdge p k true) s = .next s)
      ∧ (∀ r, c.last = k → c.falls = some r →
          (r ≤ s.reading → exec (.clockEdge p k false) s = .next (s.setPort p fallen))
          ∧ (s.time.frac < t → t < 1000000000000 → Undisturbed t s →
              (s.time.base : Int) * 1000000000000 + t = r →
              exec (.clockEdge p k false) s = .next (there fallen)))
      ∧ (c.last ≠ k ∨ c.falls = none → exec (.clockEdge p k false) s = .next s)))
  ∧ (∀ (p : Fin 12) (s : State),
      let x := s.port p
      let message (r : SecondRecord) (offset : Nat) (step : Bool) : TimeMessage :=
        { port := p.val, sequence := x.sequence, second := r.second, offset := offset
          leap := labelLeap r.second s, grade := r.grade
          tee := r.tee.map fun v => min 4294967295 ((v + 999) / 1000)
          holdover := r.seconds, source := s.selector.selected, step := step }
      let now (n : Nat) : SecondRecord :=
        { second := n, grade := s.holdover.grade, tee := s.holdover.tee
          seconds := if s.servo.state = .holdover then s.holdover.n else 0 }
      (∀ r : SecondRecord,
        (x.pendingMessage ≠ some r.second → (composeRecorded r s).port p = x)
        ∧ (x.pendingMessage = some r.second → x.state ≠ .active →
            (composeRecorded r s).port p = { x with pendingMessage := none })
        ∧ (x.pendingMessage = some r.second → x.state = .active →
            (composeRecorded r s).port p =
              { x with
                message := some (message r (labelOffset r.second s) x.stepSeen)
                sequence := (x.sequence + 1) % 16, pendingMessage := none, stepSeen := false }))
      ∧ (∀ n, recordGrade n s = composeDue (composeRecorded (now n)
            { s with
              holdover := { s.holdover with
                gradeOfSecond := s.holdover.grade, recorded := some (now n) } }))
      ∧ (∀ ev : StepEvent,
        let y := (portStep ev p s).port p
        let beyond := decide (x.state = .active ∧ x.config.jumpTolerance
          < ev.seconds.natAbs * 1000000000000 + ev.picos.natAbs)
        let passes (n : Nat) : Prop := ev.forward = true ∧
          (if ev.pending then ev.before ≤ n ∧ n < ev.after else ev.before < n ∧ n ≤ ev.after)
        y.suppressNext = (x.suppressNext || beyond)
        ∧ ((∀ n, x.pendingMessage = some n → ¬ passes n) →
            y.pendingMessage = x.pendingMessage ∧ y.message = x.message
            ∧ y.stepSeen = (x.stepSeen || beyond))
        ∧ (∀ n, x.pendingMessage = some n → passes n → y.pendingMessage = none
            ∧ (x.state ≠ .active → y.message = x.message)
            ∧ (x.state = .active → y.stepSeen = false
                ∧ y.sequence = (x.sequence + 1) % 16
                ∧ y.message = some (message (now n) (stepLabelOffset ev n s)
                    (x.stepSeen || beyond))))))
end

