-- ==== Sys2Proof/Laws/State.lean ====
section
/-!
SUPPORT. The field lemmas of the state: what each setter writes and what it leaves, and the same for
one monitor, one port and one chain record.
-/

namespace Sys2Proof.Machine

/-! ## State.setPart -/

@[simp] theorem State.setPart_part (s : State) (x : PartState) : (s.setPart x).part = x := rfl
@[simp] theorem State.setPart_time (s : State) (x : PartState) : (s.setPart x).time = s.time := rfl
@[simp] theorem State.setPart_refs (s : State) (x : PartState) : (s.setPart x).refs = s.refs := rfl
@[simp] theorem State.setPart_filter (s : State) (x : PartState) : (s.setPart x).filter = s.filter := rfl
@[simp] theorem State.setPart_selector (s : State) (x : PartState) : (s.setPart x).selector = s.selector := rfl
@[simp] theorem State.setPart_servo (s : State) (x : PartState) : (s.setPart x).servo = s.servo := rfl
@[simp] theorem State.setPart_holdover (s : State) (x : PartState) : (s.setPart x).holdover = s.holdover := rfl
@[simp] theorem State.setPart_ports (s : State) (x : PartState) : (s.setPart x).ports = s.ports := rfl
@[simp] theorem State.setPart_chain (s : State) (x : PartState) : (s.setPart x).chain = s.chain := rfl
@[simp] theorem State.setPart_scheduler (s : State) (x : PartState) : (s.setPart x).scheduler = s.scheduler := rfl
@[simp] theorem State.setPart_alarms (s : State) (x : PartState) : (s.setPart x).alarms = s.alarms := rfl
@[simp] theorem State.setPart_link (s : State) (x : PartState) : (s.setPart x).link = s.link := rfl
@[simp] theorem State.setPart_flash (s : State) (x : PartState) : (s.setPart x).flash = s.flash := rfl
@[simp] theorem State.setPart_pending (s : State) (x : PartState) : (s.setPart x).pending = s.pending := rfl

/-! ## State.setTime -/

@[simp] theorem State.setTime_part (s : State) (x : TimeBase) : (s.setTime x).part = s.part := rfl
@[simp] theorem State.setTime_time (s : State) (x : TimeBase) : (s.setTime x).time = x := rfl
@[simp] theorem State.setTime_refs (s : State) (x : TimeBase) : (s.setTime x).refs = s.refs := rfl
@[simp] theorem State.setTime_filter (s : State) (x : TimeBase) : (s.setTime x).filter = s.filter := rfl
@[simp] theorem State.setTime_selector (s : State) (x : TimeBase) : (s.setTime x).selector = s.selector := rfl
@[simp] theorem State.setTime_servo (s : State) (x : TimeBase) : (s.setTime x).servo = s.servo := rfl
@[simp] theorem State.setTime_holdover (s : State) (x : TimeBase) : (s.setTime x).holdover = s.holdover := rfl
@[simp] theorem State.setTime_ports (s : State) (x : TimeBase) : (s.setTime x).ports = s.ports := rfl
@[simp] theorem State.setTime_chain (s : State) (x : TimeBase) : (s.setTime x).chain = s.chain := rfl
@[simp] theorem State.setTime_scheduler (s : State) (x : TimeBase) : (s.setTime x).scheduler = s.scheduler := rfl
@[simp] theorem State.setTime_alarms (s : State) (x : TimeBase) : (s.setTime x).alarms = s.alarms := rfl
@[simp] theorem State.setTime_link (s : State) (x : TimeBase) : (s.setTime x).link = s.link := rfl
@[simp] theorem State.setTime_flash (s : State) (x : TimeBase) : (s.setTime x).flash = s.flash := rfl
@[simp] theorem State.setTime_pending (s : State) (x : TimeBase) : (s.setTime x).pending = s.pending := rfl

/-! ## State.setRefs -/

@[simp] theorem State.setRefs_part (s : State) (x : PerSlot Monitor) : (s.setRefs x).part = s.part := rfl
@[simp] theorem State.setRefs_time (s : State) (x : PerSlot Monitor) : (s.setRefs x).time = s.time := rfl
@[simp] theorem State.setRefs_refs (s : State) (x : PerSlot Monitor) : (s.setRefs x).refs = x := rfl
@[simp] theorem State.setRefs_filter (s : State) (x : PerSlot Monitor) : (s.setRefs x).filter = s.filter := rfl
@[simp] theorem State.setRefs_selector (s : State) (x : PerSlot Monitor) : (s.setRefs x).selector = s.selector := rfl
@[simp] theorem State.setRefs_servo (s : State) (x : PerSlot Monitor) : (s.setRefs x).servo = s.servo := rfl
@[simp] theorem State.setRefs_holdover (s : State) (x : PerSlot Monitor) : (s.setRefs x).holdover = s.holdover := rfl
@[simp] theorem State.setRefs_ports (s : State) (x : PerSlot Monitor) : (s.setRefs x).ports = s.ports := rfl
@[simp] theorem State.setRefs_chain (s : State) (x : PerSlot Monitor) : (s.setRefs x).chain = s.chain := rfl
@[simp] theorem State.setRefs_scheduler (s : State) (x : PerSlot Monitor) : (s.setRefs x).scheduler = s.scheduler := rfl
@[simp] theorem State.setRefs_alarms (s : State) (x : PerSlot Monitor) : (s.setRefs x).alarms = s.alarms := rfl
@[simp] theorem State.setRefs_link (s : State) (x : PerSlot Monitor) : (s.setRefs x).link = s.link := rfl
@[simp] theorem State.setRefs_flash (s : State) (x : PerSlot Monitor) : (s.setRefs x).flash = s.flash := rfl
@[simp] theorem State.setRefs_pending (s : State) (x : PerSlot Monitor) : (s.setRefs x).pending = s.pending := rfl

/-! ## State.setFilter -/

@[simp] theorem State.setFilter_part (s : State) (x : Filter) : (s.setFilter x).part = s.part := rfl
@[simp] theorem State.setFilter_time (s : State) (x : Filter) : (s.setFilter x).time = s.time := rfl
@[simp] theorem State.setFilter_refs (s : State) (x : Filter) : (s.setFilter x).refs = s.refs := rfl
@[simp] theorem State.setFilter_filter (s : State) (x : Filter) : (s.setFilter x).filter = x := rfl
@[simp] theorem State.setFilter_selector (s : State) (x : Filter) : (s.setFilter x).selector = s.selector := rfl
@[simp] theorem State.setFilter_servo (s : State) (x : Filter) : (s.setFilter x).servo = s.servo := rfl
@[simp] theorem State.setFilter_holdover (s : State) (x : Filter) : (s.setFilter x).holdover = s.holdover := rfl
@[simp] theorem State.setFilter_ports (s : State) (x : Filter) : (s.setFilter x).ports = s.ports := rfl
@[simp] theorem State.setFilter_chain (s : State) (x : Filter) : (s.setFilter x).chain = s.chain := rfl
@[simp] theorem State.setFilter_scheduler (s : State) (x : Filter) : (s.setFilter x).scheduler = s.scheduler := rfl
@[simp] theorem State.setFilter_alarms (s : State) (x : Filter) : (s.setFilter x).alarms = s.alarms := rfl
@[simp] theorem State.setFilter_link (s : State) (x : Filter) : (s.setFilter x).link = s.link := rfl
@[simp] theorem State.setFilter_flash (s : State) (x : Filter) : (s.setFilter x).flash = s.flash := rfl
@[simp] theorem State.setFilter_pending (s : State) (x : Filter) : (s.setFilter x).pending = s.pending := rfl

/-! ## State.setSelector -/

@[simp] theorem State.setSelector_part (s : State) (x : Selector) : (s.setSelector x).part = s.part := rfl
@[simp] theorem State.setSelector_time (s : State) (x : Selector) : (s.setSelector x).time = s.time := rfl
@[simp] theorem State.setSelector_refs (s : State) (x : Selector) : (s.setSelector x).refs = s.refs := rfl
@[simp] theorem State.setSelector_filter (s : State) (x : Selector) : (s.setSelector x).filter = s.filter := rfl
@[simp] theorem State.setSelector_selector (s : State) (x : Selector) : (s.setSelector x).selector = x := rfl
@[simp] theorem State.setSelector_servo (s : State) (x : Selector) : (s.setSelector x).servo = s.servo := rfl
@[simp] theorem State.setSelector_holdover (s : State) (x : Selector) : (s.setSelector x).holdover = s.holdover := rfl
@[simp] theorem State.setSelector_ports (s : State) (x : Selector) : (s.setSelector x).ports = s.ports := rfl
@[simp] theorem State.setSelector_chain (s : State) (x : Selector) : (s.setSelector x).chain = s.chain := rfl
@[simp] theorem State.setSelector_scheduler (s : State) (x : Selector) : (s.setSelector x).scheduler = s.scheduler := rfl
@[simp] theorem State.setSelector_alarms (s : State) (x : Selector) : (s.setSelector x).alarms = s.alarms := rfl
@[simp] theorem State.setSelector_link (s : State) (x : Selector) : (s.setSelector x).link = s.link := rfl
@[simp] theorem State.setSelector_flash (s : State) (x : Selector) : (s.setSelector x).flash = s.flash := rfl
@[simp] theorem State.setSelector_pending (s : State) (x : Selector) : (s.setSelector x).pending = s.pending := rfl

/-! ## State.setServo -/

@[simp] theorem State.setServo_part (s : State) (x : Servo) : (s.setServo x).part = s.part := rfl
@[simp] theorem State.setServo_time (s : State) (x : Servo) : (s.setServo x).time = s.time := rfl
@[simp] theorem State.setServo_refs (s : State) (x : Servo) : (s.setServo x).refs = s.refs := rfl
@[simp] theorem State.setServo_filter (s : State) (x : Servo) : (s.setServo x).filter = s.filter := rfl
@[simp] theorem State.setServo_selector (s : State) (x : Servo) : (s.setServo x).selector = s.selector := rfl
@[simp] theorem State.setServo_servo (s : State) (x : Servo) : (s.setServo x).servo = x := rfl
@[simp] theorem State.setServo_holdover (s : State) (x : Servo) : (s.setServo x).holdover = s.holdover := rfl
@[simp] theorem State.setServo_ports (s : State) (x : Servo) : (s.setServo x).ports = s.ports := rfl
@[simp] theorem State.setServo_chain (s : State) (x : Servo) : (s.setServo x).chain = s.chain := rfl
@[simp] theorem State.setServo_scheduler (s : State) (x : Servo) : (s.setServo x).scheduler = s.scheduler := rfl
@[simp] theorem State.setServo_alarms (s : State) (x : Servo) : (s.setServo x).alarms = s.alarms := rfl
@[simp] theorem State.setServo_link (s : State) (x : Servo) : (s.setServo x).link = s.link := rfl
@[simp] theorem State.setServo_flash (s : State) (x : Servo) : (s.setServo x).flash = s.flash := rfl
@[simp] theorem State.setServo_pending (s : State) (x : Servo) : (s.setServo x).pending = s.pending := rfl

/-! ## State.setHoldover -/

@[simp] theorem State.setHoldover_part (s : State) (x : Holdover) : (s.setHoldover x).part = s.part := rfl
@[simp] theorem State.setHoldover_time (s : State) (x : Holdover) : (s.setHoldover x).time = s.time := rfl
@[simp] theorem State.setHoldover_refs (s : State) (x : Holdover) : (s.setHoldover x).refs = s.refs := rfl
@[simp] theorem State.setHoldover_filter (s : State) (x : Holdover) : (s.setHoldover x).filter = s.filter := rfl
@[simp] theorem State.setHoldover_selector (s : State) (x : Holdover) : (s.setHoldover x).selector = s.selector := rfl
@[simp] theorem State.setHoldover_servo (s : State) (x : Holdover) : (s.setHoldover x).servo = s.servo := rfl
@[simp] theorem State.setHoldover_holdover (s : State) (x : Holdover) : (s.setHoldover x).holdover = x := rfl
@[simp] theorem State.setHoldover_ports (s : State) (x : Holdover) : (s.setHoldover x).ports = s.ports := rfl
@[simp] theorem State.setHoldover_chain (s : State) (x : Holdover) : (s.setHoldover x).chain = s.chain := rfl
@[simp] theorem State.setHoldover_scheduler (s : State) (x : Holdover) : (s.setHoldover x).scheduler = s.scheduler := rfl
@[simp] theorem State.setHoldover_alarms (s : State) (x : Holdover) : (s.setHoldover x).alarms = s.alarms := rfl
@[simp] theorem State.setHoldover_link (s : State) (x : Holdover) : (s.setHoldover x).link = s.link := rfl
@[simp] theorem State.setHoldover_flash (s : State) (x : Holdover) : (s.setHoldover x).flash = s.flash := rfl
@[simp] theorem State.setHoldover_pending (s : State) (x : Holdover) : (s.setHoldover x).pending = s.pending := rfl

/-! ## State.setPorts -/

@[simp] theorem State.setPorts_part (s : State) (x : Vector Port 12) : (s.setPorts x).part = s.part := rfl
@[simp] theorem State.setPorts_time (s : State) (x : Vector Port 12) : (s.setPorts x).time = s.time := rfl
@[simp] theorem State.setPorts_refs (s : State) (x : Vector Port 12) : (s.setPorts x).refs = s.refs := rfl
@[simp] theorem State.setPorts_filter (s : State) (x : Vector Port 12) : (s.setPorts x).filter = s.filter := rfl
@[simp] theorem State.setPorts_selector (s : State) (x : Vector Port 12) : (s.setPorts x).selector = s.selector := rfl
@[simp] theorem State.setPorts_servo (s : State) (x : Vector Port 12) : (s.setPorts x).servo = s.servo := rfl
@[simp] theorem State.setPorts_holdover (s : State) (x : Vector Port 12) : (s.setPorts x).holdover = s.holdover := rfl
@[simp] theorem State.setPorts_ports (s : State) (x : Vector Port 12) : (s.setPorts x).ports = x := rfl
@[simp] theorem State.setPorts_chain (s : State) (x : Vector Port 12) : (s.setPorts x).chain = s.chain := rfl
@[simp] theorem State.setPorts_scheduler (s : State) (x : Vector Port 12) : (s.setPorts x).scheduler = s.scheduler := rfl
@[simp] theorem State.setPorts_alarms (s : State) (x : Vector Port 12) : (s.setPorts x).alarms = s.alarms := rfl
@[simp] theorem State.setPorts_link (s : State) (x : Vector Port 12) : (s.setPorts x).link = s.link := rfl
@[simp] theorem State.setPorts_flash (s : State) (x : Vector Port 12) : (s.setPorts x).flash = s.flash := rfl
@[simp] theorem State.setPorts_pending (s : State) (x : Vector Port 12) : (s.setPorts x).pending = s.pending := rfl

/-! ## State.setChain -/

@[simp] theorem State.setChain_part (s : State) (x : ChainUnit) : (s.setChain x).part = s.part := rfl
@[simp] theorem State.setChain_time (s : State) (x : ChainUnit) : (s.setChain x).time = s.time := rfl
@[simp] theorem State.setChain_refs (s : State) (x : ChainUnit) : (s.setChain x).refs = s.refs := rfl
@[simp] theorem State.setChain_filter (s : State) (x : ChainUnit) : (s.setChain x).filter = s.filter := rfl
@[simp] theorem State.setChain_selector (s : State) (x : ChainUnit) : (s.setChain x).selector = s.selector := rfl
@[simp] theorem State.setChain_servo (s : State) (x : ChainUnit) : (s.setChain x).servo = s.servo := rfl
@[simp] theorem State.setChain_holdover (s : State) (x : ChainUnit) : (s.setChain x).holdover = s.holdover := rfl
@[simp] theorem State.setChain_ports (s : State) (x : ChainUnit) : (s.setChain x).ports = s.ports := rfl
@[simp] theorem State.setChain_chain (s : State) (x : ChainUnit) : (s.setChain x).chain = x := rfl
@[simp] theorem State.setChain_scheduler (s : State) (x : ChainUnit) : (s.setChain x).scheduler = s.scheduler := rfl
@[simp] theorem State.setChain_alarms (s : State) (x : ChainUnit) : (s.setChain x).alarms = s.alarms := rfl
@[simp] theorem State.setChain_link (s : State) (x : ChainUnit) : (s.setChain x).link = s.link := rfl
@[simp] theorem State.setChain_flash (s : State) (x : ChainUnit) : (s.setChain x).flash = s.flash := rfl
@[simp] theorem State.setChain_pending (s : State) (x : ChainUnit) : (s.setChain x).pending = s.pending := rfl

/-! ## State.setScheduler -/

@[simp] theorem State.setScheduler_part (s : State) (x : Scheduler) : (s.setScheduler x).part = s.part := rfl
@[simp] theorem State.setScheduler_time (s : State) (x : Scheduler) : (s.setScheduler x).time = s.time := rfl
@[simp] theorem State.setScheduler_refs (s : State) (x : Scheduler) : (s.setScheduler x).refs = s.refs := rfl
@[simp] theorem State.setScheduler_filter (s : State) (x : Scheduler) : (s.setScheduler x).filter = s.filter := rfl
@[simp] theorem State.setScheduler_selector (s : State) (x : Scheduler) : (s.setScheduler x).selector = s.selector := rfl
@[simp] theorem State.setScheduler_servo (s : State) (x : Scheduler) : (s.setScheduler x).servo = s.servo := rfl
@[simp] theorem State.setScheduler_holdover (s : State) (x : Scheduler) : (s.setScheduler x).holdover = s.holdover := rfl
@[simp] theorem State.setScheduler_ports (s : State) (x : Scheduler) : (s.setScheduler x).ports = s.ports := rfl
@[simp] theorem State.setScheduler_chain (s : State) (x : Scheduler) : (s.setScheduler x).chain = s.chain := rfl
@[simp] theorem State.setScheduler_scheduler (s : State) (x : Scheduler) : (s.setScheduler x).scheduler = x := rfl
@[simp] theorem State.setScheduler_alarms (s : State) (x : Scheduler) : (s.setScheduler x).alarms = s.alarms := rfl
@[simp] theorem State.setScheduler_link (s : State) (x : Scheduler) : (s.setScheduler x).link = s.link := rfl
@[simp] theorem State.setScheduler_flash (s : State) (x : Scheduler) : (s.setScheduler x).flash = s.flash := rfl
@[simp] theorem State.setScheduler_pending (s : State) (x : Scheduler) : (s.setScheduler x).pending = s.pending := rfl

/-! ## State.setAlarms -/

@[simp] theorem State.setAlarms_part (s : State) (x : AlarmUnit) : (s.setAlarms x).part = s.part := rfl
@[simp] theorem State.setAlarms_time (s : State) (x : AlarmUnit) : (s.setAlarms x).time = s.time := rfl
@[simp] theorem State.setAlarms_refs (s : State) (x : AlarmUnit) : (s.setAlarms x).refs = s.refs := rfl
@[simp] theorem State.setAlarms_filter (s : State) (x : AlarmUnit) : (s.setAlarms x).filter = s.filter := rfl
@[simp] theorem State.setAlarms_selector (s : State) (x : AlarmUnit) : (s.setAlarms x).selector = s.selector := rfl
@[simp] theorem State.setAlarms_servo (s : State) (x : AlarmUnit) : (s.setAlarms x).servo = s.servo := rfl
@[simp] theorem State.setAlarms_holdover (s : State) (x : AlarmUnit) : (s.setAlarms x).holdover = s.holdover := rfl
@[simp] theorem State.setAlarms_ports (s : State) (x : AlarmUnit) : (s.setAlarms x).ports = s.ports := rfl
@[simp] theorem State.setAlarms_chain (s : State) (x : AlarmUnit) : (s.setAlarms x).chain = s.chain := rfl
@[simp] theorem State.setAlarms_scheduler (s : State) (x : AlarmUnit) : (s.setAlarms x).scheduler = s.scheduler := rfl
@[simp] theorem State.setAlarms_alarms (s : State) (x : AlarmUnit) : (s.setAlarms x).alarms = x := rfl
@[simp] theorem State.setAlarms_link (s : State) (x : AlarmUnit) : (s.setAlarms x).link = s.link := rfl
@[simp] theorem State.setAlarms_flash (s : State) (x : AlarmUnit) : (s.setAlarms x).flash = s.flash := rfl
@[simp] theorem State.setAlarms_pending (s : State) (x : AlarmUnit) : (s.setAlarms x).pending = s.pending := rfl

/-! ## State.setLink -/

@[simp] theorem State.setLink_part (s : State) (x : Link) : (s.setLink x).part = s.part := rfl
@[simp] theorem State.setLink_time (s : State) (x : Link) : (s.setLink x).time = s.time := rfl
@[simp] theorem State.setLink_refs (s : State) (x : Link) : (s.setLink x).refs = s.refs := rfl
@[simp] theorem State.setLink_filter (s : State) (x : Link) : (s.setLink x).filter = s.filter := rfl
@[simp] theorem State.setLink_selector (s : State) (x : Link) : (s.setLink x).selector = s.selector := rfl
@[simp] theorem State.setLink_servo (s : State) (x : Link) : (s.setLink x).servo = s.servo := rfl
@[simp] theorem State.setLink_holdover (s : State) (x : Link) : (s.setLink x).holdover = s.holdover := rfl
@[simp] theorem State.setLink_ports (s : State) (x : Link) : (s.setLink x).ports = s.ports := rfl
@[simp] theorem State.setLink_chain (s : State) (x : Link) : (s.setLink x).chain = s.chain := rfl
@[simp] theorem State.setLink_scheduler (s : State) (x : Link) : (s.setLink x).scheduler = s.scheduler := rfl
@[simp] theorem State.setLink_alarms (s : State) (x : Link) : (s.setLink x).alarms = s.alarms := rfl
@[simp] theorem State.setLink_link (s : State) (x : Link) : (s.setLink x).link = x := rfl
@[simp] theorem State.setLink_flash (s : State) (x : Link) : (s.setLink x).flash = s.flash := rfl
@[simp] theorem State.setLink_pending (s : State) (x : Link) : (s.setLink x).pending = s.pending := rfl

/-! ## State.setFlash -/

@[simp] theorem State.setFlash_part (s : State) (x : Option FlashImage) : (s.setFlash x).part = s.part := rfl
@[simp] theorem State.setFlash_time (s : State) (x : Option FlashImage) : (s.setFlash x).time = s.time := rfl
@[simp] theorem State.setFlash_refs (s : State) (x : Option FlashImage) : (s.setFlash x).refs = s.refs := rfl
@[simp] theorem State.setFlash_filter (s : State) (x : Option FlashImage) : (s.setFlash x).filter = s.filter := rfl
@[simp] theorem State.setFlash_selector (s : State) (x : Option FlashImage) : (s.setFlash x).selector = s.selector := rfl
@[simp] theorem State.setFlash_servo (s : State) (x : Option FlashImage) : (s.setFlash x).servo = s.servo := rfl
@[simp] theorem State.setFlash_holdover (s : State) (x : Option FlashImage) : (s.setFlash x).holdover = s.holdover := rfl
@[simp] theorem State.setFlash_ports (s : State) (x : Option FlashImage) : (s.setFlash x).ports = s.ports := rfl
@[simp] theorem State.setFlash_chain (s : State) (x : Option FlashImage) : (s.setFlash x).chain = s.chain := rfl
@[simp] theorem State.setFlash_scheduler (s : State) (x : Option FlashImage) : (s.setFlash x).scheduler = s.scheduler := rfl
@[simp] theorem State.setFlash_alarms (s : State) (x : Option FlashImage) : (s.setFlash x).alarms = s.alarms := rfl
@[simp] theorem State.setFlash_link (s : State) (x : Option FlashImage) : (s.setFlash x).link = s.link := rfl
@[simp] theorem State.setFlash_flash (s : State) (x : Option FlashImage) : (s.setFlash x).flash = x := rfl
@[simp] theorem State.setFlash_pending (s : State) (x : Option FlashImage) : (s.setFlash x).pending = s.pending := rfl

/-! ## State.setPending -/

@[simp] theorem State.setPending_part (s : State) (x : List Instr) : (s.setPending x).part = s.part := rfl
@[simp] theorem State.setPending_time (s : State) (x : List Instr) : (s.setPending x).time = s.time := rfl
@[simp] theorem State.setPending_refs (s : State) (x : List Instr) : (s.setPending x).refs = s.refs := rfl
@[simp] theorem State.setPending_filter (s : State) (x : List Instr) : (s.setPending x).filter = s.filter := rfl
@[simp] theorem State.setPending_selector (s : State) (x : List Instr) : (s.setPending x).selector = s.selector := rfl
@[simp] theorem State.setPending_servo (s : State) (x : List Instr) : (s.setPending x).servo = s.servo := rfl
@[simp] theorem State.setPending_holdover (s : State) (x : List Instr) : (s.setPending x).holdover = s.holdover := rfl
@[simp] theorem State.setPending_ports (s : State) (x : List Instr) : (s.setPending x).ports = s.ports := rfl
@[simp] theorem State.setPending_chain (s : State) (x : List Instr) : (s.setPending x).chain = s.chain := rfl
@[simp] theorem State.setPending_scheduler (s : State) (x : List Instr) : (s.setPending x).scheduler = s.scheduler := rfl
@[simp] theorem State.setPending_alarms (s : State) (x : List Instr) : (s.setPending x).alarms = s.alarms := rfl
@[simp] theorem State.setPending_link (s : State) (x : List Instr) : (s.setPending x).link = s.link := rfl
@[simp] theorem State.setPending_flash (s : State) (x : List Instr) : (s.setPending x).flash = s.flash := rfl
@[simp] theorem State.setPending_pending (s : State) (x : List Instr) : (s.setPending x).pending = x := rfl

end Sys2Proof.Machine

namespace Sys2Proof

/-! ## One value for each slot -/

@[simp] theorem PerSlot.get_set_same {α : Type} (p : PerSlot α) (k : Slot) (x : α) :
    (p.set k x).get k = x := by cases k <;> rfl

theorem PerSlot.get_set_other {α : Type} (p : PerSlot α) {k j : Slot} (x : α) (h : j ≠ k) :
    (p.set k x).get j = p.get j := by
  cases k <;> cases j <;> first | rfl | exact absurd rfl h

theorem PerSlot.get_set {α : Type} (p : PerSlot α) (k j : Slot) (x : α) :
    (p.set k x).get j = if j = k then x else p.get j := by
  split
  · subst_vars; simp
  · rename_i h; exact p.get_set_other x h

@[simp] theorem PerSlot.get_of {α : Type} (f : Slot → α) (k : Slot) : (PerSlot.of f).get k = f k := by
  cases k <;> rfl

theorem PerSlot.ext_get {α : Type} {p q : PerSlot α} (h : ∀ k, p.get k = q.get k) : p = q := by
  cases p; cases q
  have h0 := h .satA; have h1 := h .satB; have h2 := h .lineA
  have h3 := h .lineB; have h4 := h .pkt; have h5 := h .chain
  simp only [PerSlot.get] at h0 h1 h2 h3 h4 h5
  simp [h0, h1, h2, h3, h4, h5]

end Sys2Proof

namespace Sys2Proof.Machine

/-! ## One monitor -/

@[simp] theorem mapRefs_get (f : Slot → Monitor → Monitor) (r : PerSlot Monitor) (k : Slot) :
    (mapRefs f r).get k = f k (r.get k) := by simp [mapRefs]

@[simp] theorem State.setPart_ref (s : State) (x : PartState) (k : Slot) :
    (s.setPart x).ref k = s.ref k := rfl
@[simp] theorem State.setTime_ref (s : State) (x : TimeBase) (k : Slot) :
    (s.setTime x).ref k = s.ref k := rfl
theorem State.setRefs_ref (s : State) (x : PerSlot Monitor) (k : Slot) :
    (s.setRefs x).ref k = x.get k := rfl
@[simp] theorem State.setFilter_ref (s : State) (x : Filter) (k : Slot) :
    (s.setFilter x).ref k = s.ref k := rfl
@[simp] theorem State.setSelector_ref (s : State) (x : Selector) (k : Slot) :
    (s.setSelector x).ref k = s.ref k := rfl
@[simp] theorem State.setServo_ref (s : State) (x : Servo) (k : Slot) :
    (s.setServo x).ref k = s.ref k := rfl
@[simp] theorem State.setHoldover_ref (s : State) (x : Holdover) (k : Slot) :
    (s.setHoldover x).ref k = s.ref k := rfl
@[simp] theorem State.setPorts_ref (s : State) (x : Vector Port 12) (k : Slot) :
    (s.setPorts x).ref k = s.ref k := rfl
@[simp] theorem State.setChain_ref (s : State) (x : ChainUnit) (k : Slot) :
    (s.setChain x).ref k = s.ref k := rfl
@[simp] theorem State.setScheduler_ref (s : State) (x : Scheduler) (k : Slot) :
    (s.setScheduler x).ref k = s.ref k := rfl
@[simp] theorem State.setAlarms_ref (s : State) (x : AlarmUnit) (k : Slot) :
    (s.setAlarms x).ref k = s.ref k := rfl
@[simp] theorem State.setLink_ref (s : State) (x : Link) (k : Slot) :
    (s.setLink x).ref k = s.ref k := rfl
@[simp] theorem State.setFlash_ref (s : State) (x : Option FlashImage) (k : Slot) :
    (s.setFlash x).ref k = s.ref k := rfl
@[simp] theorem State.setPending_ref (s : State) (x : List Instr) (k : Slot) :
    (s.setPending x).ref k = s.ref k := rfl

@[simp] theorem State.setRef_ref (s : State) (k : Slot) (m : Monitor) : (s.setRef k m).ref k = m := by
  simp [State.setRef, State.ref]

theorem State.setRef_ref_other (s : State) {k j : Slot} (m : Monitor) (h : j ≠ k) :
    (s.setRef k m).ref j = s.ref j := PerSlot.get_set_other _ _ h

theorem State.setRef_ref_eq (s : State) (k j : Slot) (m : Monitor) :
    (s.setRef k m).ref j = if j = k then m else s.ref j := PerSlot.get_set _ _ _ _

@[simp] theorem State.setRef_part (s : State) (k : Slot) (m : Monitor) : (s.setRef k m).part = s.part := rfl
@[simp] theorem State.setRef_time (s : State) (k : Slot) (m : Monitor) : (s.setRef k m).time = s.time := rfl
@[simp] theorem State.setRef_filter (s : State) (k : Slot) (m : Monitor) : (s.setRef k m).filter = s.filter := rfl
@[simp] theorem State.setRef_selector (s : State) (k : Slot) (m : Monitor) : (s.setRef k m).selector = s.selector := rfl
@[simp] theorem State.setRef_servo (s : State) (k : Slot) (m : Monitor) : (s.setRef k m).servo = s.servo := rfl
@[simp] theorem State.setRef_holdover (s : State) (k : Slot) (m : Monitor) : (s.setRef k m).holdover = s.holdover := rfl
@[simp] theorem State.setRef_ports (s : State) (k : Slot) (m : Monitor) : (s.setRef k m).ports = s.ports := rfl
@[simp] theorem State.setRef_chain (s : State) (k : Slot) (m : Monitor) : (s.setRef k m).chain = s.chain := rfl
@[simp] theorem State.setRef_scheduler (s : State) (k : Slot) (m : Monitor) : (s.setRef k m).scheduler = s.scheduler := rfl
@[simp] theorem State.setRef_alarms (s : State) (k : Slot) (m : Monitor) : (s.setRef k m).alarms = s.alarms := rfl
@[simp] theorem State.setRef_link (s : State) (k : Slot) (m : Monitor) : (s.setRef k m).link = s.link := rfl
@[simp] theorem State.setRef_flash (s : State) (k : Slot) (m : Monitor) : (s.setRef k m).flash = s.flash := rfl
@[simp] theorem State.setRef_pending (s : State) (k : Slot) (m : Monitor) : (s.setRef k m).pending = s.pending := rfl

/-! ## One port -/

@[simp] theorem State.setPart_port (s : State) (x : PartState) (p : Fin 12) :
    (s.setPart x).port p = s.port p := rfl
@[simp] theorem State.setTime_port (s : State) (x : TimeBase) (p : Fin 12) :
    (s.setTime x).port p = s.port p := rfl
@[simp] theorem State.setRefs_port (s : State) (x : PerSlot Monitor) (p : Fin 12) :
    (s.setRefs x).port p = s.port p := rfl
@[simp] theorem State.setFilter_port (s : State) (x : Filter) (p : Fin 12) :
    (s.setFilter x).port p = s.port p := rfl
@[simp] theorem State.setSelector_port (s : State) (x : Selector) (p : Fin 12) :
    (s.setSelector x).port p = s.port p := rfl
@[simp] theorem State.setServo_port (s : State) (x : Servo) (p : Fin 12) :
    (s.setServo x).port p = s.port p := rfl
@[simp] theorem State.setHoldover_port (s : State) (x : Holdover) (p : Fin 12) :
    (s.setHoldover x).port p = s.port p := rfl
theorem State.setPorts_port (s : State) (x : Vector Port 12) (p : Fin 12) :
    (s.setPorts x).port p = x[p] := rfl
@[simp] theorem State.setChain_port (s : State) (x : ChainUnit) (p : Fin 12) :
    (s.setChain x).port p = s.port p := rfl
@[simp] theorem State.setScheduler_port (s : State) (x : Scheduler) (p : Fin 12) :
    (s.setScheduler x).port p = s.port p := rfl
@[simp] theorem State.setAlarms_port (s : State) (x : AlarmUnit) (p : Fin 12) :
    (s.setAlarms x).port p = s.port p := rfl
@[simp] theorem State.setLink_port (s : State) (x : Link) (p : Fin 12) :
    (s.setLink x).port p = s.port p := rfl
@[simp] theorem State.setFlash_port (s : State) (x : Option FlashImage) (p : Fin 12) :
    (s.setFlash x).port p = s.port p := rfl
@[simp] theorem State.setPending_port (s : State) (x : List Instr) (p : Fin 12) :
    (s.setPending x).port p = s.port p := rfl

@[simp] theorem State.setRef_port (s : State) (k : Slot) (m : Monitor) (p : Fin 12) :
    (s.setRef k m).port p = s.port p := rfl

@[simp] theorem State.setPort_ref (s : State) (p : Fin 12) (x : Port) (k : Slot) :
    (s.setPort p x).ref k = s.ref k := rfl

@[simp] theorem State.setPort_port (s : State) (p : Fin 12) (x : Port) : (s.setPort p x).port p = x := by
  simp [State.setPort, State.port, State.setPorts]

theorem State.setPort_port_other (s : State) {p q : Fin 12} (x : Port) (h : q ≠ p) :
    (s.setPort p x).port q = s.port q := by
  have hv : (p : Nat) ≠ q := fun e => h (Fin.ext e.symm)
  simp [State.setPort, State.port, State.setPorts, Vector.getElem_set_ne, hv]

theorem State.setPort_port_eq (s : State) (p q : Fin 12) (x : Port) :
    (s.setPort p x).port q = if q = p then x else s.port q := by
  split
  · subst_vars; simp
  · rename_i h; exact s.setPort_port_other x h

@[simp] theorem State.setPort_part (s : State) (p : Fin 12) (x : Port) : (s.setPort p x).part = s.part := rfl
@[simp] theorem State.setPort_time (s : State) (p : Fin 12) (x : Port) : (s.setPort p x).time = s.time := rfl
@[simp] theorem State.setPort_refs (s : State) (p : Fin 12) (x : Port) : (s.setPort p x).refs = s.refs := rfl
@[simp] theorem State.setPort_filter (s : State) (p : Fin 12) (x : Port) : (s.setPort p x).filter = s.filter := rfl
@[simp] theorem State.setPort_selector (s : State) (p : Fin 12) (x : Port) : (s.setPort p x).selector = s.selector := rfl
@[simp] theorem State.setPort_servo (s : State) (p : Fin 12) (x : Port) : (s.setPort p x).servo = s.servo := rfl
@[simp] theorem State.setPort_holdover (s : State) (p : Fin 12) (x : Port) : (s.setPort p x).holdover = s.holdover := rfl
@[simp] theorem State.setPort_chain (s : State) (p : Fin 12) (x : Port) : (s.setPort p x).chain = s.chain := rfl
@[simp] theorem State.setPort_scheduler (s : State) (p : Fin 12) (x : Port) : (s.setPort p x).scheduler = s.scheduler := rfl
@[simp] theorem State.setPort_alarms (s : State) (p : Fin 12) (x : Port) : (s.setPort p x).alarms = s.alarms := rfl
@[simp] theorem State.setPort_link (s : State) (p : Fin 12) (x : Port) : (s.setPort p x).link = s.link := rfl
@[simp] theorem State.setPort_flash (s : State) (p : Fin 12) (x : Port) : (s.setPort p x).flash = s.flash := rfl
@[simp] theorem State.setPort_pending (s : State) (p : Fin 12) (x : Port) : (s.setPort p x).pending = s.pending := rfl

/-! ## One chain record -/

@[simp] theorem ChainUnit.setRecord_record (c : ChainUnit) (p : ChainPort) (r : ChainRecord) :
    (c.setRecord p r).record p = r := by cases p <;> rfl

@[simp] theorem ChainUnit.setRecord_other (c : ChainUnit) (p : ChainPort) (r : ChainRecord) :
    (c.setRecord p r).record (otherPort p) = c.record (otherPort p) := by cases p <;> rfl

/-! ## The setters as record updates -/

theorem State.setRefs_refs_ref (s : State) (f : Slot → Monitor → Monitor) (k : Slot) :
    (s.setRefs (mapRefs f s.refs)).ref k = f k (s.ref k) := by
  simp [State.ref]

end Sys2Proof.Machine
end

