-- ==== Sys2Proof/Laws/Frames.lean ====
section
/-!
SUPPORT. The frame of each shared operation: the parts of the state it leaves as they were.  Reports
and conditions touch the alarm unit alone; the grade also the ports; the estimate also the holdover
unit; the servo and the monitors, then the selector, then the sample filter come after them.
-/

namespace Sys2Proof.Machine

/-- What every step of a fold keeps, the fold keeps. -/
theorem foldl_keeps {α β : Type} {f : State → α → State} (P : State → β)
    (h : ∀ s x, P (f s x) = P s) (l : List α) (s : State) : P (l.foldl f s) = P s := by
  induction l generalizing s with
  | nil => rfl
  | cons x l ih => rw [List.foldl_cons, ih, h]

/-! ## Alarms -/

@[simp] theorem State.post_frame (d : NoticeDetail) (k : Nat) (s : State) :
    (s.post d k).part = s.part ∧ (s.post d k).time = s.time ∧ (s.post d k).refs = s.refs ∧
    (s.post d k).filter = s.filter ∧ (s.post d k).selector = s.selector ∧
    (s.post d k).servo = s.servo ∧ (s.post d k).holdover = s.holdover ∧
    (s.post d k).ports = s.ports ∧ (s.post d k).chain = s.chain ∧
    (s.post d k).scheduler = s.scheduler ∧ (s.post d k).link = s.link ∧
    (s.post d k).flash = s.flash ∧ (s.post d k).pending = s.pending := by
  simp [State.post]

@[simp] theorem State.moveAlarm_frame (f : AlarmConfig → Nat → AlarmEntry → EntryStep)
    (k : AlarmKind) (n : Nat) (s : State) :
    (s.moveAlarm f k n).part = s.part ∧ (s.moveAlarm f k n).time = s.time ∧
    (s.moveAlarm f k n).refs = s.refs ∧ (s.moveAlarm f k n).filter = s.filter ∧
    (s.moveAlarm f k n).selector = s.selector ∧ (s.moveAlarm f k n).servo = s.servo ∧
    (s.moveAlarm f k n).holdover = s.holdover ∧ (s.moveAlarm f k n).ports = s.ports ∧
    (s.moveAlarm f k n).chain = s.chain ∧ (s.moveAlarm f k n).scheduler = s.scheduler ∧
    (s.moveAlarm f k n).link = s.link ∧ (s.moveAlarm f k n).flash = s.flash ∧
    (s.moveAlarm f k n).pending = s.pending := by
  simp [State.moveAlarm]

@[simp] theorem State.declare_frame (k : AlarmKind) (n : Nat) (b : Bool) (s : State) :
    (s.declare k n b).part = s.part ∧ (s.declare k n b).time = s.time ∧
    (s.declare k n b).refs = s.refs ∧ (s.declare k n b).filter = s.filter ∧
    (s.declare k n b).selector = s.selector ∧ (s.declare k n b).servo = s.servo ∧
    (s.declare k n b).holdover = s.holdover ∧ (s.declare k n b).ports = s.ports ∧
    (s.declare k n b).chain = s.chain ∧ (s.declare k n b).scheduler = s.scheduler ∧
    (s.declare k n b).link = s.link ∧ (s.declare k n b).flash = s.flash ∧
    (s.declare k n b).pending = s.pending := by
  simp [State.declare]

@[simp] theorem State.refresh_frame (k : AlarmKind) (n : Nat) (s : State) :
    (s.refresh k n).part = s.part ∧ (s.refresh k n).time = s.time ∧ (s.refresh k n).refs = s.refs ∧
    (s.refresh k n).filter = s.filter ∧ (s.refresh k n).selector = s.selector ∧
    (s.refresh k n).servo = s.servo ∧ (s.refresh k n).holdover = s.holdover ∧
    (s.refresh k n).ports = s.ports ∧ (s.refresh k n).chain = s.chain ∧
    (s.refresh k n).scheduler = s.scheduler ∧ (s.refresh k n).link = s.link ∧
    (s.refresh k n).flash = s.flash ∧ (s.refresh k n).pending = s.pending := by
  simp [State.refresh]

@[simp] theorem State.refreshAll_frame (l : List (AlarmKind × Nat)) (s : State) :
    (s.refreshAll l).part = s.part ∧ (s.refreshAll l).time = s.time ∧
    (s.refreshAll l).refs = s.refs ∧ (s.refreshAll l).filter = s.filter ∧
    (s.refreshAll l).selector = s.selector ∧ (s.refreshAll l).servo = s.servo ∧
    (s.refreshAll l).holdover = s.holdover ∧ (s.refreshAll l).ports = s.ports ∧
    (s.refreshAll l).chain = s.chain ∧ (s.refreshAll l).scheduler = s.scheduler ∧
    (s.refreshAll l).link = s.link ∧ (s.refreshAll l).flash = s.flash ∧
    (s.refreshAll l).pending = s.pending := by
  unfold State.refreshAll
  refine ⟨foldl_keeps State.part ?_ _ _, foldl_keeps State.time ?_ _ _, foldl_keeps State.refs
    ?_ _ _, foldl_keeps State.filter ?_ _ _, foldl_keeps State.selector ?_ _ _, foldl_keeps
    State.servo ?_ _ _, foldl_keeps State.holdover ?_ _ _, foldl_keeps State.ports ?_ _ _,
    foldl_keeps State.chain ?_ _ _, foldl_keeps State.scheduler ?_ _ _, foldl_keeps State.link
    ?_ _ _, foldl_keeps State.flash ?_ _ _, foldl_keeps State.pending ?_ _ _⟩ <;>
    intro s x <;> simp

/-! ## Leap state -/

@[simp] theorem refreshLeap_frame (s : State) :
    (refreshLeap s).part = s.part ∧ (refreshLeap s).refs = s.refs ∧
    (refreshLeap s).filter = s.filter ∧ (refreshLeap s).selector = s.selector ∧
    (refreshLeap s).servo = s.servo ∧ (refreshLeap s).holdover = s.holdover ∧
    (refreshLeap s).ports = s.ports ∧ (refreshLeap s).chain = s.chain ∧
    (refreshLeap s).scheduler = s.scheduler ∧ (refreshLeap s).alarms = s.alarms ∧
    (refreshLeap s).link = s.link ∧ (refreshLeap s).flash = s.flash ∧
    (refreshLeap s).pending = s.pending := by
  simp [refreshLeap]

/-! ## Ports -/

@[simp] theorem portMove_frame (p : Fin 12) (new : PortState) (c : PortCause) (s : State) :
    (portMove p new c s).part = s.part ∧ (portMove p new c s).time = s.time ∧
    (portMove p new c s).refs = s.refs ∧ (portMove p new c s).filter = s.filter ∧
    (portMove p new c s).selector = s.selector ∧ (portMove p new c s).servo = s.servo ∧
    (portMove p new c s).holdover = s.holdover ∧ (portMove p new c s).chain = s.chain ∧
    (portMove p new c s).scheduler = s.scheduler ∧ (portMove p new c s).link = s.link ∧
    (portMove p new c s).flash = s.flash ∧ (portMove p new c s).pending = s.pending := by
  dsimp only [portMove]
  (repeat' split) <;> simp

@[simp] theorem portRearm_frame (p : Fin 12) (t : Timer) (s : State) :
    (portRearm p t s).part = s.part ∧ (portRearm p t s).time = s.time ∧
    (portRearm p t s).refs = s.refs ∧ (portRearm p t s).filter = s.filter ∧
    (portRearm p t s).selector = s.selector ∧ (portRearm p t s).servo = s.servo ∧
    (portRearm p t s).holdover = s.holdover ∧ (portRearm p t s).chain = s.chain ∧
    (portRearm p t s).scheduler = s.scheduler ∧ (portRearm p t s).alarms = s.alarms ∧
    (portRearm p t s).link = s.link ∧ (portRearm p t s).flash = s.flash ∧
    (portRearm p t s).pending = s.pending := by
  simp [portRearm]

@[simp] theorem portEnable_frame (p : Fin 12) (c : PortCause) (s : State) :
    ((portEnable p c s).1).part = s.part ∧ ((portEnable p c s).1).time = s.time ∧
    ((portEnable p c s).1).refs = s.refs ∧ ((portEnable p c s).1).filter = s.filter ∧
    ((portEnable p c s).1).selector = s.selector ∧ ((portEnable p c s).1).servo = s.servo ∧
    ((portEnable p c s).1).holdover = s.holdover ∧ ((portEnable p c s).1).chain = s.chain ∧
    ((portEnable p c s).1).scheduler = s.scheduler ∧ ((portEnable p c s).1).link = s.link ∧
    ((portEnable p c s).1).flash = s.flash ∧ ((portEnable p c s).1).pending = s.pending := by
  dsimp only [portEnable]
  (repeat' split) <;> simp

@[simp] theorem portDisable_frame (p : Fin 12) (c : PortCause) (s : State) :
    ((portDisable p c s).1).part = s.part ∧ ((portDisable p c s).1).time = s.time ∧
    ((portDisable p c s).1).refs = s.refs ∧ ((portDisable p c s).1).filter = s.filter ∧
    ((portDisable p c s).1).selector = s.selector ∧ ((portDisable p c s).1).servo = s.servo ∧
    ((portDisable p c s).1).holdover = s.holdover ∧ ((portDisable p c s).1).chain = s.chain ∧
    ((portDisable p c s).1).scheduler = s.scheduler ∧ ((portDisable p c s).1).link = s.link ∧
    ((portDisable p c s).1).flash = s.flash ∧ ((portDisable p c s).1).pending = s.pending := by
  dsimp only [portDisable]
  (repeat' split) <;> simp

@[simp] theorem portJudge_frame (g : Grade) (p : Fin 12) (s : State) :
    (portJudge g p s).part = s.part ∧ (portJudge g p s).time = s.time ∧
    (portJudge g p s).refs = s.refs ∧ (portJudge g p s).filter = s.filter ∧
    (portJudge g p s).selector = s.selector ∧ (portJudge g p s).servo = s.servo ∧
    (portJudge g p s).holdover = s.holdover ∧ (portJudge g p s).chain = s.chain ∧
    (portJudge g p s).scheduler = s.scheduler ∧ (portJudge g p s).link = s.link ∧
    (portJudge g p s).flash = s.flash ∧ (portJudge g p s).pending = s.pending := by
  dsimp only [portJudge]
  (repeat' split) <;> simp

@[simp] theorem presentGrade_frame (g : Grade) (s : State) :
    (presentGrade g s).part = s.part ∧ (presentGrade g s).time = s.time ∧
    (presentGrade g s).refs = s.refs ∧ (presentGrade g s).filter = s.filter ∧
    (presentGrade g s).selector = s.selector ∧ (presentGrade g s).servo = s.servo ∧
    (presentGrade g s).holdover = s.holdover ∧ (presentGrade g s).chain = s.chain ∧
    (presentGrade g s).scheduler = s.scheduler ∧ (presentGrade g s).link = s.link ∧
    (presentGrade g s).flash = s.flash ∧ (presentGrade g s).pending = s.pending := by
  unfold presentGrade
  refine ⟨foldl_keeps State.part ?_ _ _, foldl_keeps State.time ?_ _ _, foldl_keeps State.refs
    ?_ _ _, foldl_keeps State.filter ?_ _ _, foldl_keeps State.selector ?_ _ _, foldl_keeps
    State.servo ?_ _ _, foldl_keeps State.holdover ?_ _ _, foldl_keeps State.chain ?_ _ _,
    foldl_keeps State.scheduler ?_ _ _, foldl_keeps State.link ?_ _ _, foldl_keeps State.flash
    ?_ _ _, foldl_keeps State.pending ?_ _ _⟩ <;>
    intro s x <;> simp

@[simp] theorem rearmExpires_frame (p : Fin 12) (s : State) :
    (rearmExpires p s).part = s.part ∧ (rearmExpires p s).time = s.time ∧
    (rearmExpires p s).refs = s.refs ∧ (rearmExpires p s).filter = s.filter ∧
    (rearmExpires p s).selector = s.selector ∧ (rearmExpires p s).servo = s.servo ∧
    (rearmExpires p s).holdover = s.holdover ∧ (rearmExpires p s).chain = s.chain ∧
    (rearmExpires p s).scheduler = s.scheduler ∧ (rearmExpires p s).link = s.link ∧
    (rearmExpires p s).flash = s.flash ∧ (rearmExpires p s).pending = s.pending := by
  dsimp only [rearmExpires]
  (repeat' split) <;> simp

@[simp] theorem composeMessage_frame (p : Fin 12) (r : SecondRecord) (o : Nat) (s : State) :
    (composeMessage p r o s).part = s.part ∧ (composeMessage p r o s).time = s.time ∧
    (composeMessage p r o s).refs = s.refs ∧ (composeMessage p r o s).filter = s.filter ∧
    (composeMessage p r o s).selector = s.selector ∧ (composeMessage p r o s).servo = s.servo ∧
    (composeMessage p r o s).holdover = s.holdover ∧ (composeMessage p r o s).chain = s.chain ∧
    (composeMessage p r o s).scheduler = s.scheduler ∧ (composeMessage p r o s).alarms = s.alarms ∧
    (composeMessage p r o s).link = s.link ∧ (composeMessage p r o s).flash = s.flash ∧
    (composeMessage p r o s).pending = s.pending := by
  dsimp only [composeMessage]
  (repeat' split) <;> simp

@[simp] theorem composeRecorded_frame (r : SecondRecord) (s : State) :
    (composeRecorded r s).part = s.part ∧ (composeRecorded r s).time = s.time ∧
    (composeRecorded r s).refs = s.refs ∧ (composeRecorded r s).filter = s.filter ∧
    (composeRecorded r s).selector = s.selector ∧ (composeRecorded r s).servo = s.servo ∧
    (composeRecorded r s).holdover = s.holdover ∧ (composeRecorded r s).chain = s.chain ∧
    (composeRecorded r s).scheduler = s.scheduler ∧ (composeRecorded r s).alarms = s.alarms ∧
    (composeRecorded r s).link = s.link ∧ (composeRecorded r s).flash = s.flash ∧
    (composeRecorded r s).pending = s.pending := by
  unfold composeRecorded
  refine ⟨foldl_keeps State.part ?_ _ _, foldl_keeps State.time ?_ _ _, foldl_keeps State.refs
    ?_ _ _, foldl_keeps State.filter ?_ _ _, foldl_keeps State.selector ?_ _ _, foldl_keeps
    State.servo ?_ _ _, foldl_keeps State.holdover ?_ _ _, foldl_keeps State.chain ?_ _ _,
    foldl_keeps State.scheduler ?_ _ _, foldl_keeps State.alarms ?_ _ _, foldl_keeps State.link
    ?_ _ _, foldl_keeps State.flash ?_ _ _, foldl_keeps State.pending ?_ _ _⟩ <;>
    intro s x <;> simp [apply_ite]

@[simp] theorem serveHead_frame (l : Option Nat) (p : Fin 12) (s : State) :
    (serveHead l p s).part = s.part ∧ (serveHead l p s).time = s.time ∧
    (serveHead l p s).refs = s.refs ∧ (serveHead l p s).filter = s.filter ∧
    (serveHead l p s).selector = s.selector ∧ (serveHead l p s).servo = s.servo ∧
    (serveHead l p s).holdover = s.holdover ∧ (serveHead l p s).chain = s.chain ∧
    (serveHead l p s).scheduler = s.scheduler ∧ (serveHead l p s).link = s.link ∧
    (serveHead l p s).flash = s.flash ∧ (serveHead l p s).pending = s.pending := by
  dsimp only [serveHead]
  (repeat' split) <;> simp

@[simp] theorem portBoundary_frame (p : Fin 12) (s : State) :
    (portBoundary p s).part = s.part ∧ (portBoundary p s).time = s.time ∧
    (portBoundary p s).refs = s.refs ∧ (portBoundary p s).filter = s.filter ∧
    (portBoundary p s).selector = s.selector ∧ (portBoundary p s).servo = s.servo ∧
    (portBoundary p s).holdover = s.holdover ∧ (portBoundary p s).chain = s.chain ∧
    (portBoundary p s).scheduler = s.scheduler ∧ (portBoundary p s).link = s.link ∧
    (portBoundary p s).flash = s.flash ∧ (portBoundary p s).pending = s.pending := by
  dsimp only [portBoundary]
  (repeat' split) <;> simp

@[simp] theorem portsBoundary_frame (s : State) :
    (portsBoundary s).part = s.part ∧ (portsBoundary s).time = s.time ∧
    (portsBoundary s).refs = s.refs ∧ (portsBoundary s).filter = s.filter ∧
    (portsBoundary s).selector = s.selector ∧ (portsBoundary s).servo = s.servo ∧
    (portsBoundary s).holdover = s.holdover ∧ (portsBoundary s).chain = s.chain ∧
    (portsBoundary s).scheduler = s.scheduler ∧ (portsBoundary s).link = s.link ∧
    (portsBoundary s).flash = s.flash ∧ (portsBoundary s).pending = s.pending := by
  unfold portsBoundary
  refine ⟨foldl_keeps State.part ?_ _ _, foldl_keeps State.time ?_ _ _, foldl_keeps State.refs
    ?_ _ _, foldl_keeps State.filter ?_ _ _, foldl_keeps State.selector ?_ _ _, foldl_keeps
    State.servo ?_ _ _, foldl_keeps State.holdover ?_ _ _, foldl_keeps State.chain ?_ _ _,
    foldl_keeps State.scheduler ?_ _ _, foldl_keeps State.link ?_ _ _, foldl_keeps State.flash
    ?_ _ _, foldl_keeps State.pending ?_ _ _⟩ <;>
    intro s x <;> simp

@[simp] theorem portStep_frame (ev : StepEvent) (p : Fin 12) (s : State) :
    (portStep ev p s).part = s.part ∧ (portStep ev p s).time = s.time ∧
    (portStep ev p s).refs = s.refs ∧ (portStep ev p s).filter = s.filter ∧
    (portStep ev p s).selector = s.selector ∧ (portStep ev p s).servo = s.servo ∧
    (portStep ev p s).holdover = s.holdover ∧ (portStep ev p s).chain = s.chain ∧
    (portStep ev p s).scheduler = s.scheduler ∧ (portStep ev p s).alarms = s.alarms ∧
    (portStep ev p s).link = s.link ∧ (portStep ev p s).flash = s.flash ∧
    (portStep ev p s).pending = s.pending := by
  dsimp only [portStep]
  (repeat' split) <;> simp

@[simp] theorem portsStep_frame (ev : StepEvent) (s : State) :
    (portsStep ev s).part = s.part ∧ (portsStep ev s).time = s.time ∧
    (portsStep ev s).refs = s.refs ∧ (portsStep ev s).filter = s.filter ∧
    (portsStep ev s).selector = s.selector ∧ (portsStep ev s).servo = s.servo ∧
    (portsStep ev s).holdover = s.holdover ∧ (portsStep ev s).chain = s.chain ∧
    (portsStep ev s).scheduler = s.scheduler ∧ (portsStep ev s).alarms = s.alarms ∧
    (portsStep ev s).link = s.link ∧ (portsStep ev s).flash = s.flash ∧
    (portsStep ev s).pending = s.pending := by
  unfold portsStep
  refine ⟨foldl_keeps State.part ?_ _ _, foldl_keeps State.time ?_ _ _, foldl_keeps State.refs
    ?_ _ _, foldl_keeps State.filter ?_ _ _, foldl_keeps State.selector ?_ _ _, foldl_keeps
    State.servo ?_ _ _, foldl_keeps State.holdover ?_ _ _, foldl_keeps State.chain ?_ _ _,
    foldl_keeps State.scheduler ?_ _ _, foldl_keeps State.alarms ?_ _ _, foldl_keeps State.link
    ?_ _ _, foldl_keeps State.flash ?_ _ _, foldl_keeps State.pending ?_ _ _⟩ <;>
    intro s x <;> simp

/-! ## Holdover unit -/

@[simp] theorem estimateConditions_frame (s : State) :
    (estimateConditions s).part = s.part ∧ (estimateConditions s).time = s.time ∧
    (estimateConditions s).refs = s.refs ∧ (estimateConditions s).filter = s.filter ∧
    (estimateConditions s).selector = s.selector ∧ (estimateConditions s).servo = s.servo ∧
    (estimateConditions s).holdover = s.holdover ∧ (estimateConditions s).ports = s.ports ∧
    (estimateConditions s).chain = s.chain ∧ (estimateConditions s).scheduler = s.scheduler ∧
    (estimateConditions s).link = s.link ∧ (estimateConditions s).flash = s.flash ∧
    (estimateConditions s).pending = s.pending := by
  simp [estimateConditions]

@[simp] theorem recomputeGrade_frame (s : State) :
    (recomputeGrade s).part = s.part ∧ (recomputeGrade s).time = s.time ∧
    (recomputeGrade s).refs = s.refs ∧ (recomputeGrade s).filter = s.filter ∧
    (recomputeGrade s).selector = s.selector ∧ (recomputeGrade s).servo = s.servo ∧
    (recomputeGrade s).chain = s.chain ∧ (recomputeGrade s).scheduler = s.scheduler ∧
    (recomputeGrade s).link = s.link ∧ (recomputeGrade s).flash = s.flash ∧
    (recomputeGrade s).pending = s.pending := by
  dsimp only [recomputeGrade]
  (repeat' split) <;> simp

@[simp] theorem judgeEstimate_frame (s : State) :
    (judgeEstimate s).part = s.part ∧ (judgeEstimate s).time = s.time ∧
    (judgeEstimate s).refs = s.refs ∧ (judgeEstimate s).filter = s.filter ∧
    (judgeEstimate s).selector = s.selector ∧ (judgeEstimate s).servo = s.servo ∧
    (judgeEstimate s).chain = s.chain ∧ (judgeEstimate s).scheduler = s.scheduler ∧
    (judgeEstimate s).link = s.link ∧ (judgeEstimate s).flash = s.flash ∧
    (judgeEstimate s).pending = s.pending := by
  simp [judgeEstimate]

@[simp] theorem formHoldover_frame (s : State) :
    (formHoldover s).part = s.part ∧ (formHoldover s).time = s.time ∧
    (formHoldover s).refs = s.refs ∧ (formHoldover s).filter = s.filter ∧
    (formHoldover s).selector = s.selector ∧ (formHoldover s).servo = s.servo ∧
    (formHoldover s).ports = s.ports ∧ (formHoldover s).chain = s.chain ∧
    (formHoldover s).scheduler = s.scheduler ∧ (formHoldover s).alarms = s.alarms ∧
    (formHoldover s).link = s.link ∧ (formHoldover s).flash = s.flash ∧
    (formHoldover s).pending = s.pending := by
  simp [formHoldover]

@[simp] theorem holdoverSecond_frame (s : State) :
    (holdoverSecond s).part = s.part ∧ (holdoverSecond s).refs = s.refs ∧
    (holdoverSecond s).filter = s.filter ∧ (holdoverSecond s).selector = s.selector ∧
    (holdoverSecond s).servo = s.servo ∧ (holdoverSecond s).chain = s.chain ∧
    (holdoverSecond s).scheduler = s.scheduler ∧ (holdoverSecond s).link = s.link ∧
    (holdoverSecond s).flash = s.flash ∧ (holdoverSecond s).pending = s.pending := by
  simp [holdoverSecond]

@[simp] theorem freqLockedSecond_frame (s : State) :
    (freqLockedSecond s).part = s.part ∧ (freqLockedSecond s).time = s.time ∧
    (freqLockedSecond s).refs = s.refs ∧ (freqLockedSecond s).filter = s.filter ∧
    (freqLockedSecond s).selector = s.selector ∧ (freqLockedSecond s).servo = s.servo ∧
    (freqLockedSecond s).chain = s.chain ∧ (freqLockedSecond s).scheduler = s.scheduler ∧
    (freqLockedSecond s).link = s.link ∧ (freqLockedSecond s).flash = s.flash ∧
    (freqLockedSecond s).pending = s.pending := by
  simp [freqLockedSecond]

@[simp] theorem estimateSecond_frame (s : State) :
    (estimateSecond s).part = s.part ∧ (estimateSecond s).refs = s.refs ∧
    (estimateSecond s).filter = s.filter ∧ (estimateSecond s).selector = s.selector ∧
    (estimateSecond s).servo = s.servo ∧ (estimateSecond s).chain = s.chain ∧
    (estimateSecond s).scheduler = s.scheduler ∧ (estimateSecond s).link = s.link ∧
    (estimateSecond s).flash = s.flash ∧ (estimateSecond s).pending = s.pending := by
  dsimp only [estimateSecond]
  (repeat' split) <;> simp

@[simp] theorem takeReport_frame (r : UpdateReport) (s : State) :
    (takeReport r s).part = s.part ∧ (takeReport r s).time = s.time ∧
    (takeReport r s).refs = s.refs ∧ (takeReport r s).filter = s.filter ∧
    (takeReport r s).selector = s.selector ∧ (takeReport r s).servo = s.servo ∧
    (takeReport r s).chain = s.chain ∧ (takeReport r s).scheduler = s.scheduler ∧
    (takeReport r s).link = s.link ∧ (takeReport r s).flash = s.flash ∧
    (takeReport r s).pending = s.pending := by
  dsimp only [takeReport]
  (repeat' split) <;> simp

@[simp] theorem servoEntered_frame (o n : ServoState) (s : State) :
    (servoEntered o n s).part = s.part ∧ (servoEntered o n s).time = s.time ∧
    (servoEntered o n s).refs = s.refs ∧ (servoEntered o n s).filter = s.filter ∧
    (servoEntered o n s).selector = s.selector ∧ (servoEntered o n s).servo = s.servo ∧
    (servoEntered o n s).chain = s.chain ∧ (servoEntered o n s).scheduler = s.scheduler ∧
    (servoEntered o n s).link = s.link ∧ (servoEntered o n s).flash = s.flash ∧
    (servoEntered o n s).pending = s.pending := by
  simp [servoEntered]

@[simp] theorem holdoverSwitch_frame (s : State) :
    (holdoverSwitch s).part = s.part ∧ (holdoverSwitch s).time = s.time ∧
    (holdoverSwitch s).refs = s.refs ∧ (holdoverSwitch s).filter = s.filter ∧
    (holdoverSwitch s).selector = s.selector ∧ (holdoverSwitch s).servo = s.servo ∧
    (holdoverSwitch s).ports = s.ports ∧ (holdoverSwitch s).chain = s.chain ∧
    (holdoverSwitch s).scheduler = s.scheduler ∧ (holdoverSwitch s).alarms = s.alarms ∧
    (holdoverSwitch s).link = s.link ∧ (holdoverSwitch s).flash = s.flash ∧
    (holdoverSwitch s).pending = s.pending := by
  simp [holdoverSwitch]

@[simp] theorem holdoverStep_frame (s : State) :
    (holdoverStep s).part = s.part ∧ (holdoverStep s).time = s.time ∧
    (holdoverStep s).refs = s.refs ∧ (holdoverStep s).filter = s.filter ∧
    (holdoverStep s).selector = s.selector ∧ (holdoverStep s).servo = s.servo ∧
    (holdoverStep s).ports = s.ports ∧ (holdoverStep s).chain = s.chain ∧
    (holdoverStep s).scheduler = s.scheduler ∧ (holdoverStep s).alarms = s.alarms ∧
    (holdoverStep s).link = s.link ∧ (holdoverStep s).flash = s.flash ∧
    (holdoverStep s).pending = s.pending := by
  simp [holdoverStep]

/-! ## Servo states -/

@[simp] theorem resetDisagreement_frame (s : State) :
    (resetDisagreement s).part = s.part ∧ (resetDisagreement s).time = s.time ∧
    (resetDisagreement s).filter = s.filter ∧ (resetDisagreement s).selector = s.selector ∧
    (resetDisagreement s).servo = s.servo ∧ (resetDisagreement s).holdover = s.holdover ∧
    (resetDisagreement s).ports = s.ports ∧ (resetDisagreement s).chain = s.chain ∧
    (resetDisagreement s).scheduler = s.scheduler ∧ (resetDisagreement s).alarms = s.alarms ∧
    (resetDisagreement s).link = s.link ∧ (resetDisagreement s).flash = s.flash ∧
    (resetDisagreement s).pending = s.pending := by
  simp [resetDisagreement]

@[simp] theorem servoEnter_frame (n : ServoState) (c : ServoCause) (s : State) :
    (servoEnter n c s).part = s.part ∧ (servoEnter n c s).time = s.time ∧
    (servoEnter n c s).filter = s.filter ∧ (servoEnter n c s).selector = s.selector ∧
    (servoEnter n c s).chain = s.chain ∧ (servoEnter n c s).scheduler = s.scheduler ∧
    (servoEnter n c s).link = s.link ∧ (servoEnter n c s).flash = s.flash ∧
    (servoEnter n c s).pending = s.pending := by
  dsimp only [servoEnter]
  (repeat' split) <;> simp

@[simp] theorem clearPullRuns_frame (s : State) :
    (clearPullRuns s).part = s.part ∧ (clearPullRuns s).time = s.time ∧
    (clearPullRuns s).refs = s.refs ∧ (clearPullRuns s).filter = s.filter ∧
    (clearPullRuns s).selector = s.selector ∧ (clearPullRuns s).holdover = s.holdover ∧
    (clearPullRuns s).ports = s.ports ∧ (clearPullRuns s).chain = s.chain ∧
    (clearPullRuns s).scheduler = s.scheduler ∧ (clearPullRuns s).link = s.link ∧
    (clearPullRuns s).flash = s.flash ∧ (clearPullRuns s).pending = s.pending := by
  simp [clearPullRuns]

@[simp] theorem follow_frame (k : Option Slot) (s : State) :
    (follow k s).part = s.part ∧ (follow k s).time = s.time ∧ (follow k s).refs = s.refs ∧
    (follow k s).filter = s.filter ∧ (follow k s).selector = s.selector ∧
    (follow k s).holdover = s.holdover ∧ (follow k s).ports = s.ports ∧
    (follow k s).chain = s.chain ∧ (follow k s).scheduler = s.scheduler ∧
    (follow k s).alarms = s.alarms ∧ (follow k s).link = s.link ∧ (follow k s).flash = s.flash ∧
    (follow k s).pending = s.pending := by
  simp [follow]

@[simp] theorem servoDeselected_frame (s : State) :
    (servoDeselected s).part = s.part ∧ (servoDeselected s).time = s.time ∧
    (servoDeselected s).filter = s.filter ∧ (servoDeselected s).selector = s.selector ∧
    (servoDeselected s).chain = s.chain ∧ (servoDeselected s).scheduler = s.scheduler ∧
    (servoDeselected s).link = s.link ∧ (servoDeselected s).flash = s.flash ∧
    (servoDeselected s).pending = s.pending := by
  dsimp only [servoDeselected]
  (repeat' split) <;> simp

@[simp] theorem servoToPhase_frame (s : State) :
    (servoToPhase s).part = s.part ∧ (servoToPhase s).time = s.time ∧
    (servoToPhase s).filter = s.filter ∧ (servoToPhase s).selector = s.selector ∧
    (servoToPhase s).chain = s.chain ∧ (servoToPhase s).scheduler = s.scheduler ∧
    (servoToPhase s).link = s.link ∧ (servoToPhase s).flash = s.flash ∧
    (servoToPhase s).pending = s.pending := by
  dsimp only [servoToPhase]
  (repeat' split) <;> simp

@[simp] theorem servoToLine_frame (s : State) :
    (servoToLine s).part = s.part ∧ (servoToLine s).time = s.time ∧
    (servoToLine s).filter = s.filter ∧ (servoToLine s).selector = s.selector ∧
    (servoToLine s).chain = s.chain ∧ (servoToLine s).scheduler = s.scheduler ∧
    (servoToLine s).link = s.link ∧ (servoToLine s).flash = s.flash ∧
    (servoToLine s).pending = s.pending := by
  dsimp only [servoToLine]
  (repeat' split) <;> simp

@[simp] theorem servoSwitch_frame (k : Option Slot) (s : State) :
    (servoSwitch k s).part = s.part ∧ (servoSwitch k s).time = s.time ∧
    (servoSwitch k s).filter = s.filter ∧ (servoSwitch k s).selector = s.selector ∧
    (servoSwitch k s).chain = s.chain ∧ (servoSwitch k s).scheduler = s.scheduler ∧
    (servoSwitch k s).link = s.link ∧ (servoSwitch k s).flash = s.flash ∧
    (servoSwitch k s).pending = s.pending := by
  dsimp only [servoSwitch]
  (repeat' split) <;> simp

@[simp] theorem grantToken_frame (s : State) :
    ((grantToken s).1).part = s.part ∧ ((grantToken s).1).time = s.time ∧
    ((grantToken s).1).refs = s.refs ∧ ((grantToken s).1).filter = s.filter ∧
    ((grantToken s).1).selector = s.selector ∧ ((grantToken s).1).holdover = s.holdover ∧
    ((grantToken s).1).ports = s.ports ∧ ((grantToken s).1).chain = s.chain ∧
    ((grantToken s).1).scheduler = s.scheduler ∧ ((grantToken s).1).alarms = s.alarms ∧
    ((grantToken s).1).link = s.link ∧ ((grantToken s).1).flash = s.flash ∧
    ((grantToken s).1).pending = s.pending := by
  simp [grantToken]

/-! ## Selector -/

@[simp] theorem selectorConditions_frame (s : State) :
    (selectorConditions s).part = s.part ∧ (selectorConditions s).time = s.time ∧
    (selectorConditions s).refs = s.refs ∧ (selectorConditions s).filter = s.filter ∧
    (selectorConditions s).selector = s.selector ∧ (selectorConditions s).servo = s.servo ∧
    (selectorConditions s).holdover = s.holdover ∧ (selectorConditions s).ports = s.ports ∧
    (selectorConditions s).chain = s.chain ∧ (selectorConditions s).scheduler = s.scheduler ∧
    (selectorConditions s).link = s.link ∧ (selectorConditions s).flash = s.flash ∧
    (selectorConditions s).pending = s.pending := by
  simp [selectorConditions]

@[simp] theorem switchTo_frame (k : Option Slot) (c : EvalCause) (s : State) :
    (switchTo k c s).part = s.part ∧ (switchTo k c s).time = s.time ∧
    (switchTo k c s).filter = s.filter ∧ (switchTo k c s).chain = s.chain ∧
    (switchTo k c s).scheduler = s.scheduler ∧ (switchTo k c s).link = s.link ∧
    (switchTo k c s).flash = s.flash ∧ (switchTo k c s).pending = s.pending := by
  simp [switchTo]

@[simp] theorem choose_frame (k : Option Slot) (c : EvalCause) (s : State) :
    (choose k c s).part = s.part ∧ (choose k c s).time = s.time ∧
    (choose k c s).filter = s.filter ∧ (choose k c s).chain = s.chain ∧
    (choose k c s).scheduler = s.scheduler ∧ (choose k c s).link = s.link ∧
    (choose k c s).flash = s.flash ∧ (choose k c s).pending = s.pending := by
  dsimp only [choose]
  (repeat' split) <;> simp

@[simp] theorem evaluateAuto_frame (c : EvalCause) (s : State) :
    (evaluateAuto c s).part = s.part ∧ (evaluateAuto c s).time = s.time ∧
    (evaluateAuto c s).filter = s.filter ∧ (evaluateAuto c s).chain = s.chain ∧
    (evaluateAuto c s).scheduler = s.scheduler ∧ (evaluateAuto c s).link = s.link ∧
    (evaluateAuto c s).flash = s.flash ∧ (evaluateAuto c s).pending = s.pending := by
  dsimp only [evaluateAuto]
  (repeat' split) <;> simp

@[simp] theorem evaluate_frame (c : EvalCause) (s : State) :
    (evaluate c s).part = s.part ∧ (evaluate c s).time = s.time ∧
    (evaluate c s).filter = s.filter ∧ (evaluate c s).chain = s.chain ∧
    (evaluate c s).scheduler = s.scheduler ∧ (evaluate c s).link = s.link ∧
    (evaluate c s).flash = s.flash ∧ (evaluate c s).pending = s.pending := by
  dsimp only [evaluate]
  (repeat' split) <;> simp

@[simp] theorem reportToSelector_frame (s : State) :
    (reportToSelector s).part = s.part ∧ (reportToSelector s).time = s.time ∧
    (reportToSelector s).filter = s.filter ∧ (reportToSelector s).chain = s.chain ∧
    (reportToSelector s).scheduler = s.scheduler ∧ (reportToSelector s).link = s.link ∧
    (reportToSelector s).flash = s.flash ∧ (reportToSelector s).pending = s.pending := by
  simp [reportToSelector]

@[simp] theorem dwellExpires_frame (s : State) :
    (dwellExpires s).part = s.part ∧ (dwellExpires s).time = s.time ∧
    (dwellExpires s).filter = s.filter ∧ (dwellExpires s).chain = s.chain ∧
    (dwellExpires s).scheduler = s.scheduler ∧ (dwellExpires s).link = s.link ∧
    (dwellExpires s).flash = s.flash ∧ (dwellExpires s).pending = s.pending := by
  dsimp only [dwellExpires]
  (repeat' split) <;> simp

@[simp] theorem writeMode_frame (m : SelMode) (v : Option SelMode) (s : State) :
    (writeMode m v s).part = s.part ∧ (writeMode m v s).time = s.time ∧
    (writeMode m v s).filter = s.filter ∧ (writeMode m v s).chain = s.chain ∧
    (writeMode m v s).scheduler = s.scheduler ∧ (writeMode m v s).link = s.link ∧
    (writeMode m v s).flash = s.flash ∧ (writeMode m v s).pending = s.pending := by
  simp [writeMode]

@[simp] theorem modeHold_frame (s : State) :
    ((modeHold s).1).part = s.part ∧ ((modeHold s).1).time = s.time ∧
    ((modeHold s).1).filter = s.filter ∧ ((modeHold s).1).chain = s.chain ∧
    ((modeHold s).1).scheduler = s.scheduler ∧ ((modeHold s).1).link = s.link ∧
    ((modeHold s).1).flash = s.flash ∧ ((modeHold s).1).pending = s.pending := by
  dsimp only [modeHold]
  (repeat' split) <;> simp

@[simp] theorem modeRelease_frame (s : State) :
    ((modeRelease s).1).part = s.part ∧ ((modeRelease s).1).time = s.time ∧
    ((modeRelease s).1).filter = s.filter ∧ ((modeRelease s).1).chain = s.chain ∧
    ((modeRelease s).1).scheduler = s.scheduler ∧ ((modeRelease s).1).link = s.link ∧
    ((modeRelease s).1).flash = s.flash ∧ ((modeRelease s).1).pending = s.pending := by
  dsimp only [modeRelease]
  (repeat' split) <;> simp

@[simp] theorem modeSelect_frame (k : Slot) (s : State) :
    (modeSelect k s).part = s.part ∧ (modeSelect k s).time = s.time ∧
    (modeSelect k s).filter = s.filter ∧ (modeSelect k s).chain = s.chain ∧
    (modeSelect k s).scheduler = s.scheduler ∧ (modeSelect k s).link = s.link ∧
    (modeSelect k s).flash = s.flash ∧ (modeSelect k s).pending = s.pending := by
  simp [modeSelect]

@[simp] theorem modeAuto_frame (s : State) :
    (modeAuto s).part = s.part ∧ (modeAuto s).time = s.time ∧ (modeAuto s).filter = s.filter ∧
    (modeAuto s).chain = s.chain ∧ (modeAuto s).scheduler = s.scheduler ∧
    (modeAuto s).link = s.link ∧ (modeAuto s).flash = s.flash ∧ (modeAuto s).pending = s.pending := by
  simp [modeAuto]

/-! ## Monitors -/

@[simp] theorem modRef_frame (k : Slot) (f : Monitor → Monitor) (s : State) :
    (modRef k f s).part = s.part ∧ (modRef k f s).time = s.time ∧
    (modRef k f s).filter = s.filter ∧ (modRef k f s).selector = s.selector ∧
    (modRef k f s).servo = s.servo ∧ (modRef k f s).holdover = s.holdover ∧
    (modRef k f s).ports = s.ports ∧ (modRef k f s).chain = s.chain ∧
    (modRef k f s).scheduler = s.scheduler ∧ (modRef k f s).alarms = s.alarms ∧
    (modRef k f s).link = s.link ∧ (modRef k f s).flash = s.flash ∧
    (modRef k f s).pending = s.pending := by
  simp [modRef]

@[simp] theorem monitorConditions_frame (k : Slot) (s : State) :
    (monitorConditions k s).part = s.part ∧ (monitorConditions k s).time = s.time ∧
    (monitorConditions k s).refs = s.refs ∧ (monitorConditions k s).filter = s.filter ∧
    (monitorConditions k s).selector = s.selector ∧ (monitorConditions k s).servo = s.servo ∧
    (monitorConditions k s).holdover = s.holdover ∧ (monitorConditions k s).ports = s.ports ∧
    (monitorConditions k s).chain = s.chain ∧ (monitorConditions k s).scheduler = s.scheduler ∧
    (monitorConditions k s).link = s.link ∧ (monitorConditions k s).flash = s.flash ∧
    (monitorConditions k s).pending = s.pending := by
  dsimp only [monitorConditions]
  (repeat' split) <;> simp

@[simp] theorem filterFollows_frame (k : Slot) (s : State) :
    (filterFollows k s).part = s.part ∧ (filterFollows k s).time = s.time ∧
    (filterFollows k s).refs = s.refs ∧ (filterFollows k s).selector = s.selector ∧
    (filterFollows k s).servo = s.servo ∧ (filterFollows k s).holdover = s.holdover ∧
    (filterFollows k s).ports = s.ports ∧ (filterFollows k s).chain = s.chain ∧
    (filterFollows k s).scheduler = s.scheduler ∧ (filterFollows k s).alarms = s.alarms ∧
    (filterFollows k s).link = s.link ∧ (filterFollows k s).flash = s.flash ∧
    (filterFollows k s).pending = s.pending := by
  dsimp only [filterFollows]
  (repeat' split) <;> simp

@[simp] theorem enterChecking_frame (k : Slot) (s : State) :
    (enterChecking k s).part = s.part ∧ (enterChecking k s).time = s.time ∧
    (enterChecking k s).filter = s.filter ∧ (enterChecking k s).chain = s.chain ∧
    (enterChecking k s).scheduler = s.scheduler ∧ (enterChecking k s).link = s.link ∧
    (enterChecking k s).flash = s.flash ∧ (enterChecking k s).pending = s.pending := by
  simp [enterChecking]

@[simp] theorem enterAbsent_frame (k : Slot) (s : State) :
    (enterAbsent k s).part = s.part ∧ (enterAbsent k s).time = s.time ∧
    (enterAbsent k s).chain = s.chain ∧ (enterAbsent k s).scheduler = s.scheduler ∧
    (enterAbsent k s).link = s.link ∧ (enterAbsent k s).flash = s.flash ∧
    (enterAbsent k s).pending = s.pending := by
  simp [enterAbsent]

@[simp] theorem enterDisabled_frame (k : Slot) (c : ReferenceConfig) (s : State) :
    (enterDisabled k c s).part = s.part ∧ (enterDisabled k c s).time = s.time ∧
    (enterDisabled k c s).chain = s.chain ∧ (enterDisabled k c s).scheduler = s.scheduler ∧
    (enterDisabled k c s).link = s.link ∧ (enterDisabled k c s).flash = s.flash ∧
    (enterDisabled k c s).pending = s.pending := by
  simp [enterDisabled]

@[simp] theorem failSlot_frame (c : FailCause) (k : Slot) (s : State) :
    (failSlot c k s).part = s.part ∧ (failSlot c k s).time = s.time ∧
    (failSlot c k s).filter = s.filter ∧ (failSlot c k s).chain = s.chain ∧
    (failSlot c k s).scheduler = s.scheduler ∧ (failSlot c k s).link = s.link ∧
    (failSlot c k s).flash = s.flash ∧ (failSlot c k s).pending = s.pending := by
  dsimp only [failSlot]
  (repeat' split) <;> simp

@[simp] theorem signalAppears_frame (k : Slot) (s : State) :
    (signalAppears k s).part = s.part ∧ (signalAppears k s).time = s.time ∧
    (signalAppears k s).filter = s.filter ∧ (signalAppears k s).chain = s.chain ∧
    (signalAppears k s).scheduler = s.scheduler ∧ (signalAppears k s).link = s.link ∧
    (signalAppears k s).flash = s.flash ∧ (signalAppears k s).pending = s.pending := by
  dsimp only [signalAppears]
  (repeat' split) <;> simp

@[simp] theorem declareLoss_frame (k : Slot) (s : State) :
    (declareLoss k s).part = s.part ∧ (declareLoss k s).time = s.time ∧
    (declareLoss k s).filter = s.filter ∧ (declareLoss k s).chain = s.chain ∧
    (declareLoss k s).scheduler = s.scheduler ∧ (declareLoss k s).link = s.link ∧
    (declareLoss k s).flash = s.flash ∧ (declareLoss k s).pending = s.pending := by
  dsimp only [declareLoss]
  (repeat' split) <;> simp

@[simp] theorem missEpoch_frame (l : Nat) (k : Slot) (s : State) :
    (missEpoch l k s).part = s.part ∧ (missEpoch l k s).time = s.time ∧
    (missEpoch l k s).filter = s.filter ∧ (missEpoch l k s).chain = s.chain ∧
    (missEpoch l k s).scheduler = s.scheduler ∧ (missEpoch l k s).link = s.link ∧
    (missEpoch l k s).flash = s.flash ∧ (missEpoch l k s).pending = s.pending := by
  dsimp only [missEpoch]
  (repeat' split) <;> simp

@[simp] theorem goodEpoch_frame (k : Slot) (s : State) :
    (goodEpoch k s).part = s.part ∧ (goodEpoch k s).time = s.time ∧
    (goodEpoch k s).filter = s.filter ∧ (goodEpoch k s).selector = s.selector ∧
    (goodEpoch k s).servo = s.servo ∧ (goodEpoch k s).holdover = s.holdover ∧
    (goodEpoch k s).ports = s.ports ∧ (goodEpoch k s).chain = s.chain ∧
    (goodEpoch k s).scheduler = s.scheduler ∧ (goodEpoch k s).alarms = s.alarms ∧
    (goodEpoch k s).link = s.link ∧ (goodEpoch k s).flash = s.flash ∧
    (goodEpoch k s).pending = s.pending := by
  simp [goodEpoch]

@[simp] theorem demandRaise_frame (b : Bool) (k : Slot) (s : State) :
    (demandRaise b k s).part = s.part ∧ (demandRaise b k s).time = s.time ∧
    (demandRaise b k s).filter = s.filter ∧ (demandRaise b k s).chain = s.chain ∧
    (demandRaise b k s).scheduler = s.scheduler ∧ (demandRaise b k s).link = s.link ∧
    (demandRaise b k s).flash = s.flash ∧ (demandRaise b k s).pending = s.pending := by
  dsimp only [demandRaise]
  (repeat' split) <;> simp

@[simp] theorem periodEnds_frame (k : Slot) (s : State) :
    (periodEnds k s).part = s.part ∧ (periodEnds k s).time = s.time ∧
    (periodEnds k s).filter = s.filter ∧ (periodEnds k s).chain = s.chain ∧
    (periodEnds k s).scheduler = s.scheduler ∧ (periodEnds k s).link = s.link ∧
    (periodEnds k s).flash = s.flash ∧ (periodEnds k s).pending = s.pending := by
  dsimp only [periodEnds]
  (repeat' split) <;> simp

@[simp] theorem qualifies_frame (k : Slot) (s : State) :
    (qualifies k s).part = s.part ∧ (qualifies k s).time = s.time ∧
    (qualifies k s).filter = s.filter ∧ (qualifies k s).chain = s.chain ∧
    (qualifies k s).scheduler = s.scheduler ∧ (qualifies k s).link = s.link ∧
    (qualifies k s).flash = s.flash ∧ (qualifies k s).pending = s.pending := by
  dsimp only [qualifies]
  (repeat' split) <;> simp

@[simp] theorem waitEnds_frame (k : Slot) (s : State) :
    (waitEnds k s).part = s.part ∧ (waitEnds k s).time = s.time ∧ (waitEnds k s).chain = s.chain ∧
    (waitEnds k s).scheduler = s.scheduler ∧ (waitEnds k s).link = s.link ∧
    (waitEnds k s).flash = s.flash ∧ (waitEnds k s).pending = s.pending := by
  dsimp only [waitEnds]
  (repeat' split) <;> simp

@[simp] theorem monitorsStep_frame (ev : StepEvent) (s : State) :
    (monitorsStep ev s).part = s.part ∧ (monitorsStep ev s).time = s.time ∧
    (monitorsStep ev s).filter = s.filter ∧ (monitorsStep ev s).selector = s.selector ∧
    (monitorsStep ev s).servo = s.servo ∧ (monitorsStep ev s).holdover = s.holdover ∧
    (monitorsStep ev s).ports = s.ports ∧ (monitorsStep ev s).chain = s.chain ∧
    (monitorsStep ev s).scheduler = s.scheduler ∧ (monitorsStep ev s).alarms = s.alarms ∧
    (monitorsStep ev s).link = s.link ∧ (monitorsStep ev s).flash = s.flash ∧
    (monitorsStep ev s).pending = s.pending := by
  simp [monitorsStep]

@[simp] theorem agreementJudge_frame (s : State) :
    (agreementJudge s).part = s.part ∧ (agreementJudge s).time = s.time ∧
    (agreementJudge s).filter = s.filter ∧ (agreementJudge s).chain = s.chain ∧
    (agreementJudge s).scheduler = s.scheduler ∧ (agreementJudge s).link = s.link ∧
    (agreementJudge s).flash = s.flash ∧ (agreementJudge s).pending = s.pending := by
  unfold agreementJudge
  split
  · dsimp only
    split
    · split <;> simp
    · refine ⟨foldl_keeps State.part ?_ _ _, foldl_keeps State.time ?_ _ _, foldl_keeps State.filter ?_ _ _, foldl_keeps State.chain ?_ _ _, foldl_keeps State.scheduler ?_ _ _, foldl_keeps State.link ?_ _ _, foldl_keeps State.flash ?_ _ _, foldl_keeps State.pending ?_ _ _⟩ <;>
        intro s x <;> simp
  · simp

/-! ## Scheduler -/

@[simp] theorem enterAction_frame (k : Option ActionKind) (d : Nat) (a : Option Nat)
    (o : ActionSource) (s : State) :
    ((enterAction k d a o s).1).part = s.part ∧ ((enterAction k d a o s).1).refs = s.refs ∧
    ((enterAction k d a o s).1).filter = s.filter ∧
    ((enterAction k d a o s).1).selector = s.selector ∧
    ((enterAction k d a o s).1).servo = s.servo ∧
    ((enterAction k d a o s).1).holdover = s.holdover ∧
    ((enterAction k d a o s).1).ports = s.ports ∧ ((enterAction k d a o s).1).chain = s.chain ∧
    ((enterAction k d a o s).1).alarms = s.alarms ∧ ((enterAction k d a o s).1).link = s.link ∧
    ((enterAction k d a o s).1).flash = s.flash ∧ ((enterAction k d a o s).1).pending = s.pending := by
  dsimp only [enterAction]
  (repeat' split) <;> simp

@[simp] theorem byOffset_frame (a : Action) (s : State) :
    ((byOffset a s).1).part = s.part ∧ ((byOffset a s).1).refs = s.refs ∧
    ((byOffset a s).1).filter = s.filter ∧ ((byOffset a s).1).selector = s.selector ∧
    ((byOffset a s).1).servo = s.servo ∧ ((byOffset a s).1).holdover = s.holdover ∧
    ((byOffset a s).1).ports = s.ports ∧ ((byOffset a s).1).chain = s.chain ∧
    ((byOffset a s).1).scheduler = s.scheduler ∧ ((byOffset a s).1).alarms = s.alarms ∧
    ((byOffset a s).1).link = s.link ∧ ((byOffset a s).1).flash = s.flash ∧
    ((byOffset a s).1).pending = s.pending := by
  simp [byOffset]

@[simp] theorem takeEffect_frame (a : Action) (s : State) :
    ((takeEffect a s).1).part = s.part ∧ ((takeEffect a s).1).filter = s.filter ∧
    ((takeEffect a s).1).chain = s.chain ∧ ((takeEffect a s).1).scheduler = s.scheduler ∧
    ((takeEffect a s).1).link = s.link ∧ ((takeEffect a s).1).flash = s.flash ∧
    ((takeEffect a s).1).pending = s.pending := by
  unfold takeEffect byPort byMode
  (repeat' split) <;> simp

@[simp] theorem removeAction_frame (n : Nat) (s : State) :
    (removeAction n s).part = s.part ∧ (removeAction n s).refs = s.refs ∧
    (removeAction n s).filter = s.filter ∧ (removeAction n s).selector = s.selector ∧
    (removeAction n s).servo = s.servo ∧ (removeAction n s).holdover = s.holdover ∧
    (removeAction n s).ports = s.ports ∧ (removeAction n s).chain = s.chain ∧
    (removeAction n s).alarms = s.alarms ∧ (removeAction n s).link = s.link ∧
    (removeAction n s).flash = s.flash ∧ (removeAction n s).pending = s.pending := by
  simp [removeAction]

@[simp] theorem takeAction_frame (l : Bool) (s : State) (a : Action) :
    (takeAction l s a).part = s.part ∧ (takeAction l s a).filter = s.filter ∧
    (takeAction l s a).chain = s.chain ∧ (takeAction l s a).link = s.link ∧
    (takeAction l s a).flash = s.flash ∧ (takeAction l s a).pending = s.pending := by
  dsimp only [takeAction]
  (repeat' split) <;> simp

@[simp] theorem markDue_frame (n : Nat) (s : State) :
    (markDue n s).part = s.part ∧ (markDue n s).time = s.time ∧ (markDue n s).refs = s.refs ∧
    (markDue n s).filter = s.filter ∧ (markDue n s).selector = s.selector ∧
    (markDue n s).servo = s.servo ∧ (markDue n s).holdover = s.holdover ∧
    (markDue n s).ports = s.ports ∧ (markDue n s).chain = s.chain ∧
    (markDue n s).alarms = s.alarms ∧ (markDue n s).link = s.link ∧
    (markDue n s).flash = s.flash ∧ (markDue n s).pending = s.pending := by
  simp [markDue]

@[simp] theorem boundaryActions_frame (s : State) :
    (boundaryActions s).part = s.part ∧ (boundaryActions s).filter = s.filter ∧
    (boundaryActions s).chain = s.chain ∧ (boundaryActions s).link = s.link ∧
    (boundaryActions s).flash = s.flash ∧ (boundaryActions s).pending = s.pending := by
  unfold boundaryActions
  refine ⟨foldl_keeps State.part ?_ _ _, foldl_keeps State.filter ?_ _ _, foldl_keeps
    State.chain ?_ _ _, foldl_keeps State.link ?_ _ _, foldl_keeps State.flash ?_ _ _,
    foldl_keeps State.pending ?_ _ _⟩ <;>
    intro s x <;> simp

@[simp] theorem schedulerStep_frame (ev : StepEvent) (s : State) :
    (schedulerStep ev s).part = s.part ∧ (schedulerStep ev s).filter = s.filter ∧
    (schedulerStep ev s).chain = s.chain ∧ (schedulerStep ev s).link = s.link ∧
    (schedulerStep ev s).flash = s.flash ∧ (schedulerStep ev s).pending = s.pending := by
  unfold schedulerStep
  refine ⟨foldl_keeps State.part ?_ _ _, foldl_keeps State.filter ?_ _ _, foldl_keeps
    State.chain ?_ _ _, foldl_keeps State.link ?_ _ _, foldl_keeps State.flash ?_ _ _,
    foldl_keeps State.pending ?_ _ _⟩ <;>
    intro s x <;> simp

/-! ## Steps and the servo's update -/

@[simp] theorem presentStep_frame (ev : StepEvent) (s : State) :
    (presentStep ev s).part = s.part ∧ (presentStep ev s).link = s.link ∧
    (presentStep ev s).flash = s.flash ∧ (presentStep ev s).pending = s.pending := by
  simp [presentStep]

@[simp] theorem moveTime_frame (a : Int) (s : State) :
    (moveTime a s).part = s.part ∧ (moveTime a s).refs = s.refs ∧
    (moveTime a s).filter = s.filter ∧ (moveTime a s).selector = s.selector ∧
    (moveTime a s).servo = s.servo ∧ (moveTime a s).holdover = s.holdover ∧
    (moveTime a s).ports = s.ports ∧ (moveTime a s).chain = s.chain ∧
    (moveTime a s).scheduler = s.scheduler ∧ (moveTime a s).alarms = s.alarms ∧
    (moveTime a s).link = s.link ∧ (moveTime a s).flash = s.flash ∧
    (moveTime a s).pending = s.pending := by
  simp [moveTime]

@[simp] theorem performStep_frame (k : StepKind) (a : Int) (s : State) :
    (performStep k a s).part = s.part ∧ (performStep k a s).link = s.link ∧
    (performStep k a s).flash = s.flash ∧ (performStep k a s).pending = s.pending := by
  dsimp only [performStep]
  (repeat' split) <;> simp

@[simp] theorem timeGiven_frame (s : State) :
    (timeGiven s).part = s.part ∧ (timeGiven s).time = s.time ∧ (timeGiven s).refs = s.refs ∧
    (timeGiven s).filter = s.filter ∧ (timeGiven s).selector = s.selector ∧
    (timeGiven s).servo = s.servo ∧ (timeGiven s).chain = s.chain ∧
    (timeGiven s).scheduler = s.scheduler ∧ (timeGiven s).link = s.link ∧
    (timeGiven s).flash = s.flash ∧ (timeGiven s).pending = s.pending := by
  simp [timeGiven]

@[simp] theorem timeSetting_frame (k : Slot) (d : Int) (s : State) :
    (timeSetting k d s).part = s.part ∧ (timeSetting k d s).link = s.link ∧
    (timeSetting k d s).flash = s.flash ∧ (timeSetting k d s).pending = s.pending := by
  dsimp only [timeSetting]
  (repeat' split) <;> simp

@[simp] theorem writeMove_frame (m : Move) (s : State) :
    (writeMove m s).part = s.part ∧ (writeMove m s).refs = s.refs ∧
    (writeMove m s).filter = s.filter ∧ (writeMove m s).selector = s.selector ∧
    (writeMove m s).holdover = s.holdover ∧ (writeMove m s).ports = s.ports ∧
    (writeMove m s).chain = s.chain ∧ (writeMove m s).scheduler = s.scheduler ∧
    (writeMove m s).alarms = s.alarms ∧ (writeMove m s).link = s.link ∧
    (writeMove m s).flash = s.flash ∧ (writeMove m s).pending = s.pending := by
  simp [writeMove]

@[simp] theorem countPull_frame (b : Bool) (s : State) :
    (countPull b s).part = s.part ∧ (countPull b s).time = s.time ∧ (countPull b s).refs = s.refs ∧
    (countPull b s).filter = s.filter ∧ (countPull b s).selector = s.selector ∧
    (countPull b s).holdover = s.holdover ∧ (countPull b s).ports = s.ports ∧
    (countPull b s).chain = s.chain ∧ (countPull b s).scheduler = s.scheduler ∧
    (countPull b s).link = s.link ∧ (countPull b s).flash = s.flash ∧
    (countPull b s).pending = s.pending := by
  simp [countPull]

@[simp] theorem judgeAcquiring_frame (e : Int) (s : State) :
    (judgeAcquiring e s).part = s.part ∧ (judgeAcquiring e s).time = s.time ∧
    (judgeAcquiring e s).filter = s.filter ∧ (judgeAcquiring e s).selector = s.selector ∧
    (judgeAcquiring e s).chain = s.chain ∧ (judgeAcquiring e s).scheduler = s.scheduler ∧
    (judgeAcquiring e s).link = s.link ∧ (judgeAcquiring e s).flash = s.flash ∧
    (judgeAcquiring e s).pending = s.pending := by
  dsimp only [judgeAcquiring]
  (repeat' split) <;> simp

@[simp] theorem judgeLocked_frame (e : Int) (s : State) :
    (judgeLocked e s).part = s.part ∧ (judgeLocked e s).time = s.time ∧
    (judgeLocked e s).filter = s.filter ∧ (judgeLocked e s).selector = s.selector ∧
    (judgeLocked e s).chain = s.chain ∧ (judgeLocked e s).scheduler = s.scheduler ∧
    (judgeLocked e s).link = s.link ∧ (judgeLocked e s).flash = s.flash ∧
    (judgeLocked e s).pending = s.pending := by
  dsimp only [judgeLocked]
  (repeat' split) <;> simp

@[simp] theorem firstUpdate_frame (e : Int) (s : State) :
    (firstUpdate e s).part = s.part ∧ (firstUpdate e s).time = s.time ∧
    (firstUpdate e s).filter = s.filter ∧ (firstUpdate e s).selector = s.selector ∧
    (firstUpdate e s).chain = s.chain ∧ (firstUpdate e s).scheduler = s.scheduler ∧
    (firstUpdate e s).link = s.link ∧ (firstUpdate e s).flash = s.flash ∧
    (firstUpdate e s).pending = s.pending := by
  dsimp only [firstUpdate]
  (repeat' split) <;> simp

@[simp] theorem phaseStepUpdate_frame (e : Int) (s : State) :
    ((phaseStepUpdate e s).result).part = s.part ∧ ((phaseStepUpdate e s).result).link = s.link ∧
    ((phaseStepUpdate e s).result).flash = s.flash ∧
    ((phaseStepUpdate e s).result).pending = s.pending := by
  simp [phaseStepUpdate]

@[simp] theorem slewUpdate_frame (e : Int) (l : Nat) (s : State) :
    ((slewUpdate e l s).result).part = s.part ∧ ((slewUpdate e l s).result).filter = s.filter ∧
    ((slewUpdate e l s).result).selector = s.selector ∧
    ((slewUpdate e l s).result).chain = s.chain ∧
    ((slewUpdate e l s).result).scheduler = s.scheduler ∧
    ((slewUpdate e l s).result).link = s.link ∧ ((slewUpdate e l s).result).flash = s.flash ∧
    ((slewUpdate e l s).result).pending = s.pending := by
  unfold slewUpdate
  dsimp only
  split <;> simp

@[simp] theorem phaseUpdate_frame (e : Int) (l : Nat) (s : State) :
    ((phaseUpdate e l s).result).part = s.part ∧ ((phaseUpdate e l s).result).link = s.link ∧
    ((phaseUpdate e l s).result).flash = s.flash ∧
    ((phaseUpdate e l s).result).pending = s.pending := by
  dsimp only [phaseUpdate]
  (repeat' split) <;> simp

@[simp] theorem freqUpdate_frame (e : Int) (s : State) :
    ((freqUpdate e s).result).part = s.part ∧ ((freqUpdate e s).result).refs = s.refs ∧
    ((freqUpdate e s).result).filter = s.filter ∧ ((freqUpdate e s).result).selector = s.selector ∧
    ((freqUpdate e s).result).holdover = s.holdover ∧ ((freqUpdate e s).result).ports = s.ports ∧
    ((freqUpdate e s).result).chain = s.chain ∧ ((freqUpdate e s).result).scheduler = s.scheduler ∧
    ((freqUpdate e s).result).link = s.link ∧ ((freqUpdate e s).result).flash = s.flash ∧
    ((freqUpdate e s).result).pending = s.pending := by
  simp [freqUpdate]

@[simp] theorem secondsUpdate_frame (d : Int) (s : State) :
    ((secondsUpdate d s).result).part = s.part ∧ ((secondsUpdate d s).result).link = s.link ∧
    ((secondsUpdate d s).result).flash = s.flash ∧
    ((secondsUpdate d s).result).pending = s.pending := by
  simp [secondsUpdate]

@[simp] theorem recordHandoff_frame (k : Slot) (m : Measurement) (s : State) :
    (recordHandoff k m s).part = s.part ∧ (recordHandoff k m s).time = s.time ∧
    (recordHandoff k m s).refs = s.refs ∧ (recordHandoff k m s).filter = s.filter ∧
    (recordHandoff k m s).selector = s.selector ∧ (recordHandoff k m s).holdover = s.holdover ∧
    (recordHandoff k m s).ports = s.ports ∧ (recordHandoff k m s).chain = s.chain ∧
    (recordHandoff k m s).scheduler = s.scheduler ∧ (recordHandoff k m s).alarms = s.alarms ∧
    (recordHandoff k m s).link = s.link ∧ (recordHandoff k m s).flash = s.flash ∧
    (recordHandoff k m s).pending = s.pending := by
  simp [recordHandoff]

theorem reportUpdate_keeps (k : Slot) (v : Int) (l : Nat) (b : State) (u : Update)
    (s : State)
    (hp : u.result.part = s.part) (hl : u.result.link = s.link) (hf : u.result.flash = s.flash)
    (hq : u.result.pending = s.pending) :
    (reportUpdate k v l b u).part = s.part ∧ (reportUpdate k v l b u).link = s.link ∧
    (reportUpdate k v l b u).flash = s.flash ∧ (reportUpdate k v l b u).pending = s.pending := by
  simp [reportUpdate, hp, hl, hf, hq]

@[simp] theorem handoffUpdate_frame (k : Slot) (m : Measurement) (l : Nat) (b : Bool)
    (s : State) :
    (handoffUpdate k m l b s).part = s.part ∧ (handoffUpdate k m l b s).link = s.link ∧
    (handoffUpdate k m l b s).flash = s.flash ∧ (handoffUpdate k m l b s).pending = s.pending := by
  dsimp only [handoffUpdate, servoUpdate]
  split
  · rename_i u hu
    apply reportUpdate_keeps <;>
    · (repeat' split at hu) <;> simp_all <;> subst hu <;> simp
  · simp

@[simp] theorem handoff_frame (k : Slot) (m : Measurement) (b : Bool) (s : State) :
    (handoff k m b s).part = s.part ∧ (handoff k m b s).link = s.link ∧
    (handoff k m b s).flash = s.flash ∧ (handoff k m b s).pending = s.pending := by
  dsimp only [handoff]
  (repeat' split) <;> simp

/-! ## Measurements -/

@[simp] theorem wanderJudge_frame (k : Slot) (v : Int) (s : State) :
    (wanderJudge k v s).part = s.part ∧ (wanderJudge k v s).time = s.time ∧
    (wanderJudge k v s).filter = s.filter ∧ (wanderJudge k v s).chain = s.chain ∧
    (wanderJudge k v s).scheduler = s.scheduler ∧ (wanderJudge k v s).link = s.link ∧
    (wanderJudge k v s).flash = s.flash ∧ (wanderJudge k v s).pending = s.pending := by
  dsimp only [wanderJudge]
  (repeat' split) <;> simp

@[simp] theorem recordMeasurement_frame (k : Slot) (x : Measurement) (s : State) :
    (recordMeasurement k x s).part = s.part ∧ (recordMeasurement k x s).time = s.time ∧
    (recordMeasurement k x s).filter = s.filter ∧ (recordMeasurement k x s).chain = s.chain ∧
    (recordMeasurement k x s).scheduler = s.scheduler ∧ (recordMeasurement k x s).link = s.link ∧
    (recordMeasurement k x s).flash = s.flash ∧ (recordMeasurement k x s).pending = s.pending := by
  dsimp only [recordMeasurement]
  (repeat' split) <;> simp

@[simp] theorem timeCheck_frame (k : Slot) (x : Measurement) (s : State) :
    ((timeCheck k x s).1).part = s.part ∧ ((timeCheck k x s).1).time = s.time ∧
    ((timeCheck k x s).1).filter = s.filter ∧ ((timeCheck k x s).1).chain = s.chain ∧
    ((timeCheck k x s).1).scheduler = s.scheduler ∧ ((timeCheck k x s).1).link = s.link ∧
    ((timeCheck k x s).1).flash = s.flash ∧ ((timeCheck k x s).1).pending = s.pending := by
  dsimp only [timeCheck]
  (repeat' split) <;> simp

@[simp] theorem agreementRun_frame (k : Slot) (v : Int) (s : State) :
    (agreementRun k v s).part = s.part ∧ (agreementRun k v s).time = s.time ∧
    (agreementRun k v s).filter = s.filter ∧ (agreementRun k v s).selector = s.selector ∧
    (agreementRun k v s).servo = s.servo ∧ (agreementRun k v s).holdover = s.holdover ∧
    (agreementRun k v s).ports = s.ports ∧ (agreementRun k v s).chain = s.chain ∧
    (agreementRun k v s).scheduler = s.scheduler ∧ (agreementRun k v s).alarms = s.alarms ∧
    (agreementRun k v s).link = s.link ∧ (agreementRun k v s).flash = s.flash ∧
    (agreementRun k v s).pending = s.pending := by
  dsimp only [agreementRun]
  (repeat' split) <;> simp

@[simp] theorem checkMeasurement_frame (k : Slot) (x : Measurement) (s : State) :
    (checkMeasurement k x s).part = s.part ∧ (checkMeasurement k x s).link = s.link ∧
    (checkMeasurement k x s).flash = s.flash ∧ (checkMeasurement k x s).pending = s.pending := by
  dsimp only [checkMeasurement]
  (repeat' split) <;> simp

@[simp] theorem takeMeasurement_frame (k : Slot) (x : Measurement) (s : State) :
    (takeMeasurement k x s).part = s.part ∧ (takeMeasurement k x s).link = s.link ∧
    (takeMeasurement k x s).flash = s.flash ∧ (takeMeasurement k x s).pending = s.pending := by
  dsimp only [takeMeasurement]
  (repeat' split) <;> simp

/-! ## Sample filter -/

@[simp] theorem judgeSample_frame (x : Sample) (s : State) :
    ((judgeSample x s).1).part = s.part ∧ ((judgeSample x s).1).time = s.time ∧
    ((judgeSample x s).1).chain = s.chain ∧ ((judgeSample x s).1).scheduler = s.scheduler ∧
    ((judgeSample x s).1).link = s.link ∧ ((judgeSample x s).1).flash = s.flash ∧
    ((judgeSample x s).1).pending = s.pending := by
  dsimp only [judgeSample]
  (repeat' split) <;> simp

@[simp] theorem filterBoundary_frame (n : Nat) (s : State) :
    (filterBoundary n s).part = s.part ∧ (filterBoundary n s).link = s.link ∧
    (filterBoundary n s).flash = s.flash ∧ (filterBoundary n s).pending = s.pending := by
  dsimp only [filterBoundary]
  (repeat' split) <;> simp

/-! ## Chain -/

@[simp] theorem modChain_frame (f : ChainUnit → ChainUnit) (s : State) :
    (modChain f s).part = s.part ∧ (modChain f s).time = s.time ∧ (modChain f s).refs = s.refs ∧
    (modChain f s).filter = s.filter ∧ (modChain f s).selector = s.selector ∧
    (modChain f s).servo = s.servo ∧ (modChain f s).holdover = s.holdover ∧
    (modChain f s).ports = s.ports ∧ (modChain f s).scheduler = s.scheduler ∧
    (modChain f s).alarms = s.alarms ∧ (modChain f s).link = s.link ∧
    (modChain f s).flash = s.flash ∧ (modChain f s).pending = s.pending := by
  simp [modChain]

@[simp] theorem modRecord_frame (p : ChainPort) (f : ChainRecord → ChainRecord) (s : State) :
    (modRecord p f s).part = s.part ∧ (modRecord p f s).time = s.time ∧
    (modRecord p f s).refs = s.refs ∧ (modRecord p f s).filter = s.filter ∧
    (modRecord p f s).selector = s.selector ∧ (modRecord p f s).servo = s.servo ∧
    (modRecord p f s).holdover = s.holdover ∧ (modRecord p f s).ports = s.ports ∧
    (modRecord p f s).scheduler = s.scheduler ∧ (modRecord p f s).alarms = s.alarms ∧
    (modRecord p f s).link = s.link ∧ (modRecord p f s).flash = s.flash ∧
    (modRecord p f s).pending = s.pending := by
  simp [modRecord]

@[simp] theorem chainConditions_frame (s : State) :
    (chainConditions s).part = s.part ∧ (chainConditions s).time = s.time ∧
    (chainConditions s).refs = s.refs ∧ (chainConditions s).filter = s.filter ∧
    (chainConditions s).selector = s.selector ∧ (chainConditions s).servo = s.servo ∧
    (chainConditions s).holdover = s.holdover ∧ (chainConditions s).ports = s.ports ∧
    (chainConditions s).chain = s.chain ∧ (chainConditions s).scheduler = s.scheduler ∧
    (chainConditions s).link = s.link ∧ (chainConditions s).flash = s.flash ∧
    (chainConditions s).pending = s.pending := by
  simp [chainConditions]

@[simp] theorem captureMarker_frame (p : ChainPort) (s : State) :
    (captureMarker p s).part = s.part ∧ (captureMarker p s).time = s.time ∧
    (captureMarker p s).refs = s.refs ∧ (captureMarker p s).filter = s.filter ∧
    (captureMarker p s).selector = s.selector ∧ (captureMarker p s).servo = s.servo ∧
    (captureMarker p s).holdover = s.holdover ∧ (captureMarker p s).ports = s.ports ∧
    (captureMarker p s).scheduler = s.scheduler ∧ (captureMarker p s).alarms = s.alarms ∧
    (captureMarker p s).link = s.link ∧ (captureMarker p s).flash = s.flash ∧
    (captureMarker p s).pending = s.pending := by
  dsimp only [captureMarker]
  (repeat' split) <;> simp

@[simp] theorem actOnCommand_frame (c : ChainCommand) (s : State) :
    ((actOnCommand c s).1).part = s.part ∧ ((actOnCommand c s).1).filter = s.filter ∧
    ((actOnCommand c s).1).chain = s.chain ∧ ((actOnCommand c s).1).link = s.link ∧
    ((actOnCommand c s).1).flash = s.flash ∧ ((actOnCommand c s).1).pending = s.pending := by
  dsimp only [actOnCommand]
  (repeat' split) <;> simp

@[simp] theorem takeCommand_frame (c : ChainCommand) (s : State) :
    (takeCommand c s).part = s.part ∧ (takeCommand c s).filter = s.filter ∧
    (takeCommand c s).link = s.link ∧ (takeCommand c s).flash = s.flash ∧
    (takeCommand c s).pending = s.pending := by
  dsimp only [takeCommand]
  (repeat' split) <;> simp

@[simp] theorem takeFrameCommand_frame (f : TimeFrame) (s : State) :
    (takeFrameCommand f s).part = s.part ∧ (takeFrameCommand f s).filter = s.filter ∧
    (takeFrameCommand f s).link = s.link ∧ (takeFrameCommand f s).flash = s.flash ∧
    (takeFrameCommand f s).pending = s.pending := by
  dsimp only [takeFrameCommand]
  (repeat' split) <;> simp

@[simp] theorem takeWord_frame (w : Word32) (o : Nat) (s : State) :
    (takeWord w o s).part = s.part ∧ (takeWord w o s).time = s.time ∧
    (takeWord w o s).refs = s.refs ∧ (takeWord w o s).filter = s.filter ∧
    (takeWord w o s).selector = s.selector ∧ (takeWord w o s).servo = s.servo ∧
    (takeWord w o s).holdover = s.holdover ∧ (takeWord w o s).ports = s.ports ∧
    (takeWord w o s).scheduler = s.scheduler ∧ (takeWord w o s).link = s.link ∧
    (takeWord w o s).flash = s.flash ∧ (takeWord w o s).pending = s.pending := by
  dsimp only [takeWord]
  (repeat' split) <;> simp

@[simp] theorem takeFrameWord_frame (f : TimeFrame) (s : State) :
    (takeFrameWord f s).part = s.part ∧ (takeFrameWord f s).time = s.time ∧
    (takeFrameWord f s).refs = s.refs ∧ (takeFrameWord f s).filter = s.filter ∧
    (takeFrameWord f s).selector = s.selector ∧ (takeFrameWord f s).servo = s.servo ∧
    (takeFrameWord f s).holdover = s.holdover ∧ (takeFrameWord f s).ports = s.ports ∧
    (takeFrameWord f s).scheduler = s.scheduler ∧ (takeFrameWord f s).link = s.link ∧
    (takeFrameWord f s).flash = s.flash ∧ (takeFrameWord f s).pending = s.pending := by
  dsimp only [takeFrameWord]
  (repeat' split) <;> simp

@[simp] theorem chainMonitorTakes_frame (p : ChainPort) (f : TimeFrame) (c : Option Int)
    (s : State) :
    (chainMonitorTakes p f c s).part = s.part ∧ (chainMonitorTakes p f c s).link = s.link ∧
    (chainMonitorTakes p f c s).flash = s.flash ∧ (chainMonitorTakes p f c s).pending = s.pending := by
  dsimp only [chainMonitorTakes]
  (repeat' split) <;> simp

@[simp] theorem upstreamTakes_frame (p : ChainPort) (f : TimeFrame) (c : Option Int)
    (b : Bool) (s : State) :
    (upstreamTakes p f c b s).part = s.part ∧ (upstreamTakes p f c b s).link = s.link ∧
    (upstreamTakes p f c b s).flash = s.flash ∧ (upstreamTakes p f c b s).pending = s.pending := by
  dsimp only [upstreamTakes]
  (repeat' split) <;> simp

@[simp] theorem memberDiscards_frame (p : ChainPort) (f : TimeFrame) (s : State) :
    (memberDiscards p f s).part = s.part ∧ (memberDiscards p f s).time = s.time ∧
    (memberDiscards p f s).refs = s.refs ∧ (memberDiscards p f s).filter = s.filter ∧
    (memberDiscards p f s).selector = s.selector ∧ (memberDiscards p f s).servo = s.servo ∧
    (memberDiscards p f s).holdover = s.holdover ∧ (memberDiscards p f s).ports = s.ports ∧
    (memberDiscards p f s).scheduler = s.scheduler ∧ (memberDiscards p f s).link = s.link ∧
    (memberDiscards p f s).flash = s.flash ∧ (memberDiscards p f s).pending = s.pending := by
  dsimp only [memberDiscards]
  (repeat' split) <;> simp

@[simp] theorem memberTakes_frame (p : ChainPort) (f : TimeFrame) (c : Option Int) (b : Bool)
    (s : State) :
    (memberTakes p f c b s).part = s.part ∧ (memberTakes p f c b s).link = s.link ∧
    (memberTakes p f c b s).flash = s.flash ∧ (memberTakes p f c b s).pending = s.pending := by
  dsimp only [memberTakes]
  (repeat' split) <;> simp

@[simp] theorem leaderTakes_frame (p : ChainPort) (f : TimeFrame) (s : State) :
    (leaderTakes p f s).part = s.part ∧ (leaderTakes p f s).time = s.time ∧
    (leaderTakes p f s).refs = s.refs ∧ (leaderTakes p f s).filter = s.filter ∧
    (leaderTakes p f s).selector = s.selector ∧ (leaderTakes p f s).servo = s.servo ∧
    (leaderTakes p f s).holdover = s.holdover ∧ (leaderTakes p f s).ports = s.ports ∧
    (leaderTakes p f s).scheduler = s.scheduler ∧ (leaderTakes p f s).link = s.link ∧
    (leaderTakes p f s).flash = s.flash ∧ (leaderTakes p f s).pending = s.pending := by
  dsimp only [leaderTakes]
  (repeat' split) <;> simp

@[simp] theorem receiveFrame_frame (p : ChainPort) (l : List Byte) (b : Bool) (s : State) :
    (receiveFrame p l b s).part = s.part ∧ (receiveFrame p l b s).link = s.link ∧
    (receiveFrame p l b s).flash = s.flash ∧ (receiveFrame p l b s).pending = s.pending := by
  dsimp only [receiveFrame]
  (repeat' split) <;> simp

@[simp] theorem sentNotices_frame (x : Carried) (s : State) :
    (sentNotices x s).part = s.part ∧ (sentNotices x s).time = s.time ∧
    (sentNotices x s).refs = s.refs ∧ (sentNotices x s).filter = s.filter ∧
    (sentNotices x s).selector = s.selector ∧ (sentNotices x s).servo = s.servo ∧
    (sentNotices x s).holdover = s.holdover ∧ (sentNotices x s).ports = s.ports ∧
    (sentNotices x s).chain = s.chain ∧ (sentNotices x s).scheduler = s.scheduler ∧
    (sentNotices x s).link = s.link ∧ (sentNotices x s).flash = s.flash ∧
    (sentNotices x s).pending = s.pending := by
  dsimp only [sentNotices]
  (repeat' split) <;> simp

@[simp] theorem composeFrame_frame (r : SecondRecord) (d : FrameDue) (s : State) :
    (composeFrame r d s).part = s.part ∧ (composeFrame r d s).time = s.time ∧
    (composeFrame r d s).refs = s.refs ∧ (composeFrame r d s).filter = s.filter ∧
    (composeFrame r d s).selector = s.selector ∧ (composeFrame r d s).servo = s.servo ∧
    (composeFrame r d s).holdover = s.holdover ∧ (composeFrame r d s).ports = s.ports ∧
    (composeFrame r d s).scheduler = s.scheduler ∧ (composeFrame r d s).link = s.link ∧
    (composeFrame r d s).flash = s.flash ∧ (composeFrame r d s).pending = s.pending := by
  simp [composeFrame]

@[simp] theorem composeDue_frame (s : State) :
    (composeDue s).part = s.part ∧ (composeDue s).time = s.time ∧ (composeDue s).refs = s.refs ∧
    (composeDue s).filter = s.filter ∧ (composeDue s).selector = s.selector ∧
    (composeDue s).servo = s.servo ∧ (composeDue s).holdover = s.holdover ∧
    (composeDue s).ports = s.ports ∧ (composeDue s).scheduler = s.scheduler ∧
    (composeDue s).link = s.link ∧ (composeDue s).flash = s.flash ∧
    (composeDue s).pending = s.pending := by
  dsimp only [composeDue]
  (repeat' split) <;> simp

@[simp] theorem chainSend_frame (n : Nat) (s : State) :
    (chainSend n s).part = s.part ∧ (chainSend n s).time = s.time ∧ (chainSend n s).refs = s.refs ∧
    (chainSend n s).filter = s.filter ∧ (chainSend n s).selector = s.selector ∧
    (chainSend n s).servo = s.servo ∧ (chainSend n s).holdover = s.holdover ∧
    (chainSend n s).ports = s.ports ∧ (chainSend n s).scheduler = s.scheduler ∧
    (chainSend n s).link = s.link ∧ (chainSend n s).flash = s.flash ∧
    (chainSend n s).pending = s.pending := by
  dsimp only [chainSend]
  (repeat' split) <;> simp

@[simp] theorem changeUpstream_frame (p : Option ChainPort) (r : PathReason) (s : State) :
    (changeUpstream p r s).part = s.part ∧ (changeUpstream p r s).time = s.time ∧
    (changeUpstream p r s).filter = s.filter ∧ (changeUpstream p r s).selector = s.selector ∧
    (changeUpstream p r s).servo = s.servo ∧ (changeUpstream p r s).holdover = s.holdover ∧
    (changeUpstream p r s).ports = s.ports ∧ (changeUpstream p r s).scheduler = s.scheduler ∧
    (changeUpstream p r s).link = s.link ∧ (changeUpstream p r s).flash = s.flash ∧
    (changeUpstream p r s).pending = s.pending := by
  dsimp only [changeUpstream]
  (repeat' split) <;> simp

@[simp] theorem detach_frame (s : State) :
    (detach s).part = s.part ∧ (detach s).time = s.time ∧ (detach s).filter = s.filter ∧
    (detach s).selector = s.selector ∧ (detach s).servo = s.servo ∧
    (detach s).holdover = s.holdover ∧ (detach s).ports = s.ports ∧
    (detach s).scheduler = s.scheduler ∧ (detach s).link = s.link ∧ (detach s).flash = s.flash ∧
    (detach s).pending = s.pending := by
  simp [detach]

@[simp] theorem judgeUnattached_frame (s : State) :
    (judgeUnattached s).part = s.part ∧ (judgeUnattached s).time = s.time ∧
    (judgeUnattached s).filter = s.filter ∧ (judgeUnattached s).selector = s.selector ∧
    (judgeUnattached s).servo = s.servo ∧ (judgeUnattached s).holdover = s.holdover ∧
    (judgeUnattached s).ports = s.ports ∧ (judgeUnattached s).scheduler = s.scheduler ∧
    (judgeUnattached s).link = s.link ∧ (judgeUnattached s).flash = s.flash ∧
    (judgeUnattached s).pending = s.pending := by
  dsimp only [judgeUnattached]
  (repeat' split) <;> simp

@[simp] theorem judgeLoss_frame (p : ChainPort) (s : State) :
    (judgeLoss p s).part = s.part ∧ (judgeLoss p s).time = s.time ∧
    (judgeLoss p s).filter = s.filter ∧ (judgeLoss p s).selector = s.selector ∧
    (judgeLoss p s).servo = s.servo ∧ (judgeLoss p s).holdover = s.holdover ∧
    (judgeLoss p s).ports = s.ports ∧ (judgeLoss p s).scheduler = s.scheduler ∧
    (judgeLoss p s).link = s.link ∧ (judgeLoss p s).flash = s.flash ∧
    (judgeLoss p s).pending = s.pending := by
  dsimp only [judgeLoss]
  (repeat' split) <;> simp

@[simp] theorem judgeGrade_frame (p : ChainPort) (s : State) :
    (judgeGrade p s).part = s.part ∧ (judgeGrade p s).time = s.time ∧
    (judgeGrade p s).filter = s.filter ∧ (judgeGrade p s).selector = s.selector ∧
    (judgeGrade p s).servo = s.servo ∧ (judgeGrade p s).holdover = s.holdover ∧
    (judgeGrade p s).ports = s.ports ∧ (judgeGrade p s).scheduler = s.scheduler ∧
    (judgeGrade p s).link = s.link ∧ (judgeGrade p s).flash = s.flash ∧
    (judgeGrade p s).pending = s.pending := by
  dsimp only [judgeGrade]
  (repeat' split) <;> simp

@[simp] theorem judgeUpstream_frame (s : State) :
    (judgeUpstream s).part = s.part ∧ (judgeUpstream s).time = s.time ∧
    (judgeUpstream s).filter = s.filter ∧ (judgeUpstream s).selector = s.selector ∧
    (judgeUpstream s).servo = s.servo ∧ (judgeUpstream s).holdover = s.holdover ∧
    (judgeUpstream s).ports = s.ports ∧ (judgeUpstream s).scheduler = s.scheduler ∧
    (judgeUpstream s).link = s.link ∧ (judgeUpstream s).flash = s.flash ∧
    (judgeUpstream s).pending = s.pending := by
  dsimp only [judgeUpstream]
  (repeat' split) <;> simp

@[simp] theorem swapActs_frame (r : PathReason) (s : State) :
    (swapActs r s).part = s.part ∧ (swapActs r s).time = s.time ∧
    (swapActs r s).filter = s.filter ∧ (swapActs r s).selector = s.selector ∧
    (swapActs r s).servo = s.servo ∧ (swapActs r s).holdover = s.holdover ∧
    (swapActs r s).ports = s.ports ∧ (swapActs r s).scheduler = s.scheduler ∧
    (swapActs r s).link = s.link ∧ (swapActs r s).flash = s.flash ∧
    (swapActs r s).pending = s.pending := by
  dsimp only [swapActs]
  (repeat' split) <;> simp

@[simp] theorem sendWaiting_frame (s : State) :
    (sendWaiting s).part = s.part ∧ (sendWaiting s).time = s.time ∧ (sendWaiting s).refs = s.refs ∧
    (sendWaiting s).filter = s.filter ∧ (sendWaiting s).selector = s.selector ∧
    (sendWaiting s).servo = s.servo ∧ (sendWaiting s).holdover = s.holdover ∧
    (sendWaiting s).ports = s.ports ∧ (sendWaiting s).scheduler = s.scheduler ∧
    (sendWaiting s).link = s.link ∧ (sendWaiting s).flash = s.flash ∧
    (sendWaiting s).pending = s.pending := by
  dsimp only [sendWaiting]
  (repeat' split) <;> simp

@[simp] theorem swapExpires_frame (s : State) :
    (swapExpires s).part = s.part ∧ (swapExpires s).time = s.time ∧
    (swapExpires s).filter = s.filter ∧ (swapExpires s).selector = s.selector ∧
    (swapExpires s).servo = s.servo ∧ (swapExpires s).holdover = s.holdover ∧
    (swapExpires s).ports = s.ports ∧ (swapExpires s).scheduler = s.scheduler ∧
    (swapExpires s).link = s.link ∧ (swapExpires s).flash = s.flash ∧
    (swapExpires s).pending = s.pending := by
  dsimp only [swapExpires]
  (repeat' split) <;> simp

@[simp] theorem chainEpoch_frame (b : Bool) (s : State) :
    (chainEpoch b s).part = s.part ∧ (chainEpoch b s).time = s.time ∧
    (chainEpoch b s).filter = s.filter ∧ (chainEpoch b s).chain = s.chain ∧
    (chainEpoch b s).scheduler = s.scheduler ∧ (chainEpoch b s).link = s.link ∧
    (chainEpoch b s).flash = s.flash ∧ (chainEpoch b s).pending = s.pending := by
  dsimp only [chainEpoch]
  (repeat' split) <;> simp

@[simp] theorem sendOrWait_frame (n : Nat) (s : State) :
    (sendOrWait n s).part = s.part ∧ (sendOrWait n s).time = s.time ∧
    (sendOrWait n s).refs = s.refs ∧ (sendOrWait n s).filter = s.filter ∧
    (sendOrWait n s).selector = s.selector ∧ (sendOrWait n s).servo = s.servo ∧
    (sendOrWait n s).holdover = s.holdover ∧ (sendOrWait n s).ports = s.ports ∧
    (sendOrWait n s).scheduler = s.scheduler ∧ (sendOrWait n s).link = s.link ∧
    (sendOrWait n s).flash = s.flash ∧ (sendOrWait n s).pending = s.pending := by
  dsimp only [sendOrWait]
  (repeat' split) <;> simp

@[simp] theorem chainBoundary_frame (n : Nat) (s : State) :
    (chainBoundary n s).part = s.part ∧ (chainBoundary n s).time = s.time ∧
    (chainBoundary n s).filter = s.filter ∧ (chainBoundary n s).scheduler = s.scheduler ∧
    (chainBoundary n s).link = s.link ∧ (chainBoundary n s).flash = s.flash ∧
    (chainBoundary n s).pending = s.pending := by
  dsimp only [chainBoundary]
  (repeat' split) <;> simp

@[simp] theorem conflictExpires_frame (s : State) :
    (conflictExpires s).part = s.part ∧ (conflictExpires s).time = s.time ∧
    (conflictExpires s).refs = s.refs ∧ (conflictExpires s).filter = s.filter ∧
    (conflictExpires s).selector = s.selector ∧ (conflictExpires s).servo = s.servo ∧
    (conflictExpires s).holdover = s.holdover ∧ (conflictExpires s).ports = s.ports ∧
    (conflictExpires s).scheduler = s.scheduler ∧ (conflictExpires s).link = s.link ∧
    (conflictExpires s).flash = s.flash ∧ (conflictExpires s).pending = s.pending := by
  dsimp only [conflictExpires]
  (repeat' split) <;> simp

@[simp] theorem tooLongExpires_frame (s : State) :
    (tooLongExpires s).part = s.part ∧ (tooLongExpires s).time = s.time ∧
    (tooLongExpires s).refs = s.refs ∧ (tooLongExpires s).filter = s.filter ∧
    (tooLongExpires s).selector = s.selector ∧ (tooLongExpires s).servo = s.servo ∧
    (tooLongExpires s).holdover = s.holdover ∧ (tooLongExpires s).ports = s.ports ∧
    (tooLongExpires s).scheduler = s.scheduler ∧ (tooLongExpires s).link = s.link ∧
    (tooLongExpires s).flash = s.flash ∧ (tooLongExpires s).pending = s.pending := by
  dsimp only [tooLongExpires]
  (repeat' split) <;> simp

@[simp] theorem configureChain_frame (c : ChainConfig) (s : State) :
    (configureChain c s).part = s.part ∧ (configureChain c s).time = s.time ∧
    (configureChain c s).filter = s.filter ∧ (configureChain c s).selector = s.selector ∧
    (configureChain c s).servo = s.servo ∧ (configureChain c s).holdover = s.holdover ∧
    (configureChain c s).ports = s.ports ∧ (configureChain c s).scheduler = s.scheduler ∧
    (configureChain c s).link = s.link ∧ (configureChain c s).flash = s.flash ∧
    (configureChain c s).pending = s.pending := by
  dsimp only [configureChain]
  (repeat' split) <;> simp

/-! ## The count, expiries and boundaries -/

@[simp] theorem countPicos_frame (n : Nat) (s : State) :
    (countPicos n s).part = s.part ∧ (countPicos n s).filter = s.filter ∧
    (countPicos n s).selector = s.selector ∧ (countPicos n s).servo = s.servo ∧
    (countPicos n s).holdover = s.holdover ∧ (countPicos n s).ports = s.ports ∧
    (countPicos n s).chain = s.chain ∧ (countPicos n s).scheduler = s.scheduler ∧
    (countPicos n s).alarms = s.alarms ∧ (countPicos n s).link = s.link ∧
    (countPicos n s).flash = s.flash ∧ (countPicos n s).pending = s.pending := by
  simp [countPicos]

@[simp] theorem runTo_frame (n : Nat) (s : State) :
    (runTo n s).part = s.part ∧ (runTo n s).filter = s.filter ∧ (runTo n s).selector = s.selector ∧
    (runTo n s).servo = s.servo ∧ (runTo n s).holdover = s.holdover ∧ (runTo n s).ports = s.ports ∧
    (runTo n s).chain = s.chain ∧ (runTo n s).scheduler = s.scheduler ∧
    (runTo n s).alarms = s.alarms ∧ (runTo n s).link = s.link ∧ (runTo n s).flash = s.flash ∧
    (runTo n s).pending = s.pending := by
  dsimp only [runTo]
  (repeat' split) <;> simp

@[simp] theorem slotExpiries_frame (s : State) (k : Slot) :
    (slotExpiries s k).part = s.part ∧ (slotExpiries s k).time = s.time ∧
    (slotExpiries s k).chain = s.chain ∧ (slotExpiries s k).scheduler = s.scheduler ∧
    (slotExpiries s k).link = s.link ∧ (slotExpiries s k).flash = s.flash ∧
    (slotExpiries s k).pending = s.pending := by
  simp [slotExpiries]

@[simp] theorem entryExpiries_frame (s : State) (x : AlarmKind × Nat) :
    (entryExpiries s x).part = s.part ∧ (entryExpiries s x).time = s.time ∧
    (entryExpiries s x).refs = s.refs ∧ (entryExpiries s x).filter = s.filter ∧
    (entryExpiries s x).selector = s.selector ∧ (entryExpiries s x).servo = s.servo ∧
    (entryExpiries s x).holdover = s.holdover ∧ (entryExpiries s x).ports = s.ports ∧
    (entryExpiries s x).chain = s.chain ∧ (entryExpiries s x).scheduler = s.scheduler ∧
    (entryExpiries s x).link = s.link ∧ (entryExpiries s x).flash = s.flash ∧
    (entryExpiries s x).pending = s.pending := by
  simp [entryExpiries]

@[simp] theorem closeWindow_frame (k : SatSlot) (s : State) :
    (closeWindow k s).part = s.part ∧ (closeWindow k s).time = s.time ∧
    (closeWindow k s).filter = s.filter ∧ (closeWindow k s).chain = s.chain ∧
    (closeWindow k s).scheduler = s.scheduler ∧ (closeWindow k s).link = s.link ∧
    (closeWindow k s).flash = s.flash ∧ (closeWindow k s).pending = s.pending := by
  dsimp only [closeWindow]
  (repeat' split) <;> simp

@[simp] theorem foldSlotExpiries_frame (l : List Slot) (s : State) :
    (l.foldl slotExpiries s).part = s.part ∧ (l.foldl slotExpiries s).time = s.time ∧
    (l.foldl slotExpiries s).chain = s.chain ∧ (l.foldl slotExpiries s).scheduler = s.scheduler ∧
    (l.foldl slotExpiries s).link = s.link ∧ (l.foldl slotExpiries s).flash = s.flash ∧
    (l.foldl slotExpiries s).pending = s.pending := by
  refine ⟨foldl_keeps State.part ?_ _ _, foldl_keeps State.time ?_ _ _, foldl_keeps State.chain
    ?_ _ _, foldl_keeps State.scheduler ?_ _ _, foldl_keeps State.link ?_ _ _, foldl_keeps
    State.flash ?_ _ _, foldl_keeps State.pending ?_ _ _⟩ <;>
    intro s x <;> simp

@[simp] theorem foldRearmExpires_frame (l : List (Fin 12)) (s : State) :
    (l.foldl (fun s p => rearmExpires p s) s).part = s.part ∧
    (l.foldl (fun s p => rearmExpires p s) s).time = s.time ∧
    (l.foldl (fun s p => rearmExpires p s) s).refs = s.refs ∧
    (l.foldl (fun s p => rearmExpires p s) s).filter = s.filter ∧
    (l.foldl (fun s p => rearmExpires p s) s).selector = s.selector ∧
    (l.foldl (fun s p => rearmExpires p s) s).servo = s.servo ∧
    (l.foldl (fun s p => rearmExpires p s) s).holdover = s.holdover ∧
    (l.foldl (fun s p => rearmExpires p s) s).chain = s.chain ∧
    (l.foldl (fun s p => rearmExpires p s) s).scheduler = s.scheduler ∧
    (l.foldl (fun s p => rearmExpires p s) s).link = s.link ∧
    (l.foldl (fun s p => rearmExpires p s) s).flash = s.flash ∧
    (l.foldl (fun s p => rearmExpires p s) s).pending = s.pending := by
  refine ⟨foldl_keeps State.part ?_ _ _, foldl_keeps State.time ?_ _ _, foldl_keeps State.refs
    ?_ _ _, foldl_keeps State.filter ?_ _ _, foldl_keeps State.selector ?_ _ _, foldl_keeps
    State.servo ?_ _ _, foldl_keeps State.holdover ?_ _ _, foldl_keeps State.chain ?_ _ _,
    foldl_keeps State.scheduler ?_ _ _, foldl_keeps State.link ?_ _ _, foldl_keeps State.flash
    ?_ _ _, foldl_keeps State.pending ?_ _ _⟩ <;>
    intro s x <;> simp

@[simp] theorem foldEntryExpiries_frame (l : List (AlarmKind × Nat)) (s : State) :
    (l.foldl entryExpiries s).part = s.part ∧ (l.foldl entryExpiries s).time = s.time ∧
    (l.foldl entryExpiries s).refs = s.refs ∧ (l.foldl entryExpiries s).filter = s.filter ∧
    (l.foldl entryExpiries s).selector = s.selector ∧ (l.foldl entryExpiries s).servo = s.servo ∧
    (l.foldl entryExpiries s).holdover = s.holdover ∧ (l.foldl entryExpiries s).ports = s.ports ∧
    (l.foldl entryExpiries s).chain = s.chain ∧ (l.foldl entryExpiries s).scheduler = s.scheduler ∧
    (l.foldl entryExpiries s).link = s.link ∧ (l.foldl entryExpiries s).flash = s.flash ∧
    (l.foldl entryExpiries s).pending = s.pending := by
  refine ⟨foldl_keeps State.part ?_ _ _, foldl_keeps State.time ?_ _ _, foldl_keeps State.refs
    ?_ _ _, foldl_keeps State.filter ?_ _ _, foldl_keeps State.selector ?_ _ _, foldl_keeps
    State.servo ?_ _ _, foldl_keeps State.holdover ?_ _ _, foldl_keeps State.ports ?_ _ _,
    foldl_keeps State.chain ?_ _ _, foldl_keeps State.scheduler ?_ _ _, foldl_keeps State.link
    ?_ _ _, foldl_keeps State.flash ?_ _ _, foldl_keeps State.pending ?_ _ _⟩ <;>
    intro s x <;> simp

@[simp] theorem closeWindows_frame (s : State) :
    (closeWindows s).part = s.part ∧ (closeWindows s).time = s.time ∧
    (closeWindows s).filter = s.filter ∧ (closeWindows s).chain = s.chain ∧
    (closeWindows s).scheduler = s.scheduler ∧ (closeWindows s).link = s.link ∧
    (closeWindows s).flash = s.flash ∧ (closeWindows s).pending = s.pending := by
  simp [closeWindows]

@[simp] theorem alarmExpiries_frame (s : State) :
    (alarmExpiries s).part = s.part ∧ (alarmExpiries s).time = s.time ∧
    (alarmExpiries s).refs = s.refs ∧ (alarmExpiries s).filter = s.filter ∧
    (alarmExpiries s).selector = s.selector ∧ (alarmExpiries s).servo = s.servo ∧
    (alarmExpiries s).holdover = s.holdover ∧ (alarmExpiries s).ports = s.ports ∧
    (alarmExpiries s).chain = s.chain ∧ (alarmExpiries s).scheduler = s.scheduler ∧
    (alarmExpiries s).link = s.link ∧ (alarmExpiries s).flash = s.flash ∧
    (alarmExpiries s).pending = s.pending := by
  simp [alarmExpiries]

@[simp] theorem passHalf_frame (n : Nat) (s : State) :
    (passHalf n s).part = s.part ∧ (passHalf n s).filter = s.filter ∧
    (passHalf n s).chain = s.chain ∧ (passHalf n s).scheduler = s.scheduler ∧
    (passHalf n s).link = s.link ∧ (passHalf n s).flash = s.flash ∧
    (passHalf n s).pending = s.pending := by
  dsimp only [passHalf]
  split <;> simp

@[simp] theorem runPast_frame (n : Nat) (s : State) :
    (runPast n s).part = s.part ∧ (runPast n s).filter = s.filter ∧
    (runPast n s).chain = s.chain ∧ (runPast n s).scheduler = s.scheduler ∧
    (runPast n s).link = s.link ∧ (runPast n s).flash = s.flash ∧
    (runPast n s).pending = s.pending := by
  simp [runPast]

@[simp] theorem runToEnd_frame (s : State) :
    (runToEnd s).part = s.part ∧ (runToEnd s).filter = s.filter ∧
    (runToEnd s).chain = s.chain ∧ (runToEnd s).scheduler = s.scheduler ∧
    (runToEnd s).link = s.link ∧ (runToEnd s).flash = s.flash ∧
    (runToEnd s).pending = s.pending := by
  simp [runToEnd]

@[simp] theorem countTimers_frame (n : Nat) (s : State) :
    (countTimers n s).part = s.part ∧ (countTimers n s).time = s.time ∧
    (countTimers n s).filter = s.filter ∧ (countTimers n s).servo = s.servo ∧
    (countTimers n s).chain = s.chain ∧ (countTimers n s).scheduler = s.scheduler ∧
    (countTimers n s).link = s.link ∧ (countTimers n s).flash = s.flash ∧
    (countTimers n s).pending = s.pending := by
  simp [countTimers]

@[simp] theorem applyPending_frame (o : Nat) (p : PendingSet) (s : State) :
    (applyPending o p s).part = s.part ∧ (applyPending o p s).link = s.link ∧
    (applyPending o p s).flash = s.flash ∧ (applyPending o p s).pending = s.pending := by
  dsimp only [applyPending]
  (repeat' split) <;> simp

@[simp] theorem lineEpoch_frame (k : LineSlot) (s : State) :
    (lineEpoch k s).part = s.part ∧ (lineEpoch k s).link = s.link ∧
    (lineEpoch k s).flash = s.flash ∧ (lineEpoch k s).pending = s.pending := by
  dsimp only [lineEpoch]
  (repeat' split) <;> simp

@[simp] theorem servoBoundary_frame (n : Nat) (s : State) :
    (servoBoundary n s).part = s.part ∧ (servoBoundary n s).time = s.time ∧
    (servoBoundary n s).refs = s.refs ∧ (servoBoundary n s).filter = s.filter ∧
    (servoBoundary n s).selector = s.selector ∧ (servoBoundary n s).holdover = s.holdover ∧
    (servoBoundary n s).ports = s.ports ∧ (servoBoundary n s).chain = s.chain ∧
    (servoBoundary n s).scheduler = s.scheduler ∧ (servoBoundary n s).alarms = s.alarms ∧
    (servoBoundary n s).link = s.link ∧ (servoBoundary n s).flash = s.flash ∧
    (servoBoundary n s).pending = s.pending := by
  dsimp only [servoBoundary]
  (repeat' split) <;> simp

@[simp] theorem recordGrade_frame (n : Nat) (s : State) :
    (recordGrade n s).part = s.part ∧ (recordGrade n s).time = s.time ∧
    (recordGrade n s).refs = s.refs ∧ (recordGrade n s).filter = s.filter ∧
    (recordGrade n s).selector = s.selector ∧ (recordGrade n s).servo = s.servo ∧
    (recordGrade n s).scheduler = s.scheduler ∧ (recordGrade n s).link = s.link ∧
    (recordGrade n s).flash = s.flash ∧ (recordGrade n s).pending = s.pending := by
  simp [recordGrade]

@[simp] theorem holdoverBoundary_frame (n : Nat) (s : State) :
    (holdoverBoundary n s).part = s.part ∧ (holdoverBoundary n s).refs = s.refs ∧
    (holdoverBoundary n s).filter = s.filter ∧ (holdoverBoundary n s).selector = s.selector ∧
    (holdoverBoundary n s).servo = s.servo ∧ (holdoverBoundary n s).scheduler = s.scheduler ∧
    (holdoverBoundary n s).link = s.link ∧ (holdoverBoundary n s).flash = s.flash ∧
    (holdoverBoundary n s).pending = s.pending := by
  dsimp only [holdoverBoundary]
  (repeat' split) <;> simp

/-! ## What arrives at the count's instant -/

@[simp] theorem satPulseTaken_frame (k : SatSlot) (s : State) :
    (satPulseTaken k s).part = s.part ∧ (satPulseTaken k s).link = s.link ∧
    (satPulseTaken k s).flash = s.flash ∧ (satPulseTaken k s).pending = s.pending := by
  dsimp only [satPulseTaken]
  (repeat' split) <;> simp

@[simp] theorem lineEdgeTaken_frame (k : LineSlot) (n : Nat) (s : State) :
    (lineEdgeTaken k n s).part = s.part ∧ (lineEdgeTaken k n s).time = s.time ∧
    (lineEdgeTaken k n s).filter = s.filter ∧ (lineEdgeTaken k n s).chain = s.chain ∧
    (lineEdgeTaken k n s).scheduler = s.scheduler ∧ (lineEdgeTaken k n s).link = s.link ∧
    (lineEdgeTaken k n s).flash = s.flash ∧ (lineEdgeTaken k n s).pending = s.pending := by
  dsimp only [lineEdgeTaken]
  (repeat' split) <;> simp

@[simp] theorem lineLossTaken_frame (k : LineSlot) (s : State) :
    (lineLossTaken k s).part = s.part ∧ (lineLossTaken k s).time = s.time ∧
    (lineLossTaken k s).filter = s.filter ∧ (lineLossTaken k s).chain = s.chain ∧
    (lineLossTaken k s).scheduler = s.scheduler ∧ (lineLossTaken k s).link = s.link ∧
    (lineLossTaken k s).flash = s.flash ∧ (lineLossTaken k s).pending = s.pending := by
  dsimp only [lineLossTaken]
  (repeat' split) <;> simp

@[simp] theorem composeAtPulse_frame (p : Fin 12) (n : Nat) (s : State) :
    (composeAtPulse p n s).part = s.part ∧ (composeAtPulse p n s).time = s.time ∧
    (composeAtPulse p n s).refs = s.refs ∧ (composeAtPulse p n s).filter = s.filter ∧
    (composeAtPulse p n s).selector = s.selector ∧ (composeAtPulse p n s).servo = s.servo ∧
    (composeAtPulse p n s).holdover = s.holdover ∧ (composeAtPulse p n s).chain = s.chain ∧
    (composeAtPulse p n s).scheduler = s.scheduler ∧ (composeAtPulse p n s).alarms = s.alarms ∧
    (composeAtPulse p n s).link = s.link ∧ (composeAtPulse p n s).flash = s.flash ∧
    (composeAtPulse p n s).pending = s.pending := by
  dsimp only [composeAtPulse]
  (repeat' split) <;> simp

@[simp] theorem useInstant_frame (p : Fin 12) (n : Nat) (s : State) :
    (useInstant p n s).part = s.part ∧ (useInstant p n s).time = s.time ∧
    (useInstant p n s).refs = s.refs ∧ (useInstant p n s).filter = s.filter ∧
    (useInstant p n s).selector = s.selector ∧ (useInstant p n s).servo = s.servo ∧
    (useInstant p n s).holdover = s.holdover ∧ (useInstant p n s).chain = s.chain ∧
    (useInstant p n s).scheduler = s.scheduler ∧ (useInstant p n s).link = s.link ∧
    (useInstant p n s).flash = s.flash ∧ (useInstant p n s).pending = s.pending := by
  dsimp only [useInstant]
  (repeat' split) <;> simp

@[simp] theorem satPulseArrives_frame (k : SatSlot) (s : State) :
    (satPulseArrives k s).part = s.part ∧ (satPulseArrives k s).link = s.link ∧
    (satPulseArrives k s).flash = s.flash ∧ (satPulseArrives k s).pending = s.pending := by
  dsimp only [satPulseArrives]
  split <;> simp

@[simp] theorem lineEdgeArrives_frame (k : LineSlot) (n : Nat) (s : State) :
    (lineEdgeArrives k n s).part = s.part ∧ (lineEdgeArrives k n s).time = s.time ∧
    (lineEdgeArrives k n s).filter = s.filter ∧ (lineEdgeArrives k n s).chain = s.chain ∧
    (lineEdgeArrives k n s).scheduler = s.scheduler ∧ (lineEdgeArrives k n s).link = s.link ∧
    (lineEdgeArrives k n s).flash = s.flash ∧ (lineEdgeArrives k n s).pending = s.pending := by
  dsimp only [lineEdgeArrives]
  split <;> simp

@[simp] theorem boundaryInstant_frame (p : Fin 12) (n : Nat) (s : State) :
    (boundaryInstant p n s).part = s.part ∧ (boundaryInstant p n s).time = s.time ∧
    (boundaryInstant p n s).refs = s.refs ∧ (boundaryInstant p n s).filter = s.filter ∧
    (boundaryInstant p n s).selector = s.selector ∧ (boundaryInstant p n s).servo = s.servo ∧
    (boundaryInstant p n s).holdover = s.holdover ∧ (boundaryInstant p n s).chain = s.chain ∧
    (boundaryInstant p n s).scheduler = s.scheduler ∧ (boundaryInstant p n s).link = s.link ∧
    (boundaryInstant p n s).flash = s.flash ∧ (boundaryInstant p n s).pending = s.pending := by
  dsimp only [boundaryInstant]
  split <;> simp

@[simp] theorem edgeArrives_frame (p : Fin 12) (k : Nat) (b : Bool) (s : State) :
    (edgeArrives p k b s).part = s.part ∧ (edgeArrives p k b s).time = s.time ∧
    (edgeArrives p k b s).refs = s.refs ∧ (edgeArrives p k b s).filter = s.filter ∧
    (edgeArrives p k b s).selector = s.selector ∧ (edgeArrives p k b s).servo = s.servo ∧
    (edgeArrives p k b s).holdover = s.holdover ∧ (edgeArrives p k b s).chain = s.chain ∧
    (edgeArrives p k b s).scheduler = s.scheduler ∧ (edgeArrives p k b s).alarms = s.alarms ∧
    (edgeArrives p k b s).link = s.link ∧ (edgeArrives p k b s).flash = s.flash ∧
    (edgeArrives p k b s).pending = s.pending := by
  dsimp only [edgeArrives]
  split <;> simp

/-! ## The work of a boundary -/

@[simp] theorem blockActs_frame (n : Nat) (s : State) (b : Block) :
    (blockActs n s b).part = s.part ∧ (blockActs n s b).link = s.link ∧
    (blockActs n s b).flash = s.flash ∧ (blockActs n s b).pending = s.pending := by
  dsimp only [blockActs]
  (repeat' split) <;> simp

@[simp] theorem foldBlockActs_frame (n : Nat) (l : List Block) (s : State) :
    (l.foldl (blockActs n) s).part = s.part ∧ (l.foldl (blockActs n) s).link = s.link ∧
    (l.foldl (blockActs n) s).flash = s.flash ∧ (l.foldl (blockActs n) s).pending = s.pending := by
  refine ⟨foldl_keeps State.part ?_ _ _, foldl_keeps State.link ?_ _ _, foldl_keeps State.flash
    ?_ _ _, foldl_keeps State.pending ?_ _ _⟩ <;>
    intro s x <;> simp

/-- An expiry delivered within a boundary leaves the count, the chain unit and the scheduler. -/
theorem expiry_frame (n : Nat) (s : State) (b : Block) (h : isExpiry b = true) :
    (blockActs n s b).time = s.time ∧ (blockActs n s b).chain = s.chain ∧
    (blockActs n s b).scheduler = s.scheduler := by
  cases b <;> simp [isExpiry] at h <;> simp [blockActs]

@[simp] theorem expiriesFirst_frame (n : Nat) (l : List Block) (s : State) :
    (expiriesFirst n l s).part = s.part ∧ (expiriesFirst n l s).time = s.time ∧
    (expiriesFirst n l s).chain = s.chain ∧ (expiriesFirst n l s).scheduler = s.scheduler ∧
    (expiriesFirst n l s).link = s.link ∧ (expiriesFirst n l s).flash = s.flash ∧
    (expiriesFirst n l s).pending = s.pending := by
  have w : ∀ (r : List Block) (t : State), (∀ b ∈ r, isExpiry b = true) →
      (r.foldl (blockActs n) t).time = t.time ∧ (r.foldl (blockActs n) t).chain = t.chain ∧
      (r.foldl (blockActs n) t).scheduler = t.scheduler := by
    intro r
    induction r with
    | nil => exact fun t _ => ⟨rfl, rfl, rfl⟩
    | cons b r ih =>
      intro t h
      obtain ⟨e1, e2, e3⟩ := expiry_frame n t b (h b List.mem_cons_self)
      obtain ⟨g1, g2, g3⟩ := ih (blockActs n t b) fun c hc => h c (List.mem_cons_of_mem b hc)
      exact ⟨g1.trans e1, g2.trans e2, g3.trans e3⟩
  obtain ⟨e1, e2, e3⟩ := w ((blockOrder l).takeWhile isExpiry) s fun b hb =>
    List.all_eq_true.mp List.all_takeWhile b hb
  unfold expiriesFirst
  simp [e1, e2, e3]

@[simp] theorem blocksAct_frame (n : Nat) (l : List Block) (s : State) :
    (blocksAct n l s).part = s.part ∧ (blocksAct n l s).link = s.link ∧
    (blocksAct n l s).flash = s.flash ∧ (blocksAct n l s).pending = s.pending := by
  simp [blocksAct]

@[simp] theorem markBoundary_frame (l : List Block) (s : State) :
    (markBoundary l s).part = s.part ∧ (markBoundary l s).link = s.link ∧
    (markBoundary l s).flash = s.flash ∧ (markBoundary l s).pending = s.pending := by
  dsimp only [markBoundary]
  (repeat' split) <;> simp

@[simp] theorem runOut_frame (s : State) :
    (runOut s).part = s.part ∧ (runOut s).filter = s.filter ∧ (runOut s).selector = s.selector ∧
    (runOut s).servo = s.servo ∧ (runOut s).holdover = s.holdover ∧ (runOut s).ports = s.ports ∧
    (runOut s).chain = s.chain ∧ (runOut s).scheduler = s.scheduler ∧
    (runOut s).alarms = s.alarms ∧ (runOut s).link = s.link ∧ (runOut s).flash = s.flash ∧
    (runOut s).pending = s.pending := by
  simp [runOut]

/-! ## Events within a second -/

@[simp] theorem pulseEnd_frame (p : Fin 12) (s : State) :
    (pulseEnd p s).part = s.part ∧ (pulseEnd p s).time = s.time ∧ (pulseEnd p s).refs = s.refs ∧
    (pulseEnd p s).filter = s.filter ∧ (pulseEnd p s).selector = s.selector ∧
    (pulseEnd p s).servo = s.servo ∧ (pulseEnd p s).holdover = s.holdover ∧
    (pulseEnd p s).chain = s.chain ∧ (pulseEnd p s).scheduler = s.scheduler ∧
    (pulseEnd p s).alarms = s.alarms ∧ (pulseEnd p s).link = s.link ∧
    (pulseEnd p s).flash = s.flash ∧ (pulseEnd p s).pending = s.pending := by
  dsimp only [pulseEnd]
  (repeat' split) <;> simp

/-! ## Configuration by requests -/

@[simp] theorem enableSlot_frame (k : Slot) (c : ReferenceConfig) (s : State) :
    (enableSlot k c s).part = s.part ∧ (enableSlot k c s).time = s.time ∧
    (enableSlot k c s).chain = s.chain ∧ (enableSlot k c s).scheduler = s.scheduler ∧
    (enableSlot k c s).link = s.link ∧ (enableSlot k c s).flash = s.flash ∧
    (enableSlot k c s).pending = s.pending := by
  simp [enableSlot]

@[simp] theorem restartSlot_frame (k : Slot) (c : ReferenceConfig) (s : State) :
    (restartSlot k c s).part = s.part ∧ (restartSlot k c s).time = s.time ∧
    (restartSlot k c s).chain = s.chain ∧ (restartSlot k c s).scheduler = s.scheduler ∧
    (restartSlot k c s).link = s.link ∧ (restartSlot k c s).flash = s.flash ∧
    (restartSlot k c s).pending = s.pending := by
  dsimp only [restartSlot]
  (repeat' split) <;> simp

@[simp] theorem configureSlot_frame (k : Slot) (c : ReferenceConfig) (s : State) :
    (configureSlot k c s).part = s.part ∧ (configureSlot k c s).time = s.time ∧
    (configureSlot k c s).chain = s.chain ∧ (configureSlot k c s).scheduler = s.scheduler ∧
    (configureSlot k c s).link = s.link ∧ (configureSlot k c s).flash = s.flash ∧
    (configureSlot k c s).pending = s.pending := by
  dsimp only [configureSlot]
  (repeat' split) <;> simp

@[simp] theorem lockSlot_frame (k : Slot) (b : Bool) (s : State) :
    (lockSlot k b s).part = s.part ∧ (lockSlot k b s).time = s.time ∧
    (lockSlot k b s).filter = s.filter ∧ (lockSlot k b s).chain = s.chain ∧
    (lockSlot k b s).scheduler = s.scheduler ∧ (lockSlot k b s).link = s.link ∧
    (lockSlot k b s).flash = s.flash ∧ (lockSlot k b s).pending = s.pending := by
  dsimp only [lockSlot]
  (repeat' split) <;> simp

@[simp] theorem configureSelection_frame (c : SelectionConfig) (s : State) :
    (configureSelection c s).part = s.part ∧ (configureSelection c s).time = s.time ∧
    (configureSelection c s).filter = s.filter ∧ (configureSelection c s).chain = s.chain ∧
    (configureSelection c s).scheduler = s.scheduler ∧ (configureSelection c s).link = s.link ∧
    (configureSelection c s).flash = s.flash ∧ (configureSelection c s).pending = s.pending := by
  simp [configureSelection]

@[simp] theorem configureServo_frame (c : ServoConfig) (s : State) :
    (configureServo c s).part = s.part ∧ (configureServo c s).refs = s.refs ∧
    (configureServo c s).filter = s.filter ∧ (configureServo c s).selector = s.selector ∧
    (configureServo c s).holdover = s.holdover ∧ (configureServo c s).ports = s.ports ∧
    (configureServo c s).chain = s.chain ∧ (configureServo c s).scheduler = s.scheduler ∧
    (configureServo c s).link = s.link ∧ (configureServo c s).flash = s.flash ∧
    (configureServo c s).pending = s.pending := by
  dsimp only [configureServo, clampLoop]
  (repeat' split) <;> simp

@[simp] theorem configurePort_frame (c : PortConfig) (p : Fin 12) (s : State) :
    (configurePort c p s).part = s.part ∧ (configurePort c p s).time = s.time ∧
    (configurePort c p s).refs = s.refs ∧ (configurePort c p s).filter = s.filter ∧
    (configurePort c p s).selector = s.selector ∧ (configurePort c p s).servo = s.servo ∧
    (configurePort c p s).holdover = s.holdover ∧ (configurePort c p s).chain = s.chain ∧
    (configurePort c p s).scheduler = s.scheduler ∧ (configurePort c p s).link = s.link ∧
    (configurePort c p s).flash = s.flash ∧ (configurePort c p s).pending = s.pending := by
  dsimp only [configurePort]
  (repeat' split) <;> simp

@[simp] theorem reportOverflow_frame (n : Nat) (s : State) :
    (reportOverflow n s).part = s.part ∧ (reportOverflow n s).time = s.time ∧
    (reportOverflow n s).refs = s.refs ∧ (reportOverflow n s).filter = s.filter ∧
    (reportOverflow n s).selector = s.selector ∧ (reportOverflow n s).servo = s.servo ∧
    (reportOverflow n s).holdover = s.holdover ∧ (reportOverflow n s).ports = s.ports ∧
    (reportOverflow n s).chain = s.chain ∧ (reportOverflow n s).scheduler = s.scheduler ∧
    (reportOverflow n s).link = s.link ∧ (reportOverflow n s).flash = s.flash ∧
    (reportOverflow n s).pending = s.pending := by
  dsimp only [reportOverflow]
  (repeat' split) <;> simp

end Sys2Proof.Machine
end

