-- ==== Sys2Proof/Laws/Keeps.lean ====
section
/-!
SUPPORT. The laws that every shared operation keeps by itself: contacts and queue of the alarm unit,
the pull range, the ports' delays, the ports under the grade, the history's room and the monitors'
levels.  One lemma an operation, composed by transitivity.
-/

-- One proof at a time: elaborated side by side, so many small proofs reserve too many thread stacks.
set_option Elab.async false

namespace Sys2Proof.Machine

open Sys2Proof.Safety

/-- The laws, those of the ports under the grade apart, that hold of `s` hold of `t`. -/
structure KeepsRest (s t : State) : Prop where
  alarms : AlarmLaw s.alarms → AlarmLaw t.alarms
  frequency : FrequencyLaw s → FrequencyLaw t
  delays : DelayLaw s → DelayLaw t
  history : HistoryLaw s → HistoryLaw t
  levels : LevelLaw s → LevelLaw t

/-- The laws that hold of `s` hold of `t`. -/
structure Keeps (s t : State) : Prop extends KeepsRest s t where
  ports : GradeLaw s ∧ SquelchLaw s → GradeLaw t ∧ SquelchLaw t

theorem KeepsRest.refl (s : State) : KeepsRest s s := ⟨id, id, id, id, id⟩

theorem KeepsRest.trans {s t u : State} (h : KeepsRest s t) (g : KeepsRest t u) : KeepsRest s u :=
  ⟨g.alarms ∘ h.alarms, g.frequency ∘ h.frequency, g.delays ∘ h.delays, g.history ∘ h.history,
   g.levels ∘ h.levels⟩

theorem Keeps.refl (s : State) : Keeps s s := ⟨.refl s, id⟩

theorem Keeps.trans {s t u : State} (h : Keeps s t) (g : Keeps t u) : Keeps s u :=
  ⟨h.toKeepsRest.trans g.toKeepsRest, g.ports ∘ h.ports⟩

/-- A step that writes none of what the laws speak of. -/
theorem Keeps.of_same {s t : State} (alarms : t.alarms = s.alarms)
    (estimate : t.servo.estimate = s.servo.estimate)
    (pull : t.servo.config.pullRange = s.servo.config.pullRange)
    (correction : t.time.correction = s.time.correction) (ports : t.ports = s.ports)
    (set : t.time.timeSet = s.time.timeSet) (grade : t.holdover.grade = s.holdover.grade)
    (history : t.holdover.history = s.holdover.history)
    (levels : ∀ k, (t.refs.get k).level = (s.refs.get k).level
      ∧ (t.refs.get k).config = (s.refs.get k).config) : Keeps s t where
  alarms h := alarms ▸ h
  frequency h := ⟨by rw [estimate, pull]; exact h.estimate, by rw [correction, pull]; exact h.correction⟩
  delays h p := by simpa only [State.port, ports] using h p
  ports h := by
    refine ⟨fun e => ?_, fun p => ?_⟩
    · rw [grade]; exact h.1 (set ▸ e)
    · simpa only [State.port, ports, set, grade] using h.2 p
  history h := by simpa only [HistoryLaw, history] using h
  levels h k := by
    have := h k
    simp only [State.ref] at this ⊢
    rw [(levels k).1, (levels k).2]; exact this

/-- A step of a fold keeps the laws, so the fold does. -/
theorem Keeps.foldl {α : Type} {f : State → α → State} (h : ∀ s x, Keeps s (f s x)) (l : List α)
    (s : State) : Keeps s (l.foldl f s) := by
  induction l generalizing s with
  | nil => exact .refl s
  | cons x l ih => exact (h s x).trans (ih _)

/-! ## Alarm unit -/

/-- A step that writes the alarm unit alone. -/
theorem Keeps.of_alarms {s : State} {u : AlarmUnit} (h : AlarmLaw s.alarms → AlarmLaw u) :
    Keeps s (s.setAlarms u) where
  alarms := h
  frequency g := ⟨g.estimate, g.correction⟩
  delays g := g
  ports g := g
  history g := g
  levels g := g

theorem outstanding_iff (v : Severity) (u : AlarmUnit) :
    contactAsserted v u = true ↔ Outstanding v u := by
  simp only [contactAsserted, Outstanding, List.any_eq_true, Bool.and_eq_true, decide_eq_true_eq,
    holdsContact, Bool.not_eq_true']

/-- Refreshed outputs obey the law of the contacts and of the attention line. -/
theorem refreshOutputs_law {u : AlarmUnit} (h : u.queue.length ≤ Config.queueSize) :
    AlarmLaw (refreshOutputs u) where
  queue := h
  crit := outstanding_iff .critical u
  maj := outstanding_iff .major u
  attention := by simp [refreshOutputs]

@[simp] theorem AlarmUnit.setEntry_queue (u : AlarmUnit) (k : AlarmKind) (n : Nat) (e : AlarmEntry) :
    (u.setEntry k n e).queue = u.queue := rfl

theorem postNotice_queue (now : Nat) (n : Notice) {u : AlarmUnit}
    (h : u.queue.length ≤ Config.queueSize) :
    (postNotice now n u).queue.length ≤ Config.queueSize := by
  unfold postNotice
  split
  · simp only [List.length_append, List.length_singleton]; omega
  · dsimp only
    split <;> simpa using h

theorem moveEntry_queue (f : AlarmConfig → Nat → AlarmEntry → EntryStep) (now : Nat) (k : AlarmKind)
    (n : Nat) {u : AlarmUnit} (h : u.queue.length ≤ Config.queueSize) :
    (moveEntry f now k n u).queue.length ≤ Config.queueSize := by
  unfold moveEntry postAlarm
  dsimp only
  (repeat' split) <;> first | simpa using h | exact postNotice_queue _ _ (by simpa using h)

theorem post_keeps (d : NoticeDetail) (k : Nat) (s : State) : Keeps s (s.post d k) :=
  .of_alarms fun h => refreshOutputs_law (postNotice_queue _ _ h.queue)

theorem moveAlarm_keeps (f : AlarmConfig → Nat → AlarmEntry → EntryStep) (k : AlarmKind) (n : Nat)
    (s : State) : Keeps s (s.moveAlarm f k n) :=
  .of_alarms fun h => refreshOutputs_law (moveEntry_queue _ _ _ _ h.queue)

theorem declare_keeps (k : AlarmKind) (n : Nat) (b : Bool) (s : State) : Keeps s (s.declare k n b) :=
  moveAlarm_keeps _ k n s

theorem refresh_keeps (k : AlarmKind) (n : Nat) (s : State) : Keeps s (s.refresh k n) :=
  moveAlarm_keeps _ k n s

theorem refreshAll_keeps (l : List (AlarmKind × Nat)) (s : State) : Keeps s (s.refreshAll l) :=
  .foldl (α := AlarmKind × Nat) (fun s x => refresh_keeps x.1 x.2 s) l s

theorem entryTick_contact (e : AlarmEntry) : holdsContact (entryTick e) = holdsContact e := by
  unfold entryTick; split <;> rfl

theorem tickEntries_contact (v : Severity) (u : AlarmUnit) :
    contactAsserted v (tickEntries u) = contactAsserted v u := by
  simp [contactAsserted, tickEntries, List.any_map, Function.comp_def, entryTick_contact]

theorem tickEntries_law {u : AlarmUnit} (h : AlarmLaw u) : AlarmLaw (tickEntries u) where
  queue := h.queue
  crit := by rw [← outstanding_iff, tickEntries_contact, outstanding_iff]; exact h.crit
  maj := by rw [← outstanding_iff, tickEntries_contact, outstanding_iff]; exact h.maj
  attention := h.attention

/-! ## Ports -/

/-- A step that writes one port alone, its delay and its queue aside. -/
theorem KeepsRest.of_port {s : State} (p : Fin 12) (x : Port)
    (hd : (s.port p).delay ≤ Config.maxDelay ∧ (s.port p).queue.length ≤ Config.adjustSize →
      x.delay ≤ Config.maxDelay ∧ x.queue.length ≤ Config.adjustSize) :
    KeepsRest s (s.setPort p x) where
  alarms h := h
  frequency h := ⟨h.estimate, h.correction⟩
  delays h q := by
    rw [State.setPort_port_eq]
    split
    · exact hd (h p)
    · exact h q
  history h := h
  levels h := h

/-- A step that writes one port alone. -/
theorem Keeps.of_port {s : State} (p : Fin 12) (x : Port)
    (hd : (s.port p).delay ≤ Config.maxDelay ∧ (s.port p).queue.length ≤ Config.adjustSize →
      x.delay ≤ Config.maxDelay ∧ x.queue.length ≤ Config.adjustSize)
    (hp : GradeLaw s → PortLaw s.time.timeSet s.holdover.grade (s.port p) →
      PortLaw s.time.timeSet s.holdover.grade x) : Keeps s (s.setPort p x) where
  toKeepsRest := .of_port p x hd
  ports h := by
    refine ⟨h.1, fun q => ?_⟩
    rw [State.setPort_port_eq]
    split
    · exact hp h.1 (h.2 p)
    · exact h.2 q

/-- A port whose state, record and re-arm timer stand obeys what it obeyed. -/
theorem portLaw_of_same {b : Bool} {g : Grade} {x y : Port} (h : PortLaw b g x)
    (hs : y.state = x.state) (hc : y.config = x.config) (hr : y.rearm = x.rearm) : PortLaw b g y :=
  ⟨fun e => h.time (hs ▸ e), fun e f => by rw [hc] at f ⊢; exact h.active (hs ▸ e) f,
   fun e => by rw [hc]; exact h.policy (hs ▸ e), fun e => by
     rw [hs, hc]; exact h.rearming (hr ▸ e)⟩

/-- A port that is neither ACTIVE nor SQUELCHED, its re-arm timer stopped. -/
theorem portLaw_of_idle {b : Bool} {g : Grade} {x : Port} (ha : x.state ≠ .active)
    (hs : x.state ≠ .squelched) (hr : x.rearm = Timer.stopped) : PortLaw b g x :=
  ⟨fun e => (e.elim ha hs).elim, fun e => absurd e ha, fun e => absurd e hs, fun e => absurd hr e⟩

/-- A port written and then moved. -/
theorem portWriteMove_keeps (p : Fin 12) (new : PortState) (c : PortCause) (x : Port) (s : State)
    (hd : (s.port p).delay ≤ Config.maxDelay ∧ (s.port p).queue.length ≤ Config.adjustSize →
      x.delay ≤ Config.maxDelay ∧ x.queue.length ≤ Config.adjustSize)
    (hp : GradeLaw s → PortLaw s.time.timeSet s.holdover.grade (s.port p) →
      PortLaw s.time.timeSet s.holdover.grade { x with state := new }) :
    Keeps s (portMove p new c (s.setPort p x)) := by
  unfold portMove
  dsimp only
  split
  · rename_i h
    have e : { x with state := new } = x := by rw [← h]; simp
    exact .of_port p x hd fun hg h => e ▸ hp hg h
  · rw [show ∀ y, (s.setPort p x).setPort p y = s.setPort p y by
      intro y; simp [State.setPort, State.setPorts]]
    refine .trans (.of_port p _ ?_ ?_) ((post_keeps _ _ _).trans (declare_keeps _ _ _ _))
    · simpa using hd
    · exact fun hg h => portLaw_of_same (hp hg h) rfl (by simp) (by simp)

theorem portMove_keeps (p : Fin 12) (new : PortState) (c : PortCause) (s : State)
    (hp : GradeLaw s → PortLaw s.time.timeSet s.holdover.grade (s.port p) →
      PortLaw s.time.timeSet s.holdover.grade { s.port p with state := new }) :
    Keeps s (portMove p new c s) := by
  have e : s.setPort p (s.port p) = s := by
    cases s; simp [State.setPort, State.port, State.setPorts]
  have h := portWriteMove_keeps p new c (s.port p) s id hp
  rwa [e] at h

theorem portRearm_keeps (p : Fin 12) (t : Timer) (s : State)
    (h : t ≠ Timer.stopped → (s.port p).state = .squelched
      ∧ gradeMeets s.holdover.grade (s.port p).config.minGrade = true) :
    Keeps s (portRearm p t s) :=
  .of_port p _ id fun _ g => ⟨g.time, g.active, g.policy, h⟩

theorem portRearm_stopped (p : Fin 12) (s : State) : Keeps s (portRearm p Timer.stopped s) :=
  portRearm_keeps p _ s fun h => absurd rfl h

@[simp] theorem portRearm_port (p : Fin 12) (t : Timer) (s : State) :
    (portRearm p t s).port p = { s.port p with rearm := t } := by simp [portRearm]

theorem portEnable_keeps (p : Fin 12) (c : PortCause) (s : State) : Keeps s (portEnable p c s).1 := by
  have move : Keeps s (portMove p .armed c (portRearm p Timer.stopped s)) :=
    portWriteMove_keeps p _ c _ s id fun _ _ => portLaw_of_idle (by simp) (by simp) rfl
  unfold portEnable
  split <;> first | exact move | exact .refl s

theorem portDisable_keeps (p : Fin 12) (c : PortCause) (s : State) : Keeps s (portDisable p c s).1 := by
  unfold portDisable
  split
  · exact .refl s
  · exact portWriteMove_keeps p _ c _ s id fun _ _ => portLaw_of_idle (by simp) (by simp) rfl

theorem rearmExpires_keeps (p : Fin 12) (s : State) : Keeps s (rearmExpires p s) := by
  unfold rearmExpires
  split
  · rename_i hd
    have hne : (s.port p).rearm ≠ Timer.stopped := fun e => by simp [e, Timer.stopped] at hd
    dsimp only
    split
    · rename_i hs
      rw [portRearm_port] at hs
      refine portWriteMove_keeps p _ _ _ s id fun _ h => ?_
      exact ⟨fun _ => h.time (.inr hs), fun _ _ => (h.rearming hne).2, by simp,
        fun e => absurd rfl e⟩
    · exact portRearm_stopped p s
  · exact .refl s

/-- A movement ends within the range of the delay (R134). -/
theorem moveHead_delay (d : Nat) (l : Option Nat) (a : Adjustment) :
    (moveHead d l a).delay ≤ Config.maxDelay := by
  unfold moveHead
  dsimp only
  generalize (d : Int) + (match l with
    | some l => clampTo l a.remainder
    | none => a.remainder) = target
  (repeat' split) <;> simp only [] <;> omega

theorem serveHead_keeps (l : Option Nat) (p : Fin 12) (s : State) : Keeps s (serveHead l p s) := by
  unfold serveHead
  dsimp only
  split
  · exact .refl s
  · rename_i a rest hq
    have write (q : List Adjustment) (hl : q.length ≤ (s.port p).queue.length) :
        Keeps s (s.setPort p
          { s.port p with delay := (moveHead (s.port p).delay l a).delay, queue := q }) :=
      .of_port p _ (fun h => ⟨moveHead_delay _ _ _, hl.trans h.2⟩)
        fun _ h => portLaw_of_same h rfl rfl rfl
    (repeat' split)
    all_goals first
      | refine (write _ ?_).trans (post_keeps _ _ _); simp [hq]
      | refine write _ ?_; simp [hq]

/-- An ARMED port that may start obeys the law once ACTIVE. -/
theorem portBoundary_keeps (p : Fin 12) (s : State) : Keeps s (portBoundary p s) := by
  unfold portBoundary
  dsimp only
  split
  · exact .refl s
  · split
    · rename_i h
      refine (serveHead_keeps none p s).trans (portMove_keeps _ _ _ _ fun _ hl => ?_)
      simp only [portMayStart, Bool.and_eq_true, Bool.or_eq_true, decide_eq_true_eq] at h
      have hr : ((serveHead none p s).port p).rearm = Timer.stopped := by
        by_contra hne
        have := (hl.rearming hne).1
        rw [h.1.1] at this
        cases this
      refine ⟨fun _ => h.1.2, fun _ hp => ?_, by simp, fun e => absurd hr e⟩
      rcases h.2 with hm | hm
      · rw [hm] at hp; cases hp
      · exact hm
    · exact serveHead_keeps none p s

theorem portsBoundary_keeps (s : State) : Keeps s (portsBoundary s) :=
  .foldl (f := fun s p => portBoundary p s) (fun s p => portBoundary_keeps p s) _ s

theorem composeMessage_keeps (p : Fin 12) (r : SecondRecord) (o : Nat) (s : State) :
    Keeps s (composeMessage p r o s) := by
  unfold composeMessage
  dsimp only
  split <;> exact .of_port p _ id fun _ h => portLaw_of_same h rfl rfl rfl

theorem composeRecorded_keeps (r : SecondRecord) (s : State) : Keeps s (composeRecorded r s) := by
  unfold composeRecorded
  refine .foldl (fun s p => ?_) _ s
  split
  · exact composeMessage_keeps p r _ s
  · exact .refl s

/-- What a step leaves of a port. -/
theorem portStepped_frame (ev : StepEvent) (x : Port) :
    (portStepped ev x).state = x.state ∧ (portStepped ev x).config = x.config
    ∧ (portStepped ev x).delay = x.delay ∧ (portStepped ev x).queue = x.queue
    ∧ (portStepped ev x).rearm = x.rearm := by
  unfold portStepped
  dsimp only
  (repeat' split) <;> exact ⟨rfl, rfl, rfl, rfl, rfl⟩

theorem portStep_keeps (ev : StepEvent) (p : Fin 12) (s : State) : Keeps s (portStep ev p s) := by
  have h : Keeps s (s.setPort p (portStepped ev (s.port p))) := by
    have f := portStepped_frame ev (s.port p)
    exact .of_port p _ (fun h => by rw [f.2.2.1, f.2.2.2.1]; exact h)
      fun _ h => portLaw_of_same h f.1 f.2.1 f.2.2.2.2
  unfold portStep
  dsimp only
  (repeat' split)
  · exact h.trans (composeMessage_keeps _ _ _ _)
  · exact h
  · exact h

theorem portsStep_keeps (ev : StepEvent) (s : State) : Keeps s (portsStep ev s) :=
  .foldl (f := fun s p => portStep ev p s) (fun s p => portStep_keeps ev p s) _ s

/-! ## The grade presented to the ports -/

theorem portMove_rest (p : Fin 12) (new : PortState) (c : PortCause) (s : State) :
    KeepsRest s (portMove p new c s) := by
  unfold portMove
  dsimp only
  split
  · exact .refl s
  · refine .trans (.of_port p _ ?_) ((post_keeps _ _ _).trans (declare_keeps _ _ _ _)).toKeepsRest
    exact id

theorem portJudge_rest (g : Grade) (p : Fin 12) (s : State) : KeepsRest s (portJudge g p s) := by
  have rearm (t : Timer) : KeepsRest s (portRearm p t s) := .of_port p _ id
  unfold portJudge
  dsimp only
  (repeat' split) <;> first
    | with_reducible exact .refl s
    | with_reducible exact rearm _
    | with_reducible exact portMove_rest _ _ _ _
    | with_reducible exact (rearm _).trans (portMove_rest _ _ _ _)

/-- A port after a move. -/
theorem portMove_port (p : Fin 12) (new : PortState) (c : PortCause) (s : State) :
    ((portMove p new c s).port p).state = new ∧ ((portMove p new c s).port p).config = (s.port p).config
      ∧ ((portMove p new c s).port p).rearm = (s.port p).rearm := by
  unfold portMove
  dsimp only
  split
  · rename_i h; exact ⟨h, rfl, rfl⟩
  · simp [State.port, State.setPort]

theorem portMove_other (p : Fin 12) (new : PortState) (c : PortCause) (s : State) {q : Fin 12}
    (h : q ≠ p) : (portMove p new c s).port q = s.port q := by
  unfold portMove
  dsimp only
  split
  · rfl
  · have := s.setPort_port_other
      { s.port p with state := new, activated := decide (new = .active ∧ s.time.frac = 0) } h
    simpa [State.port] using this

theorem portJudge_other (g : Grade) (p : Fin 12) (s : State) {q : Fin 12} (h : q ≠ p) :
    (portJudge g p s).port q = s.port q := by
  have rearm (t : Timer) : (portRearm p t s).port q = s.port q := s.setPort_port_other _ h
  unfold portJudge
  dsimp only
  (repeat' split) <;> simp [portMove_other, rearm, h]

/-- A port that has judged a grade obeys the law under it (R122, R123). -/
theorem portJudge_law (b : Bool) (old g : Grade) (p : Fin 12) (s : State)
    (h : PortLaw b old (s.port p)) : PortLaw b g ((portJudge g p s).port p) := by
  unfold portJudge
  dsimp only
  split
  · rename_i hs
    have hr : (s.port p).rearm = Timer.stopped := by
      by_contra hne; have := (h.rearming hne).1; simp_all
    split
    · rename_i hc
      have m := portMove_port p .squelched .grade (portRearm p Timer.stopped s)
      simp only [portRearm_port] at m
      refine ⟨fun _ => h.time (.inl hs), by simp [m.1], fun _ => ?_, fun e => ?_⟩
      · rw [m.2.1]; exact hc.1
      · exact absurd m.2.2 e
    · rename_i hc
      refine ⟨h.time, fun _ hp => ?_, h.policy, fun e => absurd hr e⟩
      by_contra hm
      exact hc ⟨hp, by simpa using hm⟩
  · rename_i hs
    split
    · rename_i hm
      split
      · rename_i hr
        split
        · have m := portMove_port p .active .rearm s
          refine ⟨fun _ => h.time (.inr hs), fun _ _ => ?_, by simp [m.1], fun e => ?_⟩
          · rw [m.2.1]; exact hm
          · rw [m.2.2] at e; exact absurd hr e
        · simp only [portRearm_port]
          exact ⟨h.time, by simp [hs], h.policy, fun _ => ⟨hs, hm⟩⟩
      · exact ⟨h.time, by simp [hs], h.policy, fun _ => ⟨hs, hm⟩⟩
    · simp only [portRearm_port]
      exact ⟨h.time, by simp [hs], h.policy, fun e => absurd rfl e⟩
  all_goals
    rename_i hs
    have hr : (s.port p).rearm = Timer.stopped := by
      by_contra hne; have := (h.rearming hne).1; simp_all
    exact portLaw_of_idle (by simp [hs]) (by simp [hs]) hr

theorem presentGrade_rest (g : Grade) (s : State) : KeepsRest s (presentGrade g s) := by
  unfold presentGrade
  generalize allPorts = l
  induction l generalizing s with
  | nil => exact .refl s
  | cons p l ih => exact (portJudge_rest g p s).trans (ih _)

/-- Every port in a list without repeats judges the grade, and no other port changes. -/
theorem judgeAll_law (b : Bool) (old g : Grade) (l : List (Fin 12)) (hl : l.Nodup) (s : State)
    (h : ∀ p ∈ l, PortLaw b old (s.port p)) :
    (∀ p ∈ l, PortLaw b g ((l.foldl (fun s p => portJudge g p s) s).port p)) ∧
    (∀ p, p ∉ l → (l.foldl (fun s p => portJudge g p s) s).port p = s.port p) := by
  induction l generalizing s with
  | nil => simp
  | cons q l ih =>
    obtain ⟨hq, hl⟩ := List.nodup_cons.mp hl
    have step : ∀ p ∈ l, (portJudge g q s).port p = s.port p := fun p hp =>
      portJudge_other g q s fun e => hq (e ▸ hp)
    obtain ⟨i1, i2⟩ := ih hl (portJudge g q s)
      (fun p hp => by rw [step p hp]; exact h p (List.mem_cons_of_mem q hp))
    simp only [List.foldl_cons]
    refine ⟨fun p hp => ?_, fun p hp => ?_⟩
    · rcases List.mem_cons.mp hp with rfl | hp
      · rw [i2 p hq]; exact portJudge_law b old g p s (h p (List.mem_cons_self))
      · exact i1 p hp
    · rw [List.mem_cons, not_or] at hp
      rw [i2 p hp.2, portJudge_other g q s hp.1]

theorem presentGrade_law (b : Bool) (old g : Grade) (s : State) (h : ∀ p, PortLaw b old (s.port p)) :
    ∀ p, PortLaw b g ((presentGrade g s).port p) := fun p =>
  (judgeAll_law b old g allPorts (by decide) s fun q _ => h q).1 p (by revert p; decide)

/-- The grade written and presented keeps the laws, if it is F while time is unset. -/
theorem grade_keeps (g : Grade) (d : NoticeDetail) (s : State)
    (hg : s.time.timeSet = false → g = .F) :
    Keeps s (presentGrade g ((s.setHoldover { s.holdover with grade := g }).post d 0)) := by
  refine ⟨.trans ?_ (presentGrade_rest _ _), fun h => ⟨fun e => ?_, ?_⟩⟩
  · have w : KeepsRest s (s.setHoldover { s.holdover with grade := g }) :=
      ⟨id, fun h => ⟨h.estimate, h.correction⟩, id, id, id⟩
    exact w.trans (post_keeps _ _ _).toKeepsRest
  · simp only [presentGrade_frame, State.post_frame, State.setHoldover_time,
      State.setHoldover_holdover] at e ⊢
    exact hg e
  · intro p
    have := presentGrade_law s.time.timeSet s.holdover.grade g
      ((s.setHoldover { s.holdover with grade := g }).post d 0) (fun q => by
        simpa [State.port] using h.2 q) p
    simpa using this

/-! ## Holdover unit -/

theorem gradeNow_unset (s : State) (h : s.time.timeSet = false) : gradeNow s = .F := by
  simp [gradeNow, h]

theorem recomputeGrade_keeps (s : State) : Keeps s (recomputeGrade s) := by
  unfold recomputeGrade
  dsimp only
  split
  · exact .refl s
  · exact grade_keeps _ _ s (gradeNow_unset s)

theorem estimateConditions_keeps (s : State) : Keeps s (estimateConditions s) := refreshAll_keeps _ s

theorem judgeEstimate_keeps (s : State) : Keeps s (judgeEstimate s) :=
  (estimateConditions_keeps s).trans (recomputeGrade_keeps _)

/-- The holdover unit written, the history and the grade aside. -/
theorem setHoldover_keeps (s : State) (h : Holdover) (hh : h.history = s.holdover.history := by rfl)
    (hg : h.grade = s.holdover.grade := by rfl) : Keeps s (s.setHoldover h) :=
  .of_same rfl rfl rfl rfl rfl rfl hg hh fun _ => ⟨rfl, rfl⟩

/-- The servo written, the estimate and the record aside. -/
theorem setServo_keeps (s : State) (v : Servo) (hi : v.estimate = s.servo.estimate := by rfl)
    (hc : v.config.pullRange = s.servo.config.pullRange := by rfl) : Keeps s (s.setServo v) :=
  .of_same rfl hi hc rfl rfl rfl rfl rfl fun _ => ⟨rfl, rfl⟩

/-- The time base written, the correction and the time-set flag aside. -/
theorem setTime_keeps (s : State) (t : TimeBase) (hf : t.correction = s.time.correction := by rfl)
    (hs : t.timeSet = s.time.timeSet := by rfl) : Keeps s (s.setTime t) :=
  .of_same rfl rfl rfl hf rfl hs rfl rfl fun _ => ⟨rfl, rfl⟩

/-- The monitors written, their levels and records aside. -/
theorem setRefs_keeps (s : State) (r : PerSlot Monitor)
    (h : ∀ k, (r.get k).level = (s.refs.get k).level ∧ (r.get k).config = (s.refs.get k).config) :
    Keeps s (s.setRefs r) :=
  .of_same rfl rfl rfl rfl rfl rfl rfl rfl h

theorem setSelector_keeps (s : State) (v : Selector) : Keeps s (s.setSelector v) :=
  .of_same rfl rfl rfl rfl rfl rfl rfl rfl fun _ => ⟨rfl, rfl⟩

theorem setFilter_keeps (s : State) (f : Filter) : Keeps s (s.setFilter f) :=
  .of_same rfl rfl rfl rfl rfl rfl rfl rfl fun _ => ⟨rfl, rfl⟩

theorem setChain_keeps (s : State) (c : ChainUnit) : Keeps s (s.setChain c) :=
  .of_same rfl rfl rfl rfl rfl rfl rfl rfl fun _ => ⟨rfl, rfl⟩

theorem setScheduler_keeps (s : State) (c : Scheduler) : Keeps s (s.setScheduler c) :=
  .of_same rfl rfl rfl rfl rfl rfl rfl rfl fun _ => ⟨rfl, rfl⟩

theorem setLink_keeps (s : State) (k : Link) : Keeps s (s.setLink k) :=
  .of_same rfl rfl rfl rfl rfl rfl rfl rfl fun _ => ⟨rfl, rfl⟩

theorem setPart_keeps (s : State) (p : PartState) : Keeps s (s.setPart p) :=
  .of_same rfl rfl rfl rfl rfl rfl rfl rfl fun _ => ⟨rfl, rfl⟩

theorem setFlash_keeps (s : State) (f : Option FlashImage) : Keeps s (s.setFlash f) :=
  .of_same rfl rfl rfl rfl rfl rfl rfl rfl fun _ => ⟨rfl, rfl⟩

theorem setPending_keeps (s : State) (l : List Instr) : Keeps s (s.setPending l) :=
  .of_same rfl rfl rfl rfl rfl rfl rfl rfl fun _ => ⟨rfl, rfl⟩

/-- The correction written within the pull range. -/
theorem setCorrection_keeps (s : State) (f : Int) (h : f.natAbs ≤ s.servo.config.pullRange) :
    Keeps s (s.setTime { s.time with correction := f }) where
  alarms g := g
  frequency g := ⟨g.estimate, h⟩
  delays g := g
  history g := g
  levels g := g
  ports g := g

theorem clampTo_natAbs (p : Nat) (x : Int) : (clampTo p x).natAbs ≤ p := by
  unfold clampTo; omega

theorem holdoverF_pull (h : Holdover) (p n : Nat) : (holdoverF h p n).natAbs ≤ p :=
  clampTo_natAbs _ _

theorem formHoldover_keeps (s : State) : Keeps s (formHoldover s) := setHoldover_keeps s _

theorem holdoverSecond_keeps (s : State) : Keeps s (holdoverSecond s) :=
  (setCorrection_keeps s _ (holdoverF_pull _ _ _)).trans
    ((setHoldover_keeps _ _).trans (judgeEstimate_keeps _))

theorem freqLockedSecond_keeps (s : State) : Keeps s (freqLockedSecond s) :=
  (setHoldover_keeps s _).trans (judgeEstimate_keeps _)

theorem estimateSecond_keeps (s : State) : Keeps s (estimateSecond s) := by
  unfold estimateSecond
  split <;> first
    | with_reducible exact .refl s
    | with_reducible exact holdoverSecond_keeps s
    | with_reducible exact freqLockedSecond_keeps s

@[simp] theorem fileReport_frame (r : UpdateReport) (n : Nat) (h : Holdover) :
    (fileReport r n h).history = h.history ∧ (fileReport r n h).grade = h.grade ∧
    (fileReport r n h).config = h.config ∧ (fileReport r n h).tee = h.tee := by
  unfold fileReport
  dsimp only
  (repeat' split) <;> simp

theorem takeReport_keeps (r : UpdateReport) (s : State) : Keeps s (takeReport r s) := by
  have w : Keeps s (s.setHoldover (fileReport r s.reading s.holdover)) :=
    setHoldover_keeps s _ (by simp) (by simp)
  unfold takeReport
  dsimp only
  split
  · exact w.trans ((setHoldover_keeps _ _).trans (judgeEstimate_keeps _))
  · exact w

theorem servoEntered_keeps (o n : ServoState) (s : State) : Keeps s (servoEntered o n s) :=
  (setHoldover_keeps s _).trans ((refreshAll_keeps _ _).trans (judgeEstimate_keeps _))

theorem holdoverSwitch_keeps (s : State) : Keeps s (holdoverSwitch s) := setHoldover_keeps s _

theorem holdoverStep_keeps (s : State) : Keeps s (holdoverStep s) := setHoldover_keeps s _

/-! ## Servo states -/

theorem resetDisagreement_keeps (s : State) : Keeps s (resetDisagreement s) :=
  setRefs_keeps s _ fun k => by simp

theorem servoEnter_keeps (n : ServoState) (c : ServoCause) (s : State) :
    Keeps s (servoEnter n c s) := by
  unfold servoEnter
  dsimp only
  have w : Keeps s (s.setServo { s.servo with state := n, since := s.time.base }) :=
    setServo_keeps s _
  (repeat' split)
  · exact .refl s
  · exact w.trans ((resetDisagreement_keeps _).trans
      ((post_keeps _ _ _).trans (servoEntered_keeps _ _ _)))
  · exact w.trans ((post_keeps _ _ _).trans (servoEntered_keeps _ _ _))

theorem clearPullRuns_keeps (s : State) : Keeps s (clearPullRuns s) :=
  (setServo_keeps s _).trans (refresh_keeps _ _ _)

theorem follow_keeps (k : Option Slot) (s : State) : Keeps s (follow k s) := setServo_keeps s _

theorem servoDeselected_keeps (s : State) : Keeps s (servoDeselected s) := by
  unfold servoDeselected
  dsimp only
  have runs (t : State) : Keeps t (clearPullRuns (t.setServo (clearLockRuns t.servo))) :=
    (setServo_keeps t _).trans (clearPullRuns_keeps _)
  split
  · exact (formHoldover_keeps s).trans ((runs _).trans (servoEnter_keeps _ _ _))
  · exact (setHoldover_keeps s _).trans ((runs _).trans (servoEnter_keeps _ _ _))

/-- The frequency estimate taken from the correction in force (R77). -/
theorem estimateFromF_keeps (s : State) :
    Keeps s (s.setServo { clearLockRuns s.servo with estimate := s.time.correction }) where
  alarms g := g
  frequency g := ⟨g.correction, g.correction⟩
  delays g := g
  history g := g
  levels g := g
  ports g := g

theorem servoToPhase_keeps (s : State) : Keeps s (servoToPhase s) := by
  unfold servoToPhase
  split
  · exact (estimateFromF_keeps s).trans (servoEnter_keeps _ _ _)
  · exact (estimateFromF_keeps s).trans (servoEnter_keeps _ _ _)
  · exact (setServo_keeps s _).trans (servoEnter_keeps _ _ _)
  · exact setServo_keeps s _
  · exact setServo_keeps s _

theorem servoToLine_keeps (s : State) : Keeps s (servoToLine s) := by
  unfold servoToLine
  split
  · exact (estimateFromF_keeps s).trans (servoEnter_keeps _ _ _)
  · exact (estimateFromF_keeps s).trans (servoEnter_keeps _ _ _)
  · exact .refl s
  · exact (setServo_keeps s _).trans (servoEnter_keeps _ _ _)
  · exact (setServo_keeps s _).trans (servoEnter_keeps _ _ _)

theorem servoSwitch_keeps (k : Option Slot) (s : State) : Keeps s (servoSwitch k s) := by
  refine (follow_keeps k s).trans ?_
  unfold servoSwitch
  dsimp only
  (repeat' split) <;> first
    | with_reducible exact .refl _
    | with_reducible exact servoDeselected_keeps _
    | with_reducible exact servoToLine_keeps _
    | with_reducible exact servoToPhase_keeps _

theorem grantToken_keeps (s : State) : Keeps s (grantToken s).1 := setServo_keeps s _

/-! ## Selector -/

theorem selectorConditions_keeps (s : State) : Keeps s (selectorConditions s) := refreshAll_keeps _ s

theorem switchTo_keeps (k : Option Slot) (c : EvalCause) (s : State) : Keeps s (switchTo k c s) :=
  (setSelector_keeps s _).trans ((post_keeps _ _ _).trans ((resetDisagreement_keeps _).trans
    ((holdoverSwitch_keeps _).trans ((servoSwitch_keeps _ _).trans (recomputeGrade_keeps _)))))

theorem choose_keeps (k : Option Slot) (c : EvalCause) (s : State) : Keeps s (choose k c s) := by
  unfold choose
  split
  · exact .refl s
  · exact switchTo_keeps _ _ _

theorem evaluateAuto_keeps (c : EvalCause) (s : State) : Keeps s (evaluateAuto c s) := by
  unfold evaluateAuto
  (repeat' split) <;> first
    | with_reducible exact .refl s
    | with_reducible exact choose_keeps _ _ _
    | with_reducible exact setSelector_keeps _ _

theorem evaluate_keeps (c : EvalCause) (s : State) : Keeps s (evaluate c s) := by
  unfold evaluate
  dsimp only
  refine .trans ?_ (selectorConditions_keeps _)
  split
  · exact evaluateAuto_keeps _ _
  · exact choose_keeps _ _ _
  · exact choose_keeps _ _ _

theorem reportToSelector_keeps (s : State) : Keeps s (reportToSelector s) := evaluate_keeps _ s

theorem dwellExpires_keeps (s : State) : Keeps s (dwellExpires s) := by
  unfold dwellExpires
  dsimp only
  have stop : Keeps s (s.setSelector { s.selector with dwell := Timer.stopped }) :=
    setSelector_keeps _ _
  split
  · refine .trans ?_ (setSelector_keeps _ _)
    (repeat' split) <;> first
      | with_reducible exact stop
      | with_reducible exact stop.trans ((choose_keeps _ _ _).trans (selectorConditions_keeps _))
  · exact .refl s

theorem writeMode_keeps (m : SelMode) (v : Option SelMode) (s : State) : Keeps s (writeMode m v s) :=
  (setSelector_keeps s _).trans (evaluate_keeps _ _)

theorem modeHold_keeps (s : State) : Keeps s (modeHold s).1 := by
  unfold modeHold
  split
  · exact .refl s
  · exact writeMode_keeps .hold _ s

theorem modeRelease_keeps (s : State) : Keeps s (modeRelease s).1 := by
  unfold modeRelease
  split
  · exact writeMode_keeps _ none s
  · exact .refl s

theorem modeSelect_keeps (k : Slot) (s : State) : Keeps s (modeSelect k s) := writeMode_keeps _ _ s

theorem modeAuto_keeps (s : State) : Keeps s (modeAuto s) := writeMode_keeps _ _ s

/-! ## Monitors -/

/-- One monitor written. -/
theorem modRef_levels (k : Slot) (f : Monitor → Monitor) (s : State)
    (h : (s.ref k).level ≤ levelMax (s.ref k).config →
      (f (s.ref k)).level ≤ levelMax (f (s.ref k)).config) : Keeps s (modRef k f s) where
  alarms g := g
  frequency g := ⟨g.estimate, g.correction⟩
  delays g := g
  history g := g
  ports g := g
  levels g j := by
    unfold modRef
    rw [State.setRef_ref_eq]
    split
    · exact h (g k)
    · exact g j

/-- One monitor written, its level and record aside. -/
theorem modRef_keeps (k : Slot) (f : Monitor → Monitor) (s : State)
    (hl : (f (s.ref k)).level = (s.ref k).level := by rfl)
    (hc : (f (s.ref k)).config = (s.ref k).config := by rfl) :
    Keeps s (modRef k f s) := modRef_levels k f s fun h => by rw [hl, hc]; exact h

theorem monitorConditions_keeps (k : Slot) (s : State) : Keeps s (monitorConditions k s) := by
  unfold monitorConditions
  dsimp only
  split
  · exact (refreshAll_keeps _ _).trans (refresh_keeps _ _ _)
  · exact refreshAll_keeps _ _

theorem filterFollows_keeps (k : Slot) (s : State) : Keeps s (filterFollows k s) := by
  unfold filterFollows; split
  · exact setFilter_keeps _ _
  · exact .refl s

theorem enterChecking_keeps (k : Slot) (s : State) : Keeps s (enterChecking k s) :=
  (modRef_levels k _ s fun _ => Nat.zero_le _).trans
    ((monitorConditions_keeps _ _).trans (reportToSelector_keeps _))

theorem enterAbsent_keeps (k : Slot) (s : State) : Keeps s (enterAbsent k s) :=
  (modRef_keeps k _ s).trans ((filterFollows_keeps _ _).trans
    ((monitorConditions_keeps _ _).trans (reportToSelector_keeps _)))

theorem enterDisabled_keeps (k : Slot) (c : ReferenceConfig) (s : State) :
    Keeps s (enterDisabled k c s) :=
  (modRef_levels k _ s fun _ => Nat.zero_le _).trans ((filterFollows_keeps _ _).trans
    ((monitorConditions_keeps _ _).trans (reportToSelector_keeps _)))

theorem failSlot_keeps (c : FailCause) (k : Slot) (s : State) : Keeps s (failSlot c k s) := by
  unfold failSlot; split
  · exact (modRef_keeps k _ s).trans
      ((monitorConditions_keeps _ _).trans (reportToSelector_keeps _))
  · exact .refl s

theorem signalAppears_keeps (k : Slot) (s : State) : Keeps s (signalAppears k s) := by
  unfold signalAppears
  dsimp only
  have w : Keeps s (modRef k (fun m => { m with signal := true }) s) := modRef_keeps k _ s
  (repeat' split)
  · exact .refl s
  · exact w.trans (enterChecking_keeps _ _)
  · exact w.trans (monitorConditions_keeps _ _)

theorem declareLoss_keeps (k : Slot) (s : State) : Keeps s (declareLoss k s) := by
  unfold declareLoss; split
  · exact (modRef_keeps k _ s).trans ((monitorConditions_keeps _ _).trans (failSlot_keeps _ _ _))
  · exact .refl s

theorem missEpoch_keeps (l : Nat) (k : Slot) (s : State) : Keeps s (missEpoch l k s) := by
  have w : Keeps s (modRef k missedEpoch s) := modRef_keeps k _ s
  unfold missEpoch
  dsimp only
  split
  · exact w.trans (declareLoss_keeps _ _)
  · exact w

theorem goodEpoch_keeps (k : Slot) (s : State) : Keeps s (goodEpoch k s) := modRef_keeps k _ s

theorem demandRaise_keeps (b : Bool) (k : Slot) (s : State) : Keeps s (demandRaise b k s) := by
  unfold demandRaise; split
  · rename_i h; exact modRef_levels k _ s fun _ => h
  · exact failSlot_keeps _ _ _

theorem periodEnds_keeps (k : Slot) (s : State) : Keeps s (periodEnds k s) := by
  have w : Keeps s (modRef k (fun m => { m with period := m.period.taken }) s) :=
    modRef_keeps k _ s
  have lower (t : State) : Keeps t (modRef k loweredMonitor t) :=
    modRef_levels k _ t fun h => (Nat.sub_le _ _).trans h
  have new (t : State) : Keeps t (modRef k newPeriod t) := modRef_keeps k _ t
  unfold periodEnds
  dsimp only
  split
  · (repeat' split) <;> first
      | with_reducible exact w.trans ((demandRaise_keeps _ _ _).trans (new _))
      | with_reducible exact w.trans (demandRaise_keeps _ _ _)
      | with_reducible exact w.trans ((lower _).trans (new _))
      | with_reducible exact w.trans (lower _)
      | with_reducible exact w.trans (new _)
      | with_reducible exact w
  · exact .refl s

theorem qualifies_keeps (k : Slot) (s : State) : Keeps s (qualifies k s) := by
  have w : Keeps s (modRef k (fun m => { m with qualify := m.qualify.taken }) s) :=
    modRef_keeps k _ s
  unfold qualifies
  dsimp only
  (repeat' split)
  · exact w.trans ((modRef_keeps k _ _).trans (reportToSelector_keeps _))
  · exact w
  · exact .refl s

theorem waitEnds_keeps (k : Slot) (s : State) : Keeps s (waitEnds k s) := by
  have w : Keeps s (modRef k (fun m => { m with wait := m.wait.taken }) s) :=
    modRef_keeps k _ s
  unfold waitEnds
  dsimp only
  (repeat' split)
  · exact w.trans (enterChecking_keeps _ _)
  · exact w.trans (enterAbsent_keeps _ _)
  · exact w
  · exact .refl s

theorem monitorsStep_keeps (ev : StepEvent) (s : State) : Keeps s (monitorsStep ev s) :=
  setRefs_keeps s _ fun k => by
    simp only [mapRefs_get, windowStep, monitorStep]
    (repeat' split) <;> exact ⟨rfl, rfl⟩

theorem agreementJudge_keeps (s : State) : Keeps s (agreementJudge s) := by
  unfold agreementJudge
  dsimp only
  (repeat' split)
  · exact (failSlot_keeps _ _ _).trans (resetDisagreement_keeps _)
  · exact .refl s
  · exact .foldl (α := Slot) (fun s k => failSlot_keeps _ k s) _ s
  · exact .refl s

/-! ## Scheduler -/

theorem refreshLeap_keeps (s : State) : Keeps s (refreshLeap s) := setTime_keeps s _

theorem enterAction_keeps (k : Option ActionKind) (d : Nat) (a : Option Nat) (o : ActionSource)
    (s : State) : Keeps s (enterAction k d a o s).1 := by
  unfold enterAction
  dsimp only
  (repeat' split) <;> first
    | with_reducible exact .refl s
    | with_reducible exact (setScheduler_keeps s _).trans (refreshLeap_keeps _)

theorem byOffset_keeps (a : Action) (s : State) : Keeps s (byOffset a s).1 := setTime_keeps s _

theorem takeEffect_keeps (a : Action) (s : State) : Keeps s (takeEffect a s).1 := by
  unfold takeEffect byPort byMode
  dsimp only
  (repeat' split) <;> first
    | with_reducible exact .refl s
    | with_reducible exact byOffset_keeps _ s
    | with_reducible exact modeSelect_keeps _ s
    | with_reducible exact modeAuto_keeps s
    | with_reducible exact modeHold_keeps s
    | with_reducible exact modeRelease_keeps s
    | with_reducible exact portEnable_keeps _ _ s
    | with_reducible exact portDisable_keeps _ _ s

theorem removeAction_keeps (n : Nat) (s : State) : Keeps s (removeAction n s) :=
  (setScheduler_keeps s _).trans (refreshLeap_keeps _)

theorem takeAction_keeps (l : Bool) (s : State) (a : Action) : Keeps s (takeAction l s a) := by
  have w : Keeps s (takeEffect a (removeAction a.id s)).1 :=
    (removeAction_keeps _ s).trans (takeEffect_keeps a _)
  unfold takeAction
  dsimp only
  split
  · exact w.trans ((post_keeps _ _ _).trans (post_keeps _ _ _))
  · exact w.trans (post_keeps _ _ _)

theorem markDue_keeps (n : Nat) (s : State) : Keeps s (markDue n s) := setScheduler_keeps s _

theorem boundaryActions_keeps (s : State) : Keeps s (boundaryActions s) :=
  .foldl (fun s a => takeAction_keeps false s a) _ s

theorem schedulerStep_keeps (ev : StepEvent) (s : State) : Keeps s (schedulerStep ev s) :=
  .foldl (fun s a => takeAction_keeps true s a) _ s

/-! ## Steps and the servo's update -/

theorem presentStep_keeps (ev : StepEvent) (s : State) : Keeps s (presentStep ev s) :=
  (setChain_keeps s _).trans ((setFilter_keeps _ _).trans ((monitorsStep_keeps ev _).trans
    ((holdoverStep_keeps _).trans ((portsStep_keeps ev _).trans (schedulerStep_keeps ev _)))))

theorem moveTime_keeps (a : Int) (s : State) : Keeps s (moveTime a s) := setTime_keeps s _

theorem performStep_keeps (k : StepKind) (a : Int) (s : State) : Keeps s (performStep k a s) := by
  unfold performStep
  dsimp only
  split
  · exact .refl s
  · exact (moveTime_keeps a s).trans ((setTime_keeps _ _).trans ((setServo_keeps _ _).trans
      ((post_keeps _ _ _).trans (presentStep_keeps _ _))))

/-- The time-set flag set. -/
theorem setTimeSet_keeps (s : State) (t : TimeBase) (hs : t.timeSet = true)
    (hf : t.correction = s.time.correction := by rfl) : Keeps s (s.setTime t) where
  alarms g := g
  frequency g := ⟨g.estimate, by simpa [hf] using g.correction⟩
  delays g := g
  history g := g
  levels g := g
  ports g := by
    refine ⟨fun e => ?_, fun p => ?_⟩
    · simp [hs] at e
    · have := g.2 p
      exact ⟨fun _ => hs, this.active, this.policy, this.rearming⟩

theorem timeGiven_keeps (s : State) : Keeps s (timeGiven s) :=
  (refresh_keeps _ _ s).trans (recomputeGrade_keeps _)

theorem timeSetting_keeps (k : Slot) (d : Int) (s : State) : Keeps s (timeSetting k d s) := by
  unfold timeSetting
  dsimp only
  have w (n : NoticeDetail) (t : State) :
      Keeps t (timeGiven ((t.setTime { t.time with timeSet := true, pendingSet := none }).post n 0)) :=
    (setTimeSet_keeps t _ rfl).trans ((post_keeps _ _ _).trans (timeGiven_keeps _))
  split
  · exact (moveTime_keeps _ s).trans (w _ _)
  · exact (moveTime_keeps _ s).trans ((w _ _).trans (presentStep_keeps _ _))

/-- A ramp toward a target in range stays in range (R84). -/
theorem rampTo_pull {p : Nat} {f t : Int} (r : Nat) (hf : f.natAbs ≤ p) (ht : t.natAbs ≤ p) :
    (rampTo r f t).1.natAbs ≤ p := by
  unfold rampTo clampTo
  dsimp only
  omega

theorem moveLoop_pull (c : ServoConfig) (r : Nat) (i f : Int) (a : Option Nat) (b : Nat)
    (p : Option Int) (d : Int) (hf : f.natAbs ≤ c.pullRange) :
    (moveLoop c r i f a b p d).estimate.natAbs ≤ c.pullRange ∧
    (moveLoop c r i f a b p d).correction.natAbs ≤ c.pullRange :=
  ⟨clampTo_natAbs _ _, rampTo_pull _ hf (clampTo_natAbs _ _)⟩

theorem writeMove_keeps (m : Move) (s : State)
    (h : s.time.correction.natAbs ≤ s.servo.config.pullRange →
      m.estimate.natAbs ≤ s.servo.config.pullRange ∧
      m.correction.natAbs ≤ s.servo.config.pullRange) : Keeps s (writeMove m s) where
  alarms g := g
  frequency g := ⟨(h g.correction).1, (h g.correction).2⟩
  delays g := g
  history g := g
  levels g := g
  ports g := g

theorem countPull_keeps (b : Bool) (s : State) : Keeps s (countPull b s) := by
  refine .trans (setServo_keeps s _ ?_ ?_) (refresh_keeps _ _ _) <;>
    unfold clampedRuns unclampedRuns <;> dsimp only <;> (repeat' split) <;> rfl

theorem judgeAcquiring_keeps (e : Int) (s : State) : Keeps s (judgeAcquiring e s) := by
  unfold judgeAcquiring
  dsimp only
  (repeat' split)
  · exact (setServo_keeps s _).trans (servoEnter_keeps _ _ _)
  · exact setServo_keeps s _
  · exact setServo_keeps s _

theorem judgeLocked_keeps (e : Int) (s : State) : Keeps s (judgeLocked e s) := by
  unfold judgeLocked
  dsimp only
  (repeat' split)
  · exact (setServo_keeps s _).trans (servoEnter_keeps _ _ _)
  · exact setServo_keeps s _
  · exact setServo_keeps s _

theorem firstUpdate_keeps (e : Int) (s : State) : Keeps s (firstUpdate e s) := by
  unfold firstUpdate
  dsimp only
  (repeat' split)
  · exact (setServo_keeps s _).trans ((setServo_keeps _ _).trans (servoEnter_keeps _ _ _))
  · exact setServo_keeps s _
  · exact .refl s

theorem phaseStepUpdate_keeps (e : Int) (s : State) : Keeps s (phaseStepUpdate e s).result :=
  (setServo_keeps s (clearLockRuns s.servo)).trans (performStep_keeps _ _ _)

theorem slewUpdate_keeps (e : Int) (l : Nat) (s : State) : Keeps s (slewUpdate e l s).result := by
  have w (m : Move) (b : Bool) (h : s.time.correction.natAbs ≤ s.servo.config.pullRange →
      m.estimate.natAbs ≤ s.servo.config.pullRange ∧
      m.correction.natAbs ≤ s.servo.config.pullRange) :
      Keeps s (countPull b (writeMove m s)) := (writeMove_keeps m s h).trans (countPull_keeps _ _)
  unfold slewUpdate
  dsimp only
  split
  · exact (w _ _ (moveLoop_pull _ _ _ _ _ _ _ _)).trans (judgeAcquiring_keeps _ _)
  · exact (w _ _ (moveLoop_pull _ _ _ _ _ _ _ _)).trans (judgeLocked_keeps _ _)

theorem phaseUpdate_keeps (e : Int) (l : Nat) (s : State) : Keeps s (phaseUpdate e l s).result := by
  unfold phaseUpdate
  dsimp only
  split
  · exact (firstUpdate_keeps e s).trans (phaseStepUpdate_keeps _ _)
  · exact (firstUpdate_keeps e s).trans (slewUpdate_keeps _ _ _)

theorem freqUpdate_keeps (e : Int) (s : State) : Keeps s (freqUpdate e s).result :=
  (writeMove_keeps _ s (moveLoop_pull _ _ _ _ _ _ _ _)).trans (countPull_keeps _ _)

theorem secondsUpdate_keeps (d : Int) (s : State) : Keeps s (secondsUpdate d s).result :=
  performStep_keeps _ _ s

theorem recordHandoff_keeps (k : Slot) (m : Measurement) (s : State) :
    Keeps s (recordHandoff k m s) := by
  unfold recordHandoff
  dsimp only
  split <;> exact setServo_keeps s _

theorem reportUpdate_keep (k : Slot) (v : Int) (l : Nat) (b : State) (u : Update) :
    Keeps u.result (reportUpdate k v l b u) :=
  (setServo_keeps u.result _).trans (takeReport_keeps _ _)

theorem handoffUpdate_keeps (k : Slot) (m : Measurement) (l : Nat) (b : Bool) (s : State) :
    Keeps s (handoffUpdate k m l b s) := by
  unfold handoffUpdate servoUpdate
  dsimp only
  refine (recordHandoff_keeps k m s).trans ?_
  split
  · rename_i u hu
    refine .trans ?_ (reportUpdate_keep _ _ _ _ u)
    (repeat' split at hu) <;> first
      | with_reducible cases hu
    all_goals first
      | with_reducible exact secondsUpdate_keeps _ _
      | with_reducible exact phaseUpdate_keeps _ _ _
      | with_reducible exact freqUpdate_keeps _ _
  · exact .refl _

theorem handoff_keeps (k : Slot) (m : Measurement) (b : Bool) (s : State) :
    Keeps s (handoff k m b s) := by
  unfold handoff
  dsimp only
  (repeat' split) <;> first
    | with_reducible exact .refl s
    | with_reducible exact handoffUpdate_keeps _ _ _ _ s
    | with_reducible exact timeSetting_keeps _ _ s
    | with_reducible exact (timeSetting_keeps _ _ s).trans (handoffUpdate_keeps _ _ _ _ _)

/-! ## Measurements and the sample filter -/

theorem wanderJudge_keeps (k : Slot) (v : Int) (s : State) : Keeps s (wanderJudge k v s) := by
  unfold wanderJudge
  dsimp only
  (repeat' split)
  · exact (modRef_keeps k _ s).trans (demandRaise_keeps _ _ _)
  · exact modRef_keeps k _ s
  · exact .refl s

theorem recordedMonitor_keeps (k : Slot) (x : Measurement) (s : State) :
    Keeps s (modRef k (recordedMonitor k x) s) := by
  refine modRef_keeps k _ s ?_ ?_ <;> unfold recordedMonitor <;> split <;> rfl

theorem labelledMonitor_keeps (k : Slot) (b : Bool) (s : State) :
    Keeps s (modRef k (labelledMonitor b) s) := by
  refine modRef_keeps k _ s ?_ ?_ <;> unfold labelledMonitor <;> split <;> rfl

theorem recordMeasurement_keeps (k : Slot) (x : Measurement) (s : State) :
    Keeps s (recordMeasurement k x s) := by
  have r := recordedMonitor_keeps k x s
  have l := r.trans ((labelledMonitor_keeps k x.ds.isSome _).trans
    (refresh_keeps .labelMissing (slotNumber k) _))
  have e (t : State) : Keeps t (recomputeGrade (reportToSelector t)) :=
    (reportToSelector_keeps t).trans (recomputeGrade_keeps _)
  unfold recordMeasurement
  dsimp only
  (repeat' split) <;> first
    | with_reducible exact l
    | with_reducible exact r
    | with_reducible exact l.trans (e _)
    | with_reducible exact r.trans (e _)

theorem timeCheck_keeps (k : Slot) (x : Measurement) (s : State) : Keeps s (timeCheck k x s).1 := by
  unfold timeCheck
  dsimp only
  (repeat' split) <;> first
    | with_reducible exact .refl s
    | with_reducible exact modRef_keeps k _ s
    | with_reducible exact (modRef_keeps k _ s).trans (modRef_keeps k _ _)
    | with_reducible exact (modRef_keeps k _ s).trans (failSlot_keeps _ _ _)

theorem agreementRun_keeps (k : Slot) (v : Int) (s : State) : Keeps s (agreementRun k v s) := by
  unfold agreementRun
  split
  · exact modRef_keeps k _ s
  · exact .refl s

theorem checkMeasurement_keeps (k : Slot) (x : Measurement) (s : State) :
    Keeps s (checkMeasurement k x s) := by
  have w := (timeCheck_keeps k x s).trans (agreementRun_keeps k x.value _)
  unfold checkMeasurement
  dsimp only
  (repeat' split)
  · exact w.trans (handoff_keeps _ _ _ _)
  · exact w
  · exact timeCheck_keeps k x s

theorem takeMeasurement_keeps (k : Slot) (x : Measurement) (s : State) :
    Keeps s (takeMeasurement k x s) := by
  have w := wanderJudge_keeps k x.value s
  unfold takeMeasurement
  dsimp only
  (repeat' split) <;> first
    | with_reducible exact .refl s
    | with_reducible exact recordMeasurement_keeps k x s
    | with_reducible exact w.trans ((recordMeasurement_keeps k x _).trans (checkMeasurement_keeps k x _))
    | with_reducible exact w.trans (recordMeasurement_keeps k x _)

theorem judgeSample_keeps (x : Sample) (s : State) : Keeps s (judgeSample x s).1 := by
  unfold judgeSample
  dsimp only
  split
  · exact (setFilter_keeps s _).trans (signalAppears_keeps _ _)
  · exact setFilter_keeps s _

theorem filterBoundary_keeps (n : Nat) (s : State) : Keeps s (filterBoundary n s) := by
  unfold filterBoundary
  dsimp only
  (repeat' split)
  · exact (setFilter_keeps s _).trans ((setFilter_keeps _ _).trans ((goodEpoch_keeps _ _).trans
      (takeMeasurement_keeps _ _ _)))
  · exact (setFilter_keeps s _).trans (missEpoch_keeps _ _ _)
  · exact .refl s

/-! ## Chain -/

theorem modChain_keeps (f : ChainUnit → ChainUnit) (s : State) : Keeps s (modChain f s) :=
  setChain_keeps s _

theorem modRecord_keeps (p : ChainPort) (f : ChainRecord → ChainRecord) (s : State) :
    Keeps s (modRecord p f s) := modChain_keeps _ s

theorem chainConditions_keeps (s : State) : Keeps s (chainConditions s) := refreshAll_keeps _ s

theorem captureMarker_keeps (p : ChainPort) (s : State) : Keeps s (captureMarker p s) := by
  unfold captureMarker
  split
  · exact .refl s
  · exact modRecord_keeps _ _ s

theorem actOnCommand_keeps (c : ChainCommand) (s : State) : Keeps s (actOnCommand c s).1 := by
  unfold actOnCommand
  dsimp only
  (repeat' split) <;> first
    | with_reducible exact .refl s
    | with_reducible exact modeHold_keeps s
    | with_reducible exact modeRelease_keeps s
    | with_reducible exact enterAction_keeps _ _ _ _ s
    | with_reducible exact grantToken_keeps s

theorem takeCommand_keeps (c : ChainCommand) (s : State) : Keeps s (takeCommand c s) := by
  unfold takeCommand
  dsimp only
  (repeat' split)
  · exact (modChain_keeps _ s).trans (post_keeps _ _ _)
  · exact (modChain_keeps _ s).trans ((actOnCommand_keeps c _).trans (post_keeps _ _ _))
  · exact .refl s

theorem takeFrameCommand_keeps (f : TimeFrame) (s : State) : Keeps s (takeFrameCommand f s) := by
  unfold takeFrameCommand
  split
  · exact takeCommand_keeps _ s
  · exact .refl s

theorem takeWord_keeps (w : Word32) (o : Nat) (s : State) : Keeps s (takeWord w o s) := by
  unfold takeWord
  dsimp only
  split <;> exact (modChain_keeps _ s).trans (post_keeps _ _ _)

theorem takeFrameWord_keeps (f : TimeFrame) (s : State) : Keeps s (takeFrameWord f s) := by
  unfold takeFrameWord
  split
  · exact takeWord_keeps _ _ s
  · exact .refl s

theorem chainMonitorTakes_keeps (p : ChainPort) (f : TimeFrame) (c : Option Int) (s : State) :
    Keeps s (chainMonitorTakes p f c s) := by
  unfold chainMonitorTakes
  dsimp only
  split
  · exact (signalAppears_keeps _ s).trans (takeMeasurement_keeps _ _ _)
  · exact signalAppears_keeps _ s

theorem upstreamTakes_keeps (p : ChainPort) (f : TimeFrame) (c : Option Int) (b : Bool) (s : State) :
    Keeps s (upstreamTakes p f c b s) := by
  have m := modChain_keeps (fun u => { u with lastUpstream := some (upstreamFrame f) }) s
  have w (t : State) : Keeps t (modChain (fillRelay f) (takeFrameWord f t)) :=
    (takeFrameWord_keeps f t).trans (modChain_keeps _ _)
  unfold upstreamTakes
  dsimp only
  split
  · exact m.trans ((takeFrameCommand_keeps f _).trans ((chainMonitorTakes_keeps p f c _).trans (w _)))
  · exact m.trans ((chainMonitorTakes_keeps p f c _).trans ((takeFrameCommand_keeps f _).trans (w _)))

theorem memberDiscards_keeps (p : ChainPort) (f : TimeFrame) (s : State) :
    Keeps s (memberDiscards p f s) := by
  have long := (modRecord_keeps p (fun r => { r with tooLong := satSucc Config.count16 r.tooLong }) s)
    |>.trans (modChain_keeps (fun u => { u with tooLong := Timer.start 3 }) _)
  have own (t : State) :=
    modRecord_keeps p (fun r => { r with ownAddress := satSucc Config.count16 r.ownAddress }) t
  have conflict (t : State) := modChain_keeps (fun u => { u with conflict := Timer.start 3 }) t
  unfold memberDiscards
  dsimp only
  refine .trans ?_ (chainConditions_keeps _)
  (repeat' split) <;> first
    | with_reducible exact .refl s
    | with_reducible exact own s
    | with_reducible exact long
    | with_reducible exact (own s).trans (conflict _)
    | with_reducible exact long.trans (own _)
    | with_reducible exact long.trans ((own _).trans (conflict _))

theorem memberTakes_keeps (p : ChainPort) (f : TimeFrame) (c : Option Int) (b : Bool) (s : State) :
    Keeps s (memberTakes p f c b s) := by
  have w := (modRecord_keeps p (validRecord f) s).trans (chainConditions_keeps _)
  unfold memberTakes
  dsimp only
  (repeat' split)
  · exact w.trans (upstreamTakes_keeps _ _ _ _ _)
  · exact w
  · exact memberDiscards_keeps _ _ s

theorem leaderTakes_keeps (p : ChainPort) (f : TimeFrame) (s : State) :
    Keeps s (leaderTakes p f s) := by
  have w (g : ChainRecord → ChainRecord) : Keeps s
      (if frameOrigin f = (modRecord p g s).chain.address then modRecord p g s
       else chainConditions (modChain (fun u => { u with conflict := Timer.start 3 })
         (modRecord p g s))) := by
    split
    · exact modRecord_keeps _ _ s
    · exact (modRecord_keeps _ _ s).trans ((modChain_keeps _ _).trans (chainConditions_keeps _))
  exact w _

theorem receiveFrame_keeps (p : ChainPort) (l : List Byte) (b : Bool) (s : State) :
    Keeps s (receiveFrame p l b s) := by
  unfold receiveFrame
  dsimp only
  (repeat' split)
  · exact .refl s
  · exact (modRecord_keeps _ _ s).trans (modRecord_keeps _ _ _)
  · exact (modRecord_keeps _ _ s).trans (leaderTakes_keeps _ _ _)
  · exact (modRecord_keeps _ _ s).trans (memberTakes_keeps _ _ _ _ _)

theorem sentNotices_keeps (x : Carried) (s : State) : Keeps s (sentNotices x s) := by
  unfold sentNotices
  dsimp only
  (repeat' split) <;> first
    | with_reducible exact .refl s
    | with_reducible exact post_keeps _ _ s
    | with_reducible exact (post_keeps _ _ s).trans (post_keeps _ _ _)

theorem composeFrame_keeps (r : SecondRecord) (d : FrameDue) (s : State) :
    Keeps s (composeFrame r d s) := (setChain_keeps s _).trans (sentNotices_keeps _ _)

theorem composeDue_keeps (s : State) : Keeps s (composeDue s) := by
  unfold composeDue
  (repeat' split)
  · exact composeFrame_keeps _ _ s
  · exact .refl s
  · exact .refl s

theorem chainSend_keeps (n : Nat) (s : State) : Keeps s (chainSend n s) := by
  unfold chainSend
  split
  · exact (modChain_keeps _ s).trans (composeDue_keeps _)
  · exact .refl s

theorem changeUpstream_keeps (p : Option ChainPort) (r : PathReason) (s : State) :
    Keeps s (changeUpstream p r s) := by
  unfold changeUpstream
  dsimp only
  split
  · exact (modChain_keeps _ s).trans ((post_keeps _ _ _).trans (modRef_keeps _ _ _))
  · exact (modChain_keeps _ s).trans (post_keeps _ _ _)

theorem detach_keeps (s : State) : Keeps s (detach s) :=
  (modChain_keeps _ s).trans (changeUpstream_keeps _ _ _)

theorem judgeUpstream_keeps (s : State) : Keeps s (judgeUpstream s) := by
  unfold judgeUpstream judgeUnattached judgeLoss judgeGrade
  dsimp only
  (repeat' split) <;> first
    | with_reducible exact .refl s
    | with_reducible exact detach_keeps s
    | with_reducible exact modChain_keeps _ s
    | with_reducible exact changeUpstream_keeps _ _ s
    | with_reducible exact (modChain_keeps _ s).trans ((modChain_keeps _ _).trans (changeUpstream_keeps _ _ _))

theorem sendWaiting_keeps (s : State) : Keeps s (sendWaiting s) := by
  unfold sendWaiting
  split
  · exact (modChain_keeps _ s).trans (chainSend_keeps _ _)
  · exact .refl s

theorem swapExpires_keeps (s : State) : Keeps s (swapExpires s) := by
  unfold swapExpires swapActs
  (repeat' split) <;> first
    | with_reducible exact .refl s
    | with_reducible exact (detach_keeps s).trans (sendWaiting_keeps _)
    | with_reducible exact (changeUpstream_keeps _ _ s).trans (sendWaiting_keeps _)
    | with_reducible exact (modChain_keeps _ s).trans (sendWaiting_keeps _)

theorem chainEpoch_keeps (b : Bool) (s : State) : Keeps s (chainEpoch b s) := by
  unfold chainEpoch
  (repeat' split)
  · exact goodEpoch_keeps _ s
  · exact missEpoch_keeps _ _ s
  · exact .refl s

theorem sendOrWait_keeps (n : Nat) (s : State) : Keeps s (sendOrWait n s) := by
  unfold sendOrWait
  (repeat' split) <;> first
    | with_reducible exact modChain_keeps _ s
    | with_reducible exact chainSend_keeps _ s

theorem chainBoundary_keeps (n : Nat) (s : State) : Keeps s (chainBoundary n s) := by
  have w (b : Bool) := ((modChain_keeps chainCounts s).trans (chainConditions_keeps _)).trans
    (chainEpoch_keeps b _)
  have e (t : State) : Keeps t (sendOrWait n (modChain tickChainTimers t)) :=
    (modChain_keeps _ t).trans (sendOrWait_keeps _ _)
  unfold chainBoundary
  dsimp only
  (repeat' split)
  · exact chainEpoch_keeps _ s
  · exact (w _).trans ((judgeUpstream_keeps _).trans (e _))
  · exact (w _).trans (e _)

theorem conflictExpires_keeps (s : State) : Keeps s (conflictExpires s) := by
  unfold conflictExpires
  split
  · exact (modChain_keeps _ s).trans (chainConditions_keeps _)
  · exact .refl s

theorem tooLongExpires_keeps (s : State) : Keeps s (tooLongExpires s) := by
  unfold tooLongExpires
  split
  · exact (modChain_keeps _ s).trans (chainConditions_keeps _)
  · exact .refl s

theorem configureChain_keeps (c : ChainConfig) (s : State) : Keeps s (configureChain c s) := by
  unfold configureChain
  dsimp only
  (repeat' split)
  · exact (modChain_keeps _ s).trans ((modChain_keeps _ _).trans (chainConditions_keeps _))
  · exact (modChain_keeps _ s).trans (modRef_keeps _ _ _)
  · exact modChain_keeps _ s

/-! ## The count, expiries and boundaries -/

theorem countPicos_keeps (n : Nat) (s : State) : Keeps s (countPicos n s) := by
  refine (setTime_keeps s _).trans (setRefs_keeps _ _ fun k => ?_)
  cases k <;> exact ⟨rfl, rfl⟩

theorem runTo_keeps (n : Nat) (s : State) : Keeps s (runTo n s) := by
  unfold runTo
  split
  · exact countPicos_keeps _ s
  · exact .refl s

theorem slotExpiries_keeps (s : State) (k : Slot) : Keeps s (slotExpiries s k) :=
  (periodEnds_keeps k s).trans ((qualifies_keeps k _).trans (waitEnds_keeps k _))

theorem entryExpiries_keeps (s : State) (x : AlarmKind × Nat) : Keeps s (entryExpiries s x) :=
  (moveAlarm_keeps _ _ _ s).trans (moveAlarm_keeps _ _ _ _)

theorem closeWindow_keeps (k : SatSlot) (s : State) : Keeps s (closeWindow k s) := by
  unfold closeWindow
  dsimp only
  (repeat' split)
  · exact (modRef_keeps _ _ s).trans (goodEpoch_keeps _ _)
  · exact (modRef_keeps _ _ s).trans (missEpoch_keeps _ _ _)
  · exact modRef_keeps _ _ s
  · exact .refl s

theorem closeWindows_keeps (s : State) : Keeps s (closeWindows s) :=
  (closeWindow_keeps _ s).trans (closeWindow_keeps _ _)

theorem alarmExpiries_keeps (s : State) : Keeps s (alarmExpiries s) :=
  .foldl entryExpiries_keeps _ s

/-- The expiries that are due, the soft restart aside. -/
theorem expiries_keeps (s : State) :
    Keeps s (alarmExpiries (tooLongExpires (conflictExpires (swapExpires
      (allPorts.foldl (fun s p => rearmExpires p s) (dwellExpires (closeWindows
        (allSlots.foldl slotExpiries s)))))))) :=
  (Keeps.foldl slotExpiries_keeps _ s).trans ((closeWindows_keeps _).trans
    ((dwellExpires_keeps _).trans
    ((Keeps.foldl (fun s p => rearmExpires_keeps p s) _ _).trans ((swapExpires_keeps _).trans
    ((conflictExpires_keeps _).trans ((tooLongExpires_keeps _).trans
    (alarmExpiries_keeps _)))))))

theorem passHalf_keeps (n : Nat) (s : State) : Keeps s (passHalf n s) := by
  unfold passHalf
  split
  · exact (runTo_keeps _ s).trans (closeWindows_keeps _)
  · exact .refl s

theorem runPast_keeps (n : Nat) (s : State) : Keeps s (runPast n s) :=
  (passHalf_keeps n s).trans (runTo_keeps _ _)

theorem runToEnd_keeps (s : State) : Keeps s (runToEnd s) :=
  (runPast_keeps _ s).trans (setTime_keeps _ _)

theorem countMonitor_frame (n : Nat) (k : Slot) (m : Monitor) :
    (countMonitor n k m).level = m.level ∧ (countMonitor n k m).config = m.config := by
  unfold countMonitor tickMonitor lineBoundary
  dsimp only
  (repeat' split) <;> exact ⟨rfl, rfl⟩

theorem tick_stopped {t : Timer} (h : t = Timer.stopped) : t.tick = Timer.stopped := by subst h; rfl

theorem tickPorts_keeps (s : State) :
    Keeps s (s.setPorts (s.ports.map (fun x => { x with rearm := x.rearm.tick, activated := false })))
    where
  alarms g := g
  frequency g := ⟨g.estimate, g.correction⟩
  delays g p := by simpa [State.port, State.setPorts] using g p
  history g := g
  levels g := g
  ports g := by
    refine ⟨g.1, fun p => ?_⟩
    have := g.2 p
    simp only [State.port, State.setPorts] at this ⊢
    simp only [Fin.getElem_fin, Vector.getElem_map] at this ⊢
    exact ⟨this.time, this.active, this.policy, fun e => this.rearming fun h => e (tick_stopped h)⟩

theorem countTimers_keeps (n : Nat) (s : State) : Keeps s (countTimers n s) := by
  refine .trans (.of_alarms tickEntries_law) (.trans (setRefs_keeps _ _ fun k => ?_)
    ((setSelector_keeps _ _).trans ((tickPorts_keeps _).trans (setHoldover_keeps _ _))))
  simpa using countMonitor_frame n k (s.refs.get k)

theorem applyPending_keeps (o : Nat) (p : PendingSet) (s : State) : Keeps s (applyPending o p s) := by
  have w (n : NoticeDetail) : Keeps s (timeGiven ((s.setTime
      { s.time with timeSet := true, offset := p.offset.getD s.time.offset, pendingSet := none }).post
        n 0)) :=
    (setTimeSet_keeps s _ rfl).trans ((post_keeps _ _ _).trans (timeGiven_keeps _))
  unfold applyPending
  dsimp only
  split
  · exact w _
  · exact (w _).trans (presentStep_keeps _ _)

theorem lineEpoch_keeps (k : LineSlot) (s : State) : Keeps s (lineEpoch k s) := by
  unfold lineEpoch
  dsimp only
  (repeat' split)
  · exact .refl s
  · exact modRef_keeps _ _ s
  · exact takeMeasurement_keeps _ _ s
  · exact .refl s

theorem servoBoundary_keeps (n : Nat) (s : State) : Keeps s (servoBoundary n s) := by
  unfold servoBoundary
  split
  · exact setServo_keeps s _
  · exact .refl s

theorem recordGrade_keeps (n : Nat) (s : State) : Keeps s (recordGrade n s) := by
  unfold recordGrade
  dsimp only
  exact (setHoldover_keeps s _).trans ((composeRecorded_keeps _ _).trans (composeDue_keeps _))

/-- The history after a minute closes has its room (R97). -/
theorem closeMinute_keeps (n : Nat) (s : State) :
    Keeps s (s.setHoldover (closeMinute n s.holdover)) where
  alarms g := g
  frequency g := ⟨g.estimate, g.correction⟩
  delays g := g
  levels g := g
  history g := by
    simp only [HistoryLaw, State.setHoldover_holdover] at g ⊢
    unfold closeMinute joinHistory
    (repeat' split)
    · simp only [List.length_take]; omega
    · exact g
    · exact g
  ports g := by
    have e : (closeMinute n s.holdover).grade = s.holdover.grade := by
      unfold closeMinute; split <;> rfl
    refine ⟨fun h => by simpa [e] using g.1 h, fun p => ?_⟩
    have := g.2 p
    simpa [e] using this

theorem holdoverBoundary_keeps (n : Nat) (s : State) : Keeps s (holdoverBoundary n s) := by
  unfold holdoverBoundary
  dsimp only
  split
  · exact (closeMinute_keeps n s).trans ((estimateSecond_keeps _).trans (recordGrade_keeps _ _))
  · exact (estimateSecond_keeps s).trans (recordGrade_keeps _ _)

/-! ## What arrives at the count's instant -/

theorem pulsedMonitor_keeps (k : Slot) (n : Nat) (s : State) :
    Keeps s (modRef k (pulsedMonitor n) s) := by
  refine modRef_keeps k _ s ?_ ?_ <;> unfold pulsedMonitor <;> split <;> rfl

theorem satPulseTaken_keeps (k : SatSlot) (s : State) : Keeps s (satPulseTaken k s) := by
  have w := ((closeWindow_keeps k s).trans (signalAppears_keeps (satSlot k) _)).trans
    (pulsedMonitor_keeps (satSlot k)
      (windowOf (signalAppears (satSlot k) (closeWindow k s)).reading) _)
  unfold satPulseTaken
  dsimp only
  split
  · exact w.trans (takeMeasurement_keeps _ _ _)
  · exact w

theorem lineEdgeTaken_keeps (k : LineSlot) (n : Nat) (s : State) : Keeps s (lineEdgeTaken k n s) := by
  have w := signalAppears_keeps (lineSlot k) s
  unfold lineEdgeTaken
  dsimp only
  split
  · exact w.trans ((goodEpoch_keeps _ _).trans (modRef_keeps _ _ _))
  · exact w.trans (modRef_keeps _ _ _)

theorem lineLossTaken_keeps (k : LineSlot) (s : State) : Keeps s (lineLossTaken k s) := by
  unfold lineLossTaken
  dsimp only
  split
  · exact (modRef_keeps _ _ s).trans (declareLoss_keeps _ _)
  · exact .refl s

theorem composeAtPulse_keeps (p : Fin 12) (n : Nat) (s : State) : Keeps s (composeAtPulse p n s) := by
  unfold composeAtPulse
  (repeat' split)
  · exact composeMessage_keeps _ _ _ s
  · exact .refl s
  · exact .refl s

/-- A port written, its state, record, delay, queue and re-arm timer aside. -/
theorem setPort_keeps (s : State) (p : Fin 12) (x : Port) (hs : x.state = (s.port p).state := by rfl)
    (hc : x.config = (s.port p).config := by rfl) (hr : x.rearm = (s.port p).rearm := by rfl)
    (hd : x.delay = (s.port p).delay := by rfl) (hq : x.queue = (s.port p).queue := by rfl) :
    Keeps s (s.setPort p x) :=
  .of_port p x (fun h => by rw [hd, hq]; exact h) fun _ h => portLaw_of_same h hs hc hr

theorem emitted_keeps (p : Fin 12) (n : Nat) (s : State) :
    Keeps s (s.setPort p (emitted n (s.port p))) := by
  refine setPort_keeps s p _ ?_ ?_ ?_ ?_ ?_ <;> unfold emitted <;> split <;> rfl

theorem useInstant_keeps (p : Fin 12) (n : Nat) (s : State) : Keeps s (useInstant p n s) := by
  unfold useInstant
  dsimp only
  refine .trans ?_ (serveHead_keeps _ _ _)
  split
  · exact setPort_keeps s p _
  · exact (emitted_keeps p n s).trans (composeAtPulse_keeps _ _ _)

theorem edgedPort_keeps (p : Fin 12) (k : Nat) (b : Bool) (s : State) :
    Keeps s (s.setPort p (edgedPort k b (s.port p))) := by
  unfold edgedPort
  (repeat' split) <;> exact setPort_keeps s p _

theorem satPulseArrives_keeps (k : SatSlot) (s : State) : Keeps s (satPulseArrives k s) := by
  unfold satPulseArrives
  split
  · exact .refl s
  · exact satPulseTaken_keeps k s

theorem lineEdgeArrives_keeps (k : LineSlot) (n : Nat) (s : State) :
    Keeps s (lineEdgeArrives k n s) := by
  unfold lineEdgeArrives
  split
  · exact .refl s
  · exact lineEdgeTaken_keeps k n s

theorem boundaryInstant_keeps (p : Fin 12) (n : Nat) (s : State) : Keeps s (boundaryInstant p n s) := by
  unfold boundaryInstant
  split
  · exact useInstant_keeps p n s
  · exact .refl s

theorem edgeArrives_keeps (p : Fin 12) (k : Nat) (b : Bool) (s : State) :
    Keeps s (edgeArrives p k b s) := by
  unfold edgeArrives
  split
  · exact edgedPort_keeps p k b s
  · exact .refl s

/-! ## The work of a boundary -/

theorem blockActs_keeps (n : Nat) (s : State) (b : Block) : Keeps s (blockActs n s b) := by
  cases b with
  | scheduler => exact boundaryActions_keeps s
  | filter => exact filterBoundary_keeps n s
  | line k => exact lineEpoch_keeps k s
  | agreement => exact agreementJudge_keeps s
  | servo => exact servoBoundary_keeps n s
  | ports => exact portsBoundary_keeps s
  | holdover => exact holdoverBoundary_keeps n s
  | chain => exact chainBoundary_keeps n s
  | slotTimers k => exact slotExpiries_keeps s k
  | dwell => exact dwellExpires_keeps s
  | rearm p => exact rearmExpires_keeps p s
  | alarms => exact alarmExpiries_keeps s
  | pulse k => exact satPulseArrives_keeps k s
  | edges k m => exact lineEdgeArrives_keeps k m s
  | silence k => exact lineLossTaken_keeps k s
  | marker p => exact captureMarker_keeps p s
  | frame p l c => exact receiveFrame_keeps p l c s
  | instant p => exact boundaryInstant_keeps p n s
  | clock p k r => exact edgeArrives_keeps p k r s

theorem expiriesFirst_keeps (n : Nat) (l : List Block) (s : State) : Keeps s (expiriesFirst n l s) :=
  .foldl (blockActs_keeps n) _ s

theorem blocksAct_keeps (n : Nat) (l : List Block) (s : State) : Keeps s (blocksAct n l s) :=
  .foldl (blockActs_keeps n) _ s

theorem markBoundary_keeps (l : List Block) (s : State) : Keeps s (markBoundary l s) := by
  have w := (((setTime_keeps s (markTime s.time)).trans (countTimers_keeps s.time.counted _)).trans
    (markDue_keeps (nextSecond s.time) _)).trans (expiriesFirst_keeps (nextSecond s.time) l _)
  unfold markBoundary
  dsimp only
  split
  · exact w.trans ((applyPending_keeps _ _ _).trans (blocksAct_keeps _ _ _))
  · exact w.trans (blocksAct_keeps _ _ _)

/-! ## Events within a second -/

theorem pulseEnd_keeps (p : Fin 12) (s : State) : Keeps s (pulseEnd p s) := by
  unfold pulseEnd
  (repeat' split)
  · exact setPort_keeps s p _
  · exact .refl s
  · exact .refl s

/-! ## Configuration by requests -/

theorem disabledMonitor_keeps (k : Slot) (c : ReferenceConfig) (s : State) :
    Keeps s (modRef k (disabledMonitor k c) s) := modRef_levels k _ s fun _ => Nat.zero_le _

theorem enableSlot_keeps (k : Slot) (c : ReferenceConfig) (s : State) : Keeps s (enableSlot k c s) :=
  (modRef_levels k _ s fun _ => Nat.zero_le _).trans ((filterFollows_keeps _ _).trans
    ((monitorConditions_keeps _ _).trans (reportToSelector_keeps _)))

theorem restartSlot_keeps (k : Slot) (c : ReferenceConfig) (s : State) :
    Keeps s (restartSlot k c s) := by
  have w : Keeps s (modRef k (restartCleared c) s) := modRef_levels k _ s fun _ => Nat.min_le_right _ _
  unfold restartSlot
  dsimp only
  split
  · exact w.trans (enterChecking_keeps _ _)
  · exact w.trans (enterAbsent_keeps _ _)

theorem configureSlot_keeps (k : Slot) (c : ReferenceConfig) (s : State) :
    Keeps s (configureSlot k c s) := by
  unfold configureSlot
  (repeat' split) <;> first
    | with_reducible exact .refl s
    | with_reducible exact disabledMonitor_keeps _ _ s
    | with_reducible exact enableSlot_keeps _ _ s
    | with_reducible exact enterDisabled_keeps _ _ s
    | with_reducible exact restartSlot_keeps _ _ s

theorem lockSlot_keeps (k : Slot) (b : Bool) (s : State) : Keeps s (lockSlot k b s) := by
  unfold lockSlot
  split
  · exact .refl s
  · exact (modRef_keeps _ _ s).trans (reportToSelector_keeps _)

theorem clearCounts_keeps (s : State) :
    Keeps s (s.setRefs (mapRefs (fun _ m => clearedCounts m) s.refs)) :=
  setRefs_keeps s _ fun k => by simp [clearedCounts]

theorem configureSelection_keeps (c : SelectionConfig) (s : State) :
    Keeps s (configureSelection c s) := (setSelector_keeps s _).trans (evaluate_keeps _ _)

/-- A new pull range, with I and F clamped to it (R89). -/
theorem configureServo_keeps (c : ServoConfig) (s : State) : Keeps s (configureServo c s) := by
  unfold configureServo clampLoop
  dsimp only
  split
  · refine .trans ?_ (clearPullRuns_keeps _)
    exact ⟨⟨id, fun _ => ⟨clampTo_natAbs _ _, clampTo_natAbs _ _⟩, id, id, id⟩, id⟩
  · rename_i h
    exact setServo_keeps s _ rfl (by simpa using Eq.symm (not_not.mp (by simpa using h)))

/-- A port record in range, written (R135). -/
theorem configurePort_keeps (c : PortConfig) (p : Fin 12) (s : State) (h : portOk c = true) :
    Keeps s (configurePort c p s) := by
  have hd : c.delayComp ≤ Config.maxDelay := by
    simp only [portOk, inRange, Bool.and_eq_true, decide_eq_true_eq] at h
    exact h.1.1.1.1.2.2
  have room : c.delayComp ≤ Config.maxDelay ∧ ([] : List Adjustment).length ≤ Config.adjustSize :=
    ⟨hd, Nat.zero_le _⟩
  unfold configurePort
  dsimp only
  split
  case h_1 e | h_2 e =>
    refine .of_port p _ (fun _ => room) fun _ g => portLaw_of_idle (by simp [e]) (by simp [e]) ?_
    by_contra hne
    have := (g.rearming hne).1
    simp_all
  all_goals
    exact portWriteMove_keeps p .held .request _ s (fun _ => room) fun _ _ =>
      portLaw_of_idle (by simp) (by simp) rfl

theorem setDropped_keeps (n : Nat) (s : State) :
    Keeps s (s.setAlarms { s.alarms with dropped := n }) :=
  .of_alarms fun h => ⟨h.queue, h.crit, h.maj, h.attention⟩

theorem reportOverflow_keeps (n : Nat) (s : State) : Keeps s (reportOverflow n s) := by
  unfold reportOverflow
  split
  · exact (post_keeps _ _ s).trans ((setDropped_keeps _ _).trans (declare_keeps _ _ _ _))
  · exact .refl s

end Sys2Proof.Machine
end

