-- ==== Sys2Proof/Laws/KeepsRequests.lean ====
section
/-!
SUPPORT. The laws kept by what requests, the link, the profile and the restarts do, from the shared
operations' lemmas: one lemma a request.
-/

-- One proof at a time: elaborated side by side, so many small proofs reserve too many thread stacks.
set_option Elab.async false

namespace Sys2Proof.Machine

open Sys2Proof.Safety

/-! ## Start-up and restart -/

theorem groupsAtReset_quiet (f : AlarmKind → AlarmConfig) (v : Severity) (b : Bool) :
    contactAsserted v (alarmsAtReset f b) = false := by
  simp [contactAsserted, alarmsAtReset, groupsAtReset, groupAtReset, allAlarmKinds, alarmCount,
    entryAtReset, holdsContact]

theorem alarmsAtReset_law (f : AlarmKind → AlarmConfig) (b : Bool) : AlarmLaw (alarmsAtReset f b) where
  queue := Nat.zero_le _
  crit := by rw [← outstanding_iff, groupsAtReset_quiet]; simp [alarmsAtReset]
  maj := by rw [← outstanding_iff, groupsAtReset_quiet]; simp [alarmsAtReset]
  attention := by simp [alarmsAtReset]

theorem declareAll_keeps (s : State) : Keeps s (declareAll s) := refreshAll_keeps _ s

/-- The laws of a state whose blocks have just started from a profile in range (R188). -/
structure Lawful (s : State) : Prop where
  alarms : AlarmLaw s.alarms
  frequency : FrequencyLaw s
  delays : DelayLaw s
  ports : GradeLaw s ∧ SquelchLaw s
  history : HistoryLaw s
  levels : LevelLaw s

theorem Keeps.lawful {s t : State} (h : Keeps s t) (g : Lawful s) : Lawful t :=
  ⟨h.alarms g.alarms, h.frequency g.frequency, h.delays g.delays, h.ports g.ports,
   h.history g.history, h.levels g.levels⟩

/-- The delay of a port record in range. -/
theorem portOk_delay {c : PortConfig} (h : portOk c = true) : c.delayComp ≤ Config.maxDelay := by
  simp only [portOk, inRange, Bool.and_eq_true, decide_eq_true_eq] at h
  exact h.1.1.1.1.2.2

theorem startedBlocks_lawful (p : Profile) (a : Nat) (s : State)
    (h : ∀ c ∈ p.ports.toList, portOk c = true) : Lawful (startedBlocks p a s) where
  alarms := alarmsAtReset_law _ _
  frequency := ⟨clampTo_natAbs _ _, clampTo_natAbs _ _⟩
  delays q := by
    simp only [State.port, startedBlocks, Fin.getElem_fin, Vector.getElem_map, portAtReset]
    exact ⟨portOk_delay (h _ (by simp)), Nat.zero_le _⟩
  ports := by
    refine ⟨fun _ => rfl, fun q => ?_⟩
    simp only [State.port, startedBlocks, Fin.getElem_fin, Vector.getElem_map, portAtReset]
    exact portLaw_of_idle (by split <;> simp) (by split <;> simp) rfl
  history := Nat.zero_le _
  levels k := by simp [State.ref, startedBlocks, monitorAtReset]

theorem enterRunning_lawful (p : Option Profile) (a : BitVec 3) (s : State)
    (h : ∀ q, p = some q → ∀ c ∈ q.ports.toList, portOk c = true) : Lawful (enterRunning p a s) := by
  unfold enterRunning
  refine (declareAll_keeps _).lawful ((setLink_keeps _ _).lawful (startedBlocks_lawful _ _ s ?_))
  cases p with
  | none => decide
  | some q => exact h q rfl

/-- The records of a delivered profile are in range (R188). -/
theorem goodProfile_ports {f : Option FlashImage} {q : Profile} (h : goodProfile f = some q) :
    ∀ c ∈ q.ports.toList, portOk c = true := by
  unfold goodProfile at h
  split at h
  · split at h
    · rename_i hg
      cases h
      simp only [imageGood, profileOk, Bool.and_eq_true, List.all_eq_true] at hg
      exact hg.2.1.1.2
    · cases h
  · cases h

theorem pinReset_lawful (m : LinkMode) (s : State) : Lawful (pinReset m s) where
  alarms := alarmsAtReset_law _ _
  frequency := ⟨Nat.zero_le _, Nat.zero_le _⟩
  delays q := by
    simp only [State.port, pinReset, State.reset, Fin.getElem_fin, Vector.getElem_replicate, portAtReset]
    exact ⟨by decide, Nat.zero_le _⟩
  ports := by
    refine ⟨fun _ => rfl, fun q => ?_⟩
    simp only [State.port, pinReset, State.reset, Fin.getElem_fin, Vector.getElem_replicate, portAtReset]
    exact portLaw_of_idle (by simp [defaultPort]) (by simp [defaultPort]) rfl
  history := Nat.zero_le _
  levels k := by simp [State.ref, pinReset, State.reset, monitorAtReset]

theorem restartedBlocks_keeps (s : State) : Keeps s (restartedBlocks s) where
  alarms _ := alarmsAtReset_law _ _
  frequency g := ⟨g.estimate, g.correction⟩
  delays g q := by
    have := g q
    simp only [State.port, restartedBlocks, Fin.getElem_fin, Vector.getElem_map] at this ⊢
    exact ⟨this.1, Nat.zero_le _⟩
  history g := g
  levels _ k := by simp [State.ref, restartedBlocks, monitorAtReset]
  ports g := by
    refine ⟨g.1, fun q => ?_⟩
    have := g.2 q
    simp only [State.port, restartedBlocks, Fin.getElem_fin, Vector.getElem_map] at this ⊢
    exact portLaw_of_same this rfl rfl rfl

/-- The alarm unit put back as it was. -/
theorem KeepsRest.alarmsBack {s t : State} (h : KeepsRest s t) : KeepsRest s (t.setAlarms s.alarms) :=
  ⟨id, fun g => ⟨(h.frequency g).estimate, (h.frequency g).correction⟩, h.delays, h.history, h.levels⟩

theorem restartedGrade_keeps (s : State) : Keeps s (restartedGrade s) := by
  have w : KeepsRest s (s.setHoldover { s.holdover with grade := gradeNow s }) :=
    ⟨id, fun h => ⟨h.estimate, h.correction⟩, id, id, id⟩
  refine ⟨(w.trans (presentGrade_rest _ _)).alarmsBack, fun h => ⟨fun e => ?_, fun p => ?_⟩⟩
  · simp only [restartedGrade, State.setAlarms_time, State.setAlarms_holdover, presentGrade_frame,
      State.setHoldover_time, State.setHoldover_holdover] at e ⊢
    exact gradeNow_unset s e
  · have := presentGrade_law s.time.timeSet s.holdover.grade (gradeNow s)
      (s.setHoldover { s.holdover with grade := gradeNow s }) (fun q => h.2 q) p
    simpa [restartedGrade] using this

theorem softRestart_keeps (s : State) : Keeps s (softRestart s) :=
  (restartedBlocks_keeps s).trans ((restartedGrade_keeps _).trans (declareAll_keeps _))

theorem beginSave_keeps (s : State) : Keeps s (beginSave s) :=
  (setLink_keeps s _).trans ((setFlash_keeps _ _).trans (setPart_keeps _ _))

theorem saveSucceeds_keeps (s : State) : Keeps s (saveSucceeds s) :=
  (setFlash_keeps s _).trans ((setLink_keeps _ _).trans ((setPart_keeps _ _).trans
    ((refresh_keeps _ _ _).trans (post_keeps _ _ _))))

theorem saveFails_keeps (s : State) : Keeps s (saveFails s) :=
  (setLink_keeps s _).trans ((setPart_keeps _ _).trans (post_keeps _ _ _))

/-! ## Requests -/

/-- An effect that keeps the laws. -/
abbrev KeepsAll (f : Request.Effect) : Prop := ∀ s, Keeps s (f s).1

theorem refuse_keeps (v : Status) : KeepsAll (refuse v) := fun s => .refl s

theorem writeOffset_keeps (o : Option Nat) (s : State) : Keeps s (writeOffset o s) := setTime_keeps s _

theorem hostStep_keeps (n : Nat) (o : Option Nat) : KeepsAll (hostStep n o) := by
  intro s
  unfold hostStep
  dsimp only
  split
  · exact .refl s
  · exact (performStep_keeps _ _ s).trans (writeOffset_keeps _ _)

theorem requestSetTime_keeps (n : Nat) (o : Option Nat) : KeepsAll (requestSetTime n o) := by
  intro s
  unfold requestSetTime
  (repeat' split) <;> first
    | with_reducible exact hostStep_keeps n o s
    | with_reducible exact refuse_keeps _ s
    | (dsimp only; exact setTime_keeps s _)

theorem requestSetReference_keeps (n : Nat) (c : ReferenceConfig) :
    KeepsAll (requestSetReference n c) := by
  intro s
  unfold requestSetReference
  (repeat' split)
  · exact configureSlot_keeps _ _ s
  · exact .refl s
  · exact .refl s

theorem requestLockout_keeps (n : Nat) (b : Bool) : KeepsAll (requestLockout n b) := by
  intro s
  unfold requestLockout
  split
  · exact lockSlot_keeps _ _ s
  · exact .refl s

theorem requestClearCounts_keeps (k : Option Nat) : KeepsAll (requestClearCounts k) := by
  intro s
  unfold requestClearCounts
  (repeat' split)
  · exact clearCounts_keeps s
  · dsimp only; exact modRef_keeps _ _ s
  · exact .refl s

theorem requestLabel_keeps (n k : Nat) : KeepsAll (requestLabel n k) := by
  intro s
  unfold requestLabel
  (repeat' split)
  · exact .refl s
  · exact .refl s
  · dsimp only; exact modRef_keeps _ _ s
  · exact .refl s

theorem requestSample_keeps (q : Nat) (o : Int) (d : Nat) (g : Grade) :
    KeepsAll (requestSample q o d g) := by
  intro s
  unfold requestSample
  split
  · exact judgeSample_keeps _ s
  · exact .refl s

theorem requestSetFilter_keeps (c : FilterConfig) : KeepsAll (requestSetFilter c) := by
  intro s
  unfold requestSetFilter
  split
  · exact setFilter_keeps s _
  · exact .refl s

theorem requestGetFilter_keeps (b : Bool) : KeepsAll (requestGetFilter b) := by
  intro s
  unfold requestGetFilter
  dsimp only
  split
  · exact setFilter_keeps s _
  · exact .refl s

theorem requestSetSelection_keeps (c : SelectionConfig) : KeepsAll (requestSetSelection c) := by
  intro s
  unfold requestSetSelection
  split
  · exact configureSelection_keeps c s
  · exact .refl s

theorem requestSetServo_keeps (c : ServoConfig) : KeepsAll (requestSetServo c) := by
  intro s
  unfold requestSetServo
  split
  · exact configureServo_keeps c s
  · exact .refl s

theorem requestSetHoldover_keeps (c : HoldoverConfig) : KeepsAll (requestSetHoldover c) := by
  intro s
  unfold requestSetHoldover
  split
  · exact (setHoldover_keeps s _).trans (judgeEstimate_keeps _)
  · exact .refl s

theorem clearHistory_keeps (s : State) :
    Keeps s (s.setHoldover (spoilAtStep s.time.base { s.holdover with history := [] })) where
  alarms g := g
  frequency g := ⟨g.estimate, g.correction⟩
  delays g := g
  history _ := Nat.zero_le _
  levels g := g
  ports g := g

theorem onPort_keeps (n : Nat) (f : Fin 12 → Request.Effect) (h : ∀ p, KeepsAll (f p)) :
    KeepsAll (onPort n f) := by
  intro s
  unfold onPort
  split
  · exact h _ s
  · exact .refl s

theorem requestSetPort_keeps (n : Nat) (c : PortConfig) : KeepsAll (requestSetPort n c) :=
  onPort_keeps n _ fun p s => by
    split
    · rename_i h; exact configurePort_keeps c p s h
    · exact .refl s

theorem requestAdjustPort_keeps (n : Nat) (a : Int) : KeepsAll (requestAdjustPort n a) :=
  onPort_keeps n _ fun p s => by
    split
    · exact .refl s
    · split
      · exact .refl s
      · rename_i h
        refine .of_port p _ (fun g => ⟨g.1, ?_⟩) fun _ g => portLaw_of_same g rfl rfl rfl
        simp only [joinAdjustment, List.length_append, List.length_singleton]
        omega

theorem requestSetChain_keeps (c : ChainConfig) : KeepsAll (requestSetChain c) := by
  intro s
  unfold requestSetChain
  dsimp only
  split
  · exact configureChain_keeps c s
  · exact .refl s

theorem requestChainCommand_keeps (k : Option ChainCommandKind) (t : Nat) (a : Option Leap) :
    KeepsAll (requestChainCommand k t a) := by
  intro s
  unfold requestChainCommand
  (repeat' split) <;> first
    | with_reducible exact refuse_keeps _ s
    | (dsimp only; exact modChain_keeps _ s)

theorem requestChainCancel_keeps : KeepsAll requestChainCancel := by
  intro s
  unfold requestChainCancel
  split
  · dsimp only; exact modChain_keeps _ s
  · exact .refl s

theorem requestPostWord_keeps (w : Word32) : KeepsAll (requestPostWord w) := by
  intro s
  unfold requestPostWord
  (repeat' split)
  · exact .refl s
  · exact .refl s
  · dsimp only; exact modChain_keeps _ s

theorem requestSchedule_keeps (k : Option ActionKind) (d : Nat) (a : Option Nat) :
    KeepsAll (requestSchedule k d a) := by
  intro s
  unfold requestSchedule
  dsimp only
  split <;> exact enterAction_keeps k d a .host s

theorem requestCancel_keeps (n : Nat) : KeepsAll (requestCancel n) := by
  intro s
  unfold requestCancel
  (repeat' split)
  · exact .refl s
  · exact .refl s
  · exact removeAction_keeps n s
  · exact .refl s
  · exact .refl s

theorem requestSetAlarm_keeps (k : Option AlarmKind) (c : AlarmConfig) :
    KeepsAll (requestSetAlarm k c) := by
  intro s
  unfold requestSetAlarm
  (repeat' split)
  · exact .of_alarms fun h => refreshOutputs_law h.queue
  · exact .refl s
  · exact .refl s

theorem requestGetAlarms_keeps (q : AlarmQuery) : KeepsAll (requestGetAlarms q) := by
  intro s
  unfold requestGetAlarms
  split <;> exact .refl s

theorem acknowledge_keeps (l : List (AlarmKind × Nat)) (s : State) : Keeps s (acknowledge l s).1 := by
  have w (l : List (AlarmKind × Nat)) (r : State × Nat) : Keeps r.1 (l.foldl acknowledgeOne r).1 := by
    induction l generalizing r with
    | nil => exact .refl r.1
    | cons x l ih => exact (moveAlarm_keeps _ x.1 x.2 r.1).trans (ih (acknowledgeOne r x))
  exact w l (s, 0)

theorem requestAckAlarm_keeps (t : AckTarget) : KeepsAll (requestAckAlarm t) := by
  intro s
  have w (l : List (AlarmKind × Nat)) : Keeps s (acknowledge l s).1 := acknowledge_keeps l s
  unfold requestAckAlarm
  (repeat' split)
  · exact w _
  · exact .refl s
  · exact w _
  · exact .refl s

theorem requestGetNotices_keeps (n : Nat) : KeepsAll (requestGetNotices n) := by
  intro s
  unfold requestGetNotices
  dsimp only
  split
  · refine .trans (.of_alarms fun h => refreshOutputs_law ?_) (reportOverflow_keeps _ _)
    simp only [List.length_drop]
    have := h.queue
    omega
  · exact .refl s

theorem requestSetAttention_keeps (b : Bool) : KeepsAll (requestSetAttention b) := fun _ =>
  .of_alarms fun h => refreshOutputs_law h.queue

theorem requestSaveProfile_keeps : KeepsAll requestSaveProfile := by
  intro s
  unfold requestSaveProfile
  split
  · exact .refl s
  · exact beginSave_keeps s

theorem requestRestart_keeps : KeepsAll requestRestart := by
  intro s
  unfold requestRestart
  split <;> exact .refl s

theorem requestGetReference_keeps (n : Nat) : KeepsAll (requestGetReference n) := by
  intro s
  unfold requestGetReference
  split <;> exact .refl s

theorem requestGetHistory_keeps (n k : Nat) : KeepsAll (requestGetHistory n k) := by
  intro s
  unfold requestGetHistory
  split <;> exact .refl s

theorem requestFetchWord_keeps : KeepsAll requestFetchWord := fun s =>
  modChain_keeps (fun u => { u with inbox := none }) s

theorem requestClearHistory_keeps : KeepsAll requestClearHistory := fun s => clearHistory_keeps s

theorem requestAllowStep_keeps : KeepsAll requestAllowStep := fun s => grantToken_keeps s

theorem requestEnablePort_keeps (n : Nat) : KeepsAll (requestEnablePort n) :=
  onPort_keeps _ _ fun p s => portEnable_keeps p _ s

theorem requestDisablePort_keeps (n : Nat) : KeepsAll (requestDisablePort n) :=
  onPort_keeps _ _ fun p s => portDisable_keeps p _ s

theorem requestGetPort_keeps (n : Nat) : KeepsAll (requestGetPort n) :=
  onPort_keeps _ _ fun _ s => .refl s

/-- Every request of the catalogue keeps the laws, whatever its body holds. -/
theorem requestEffect_keeps {kind : Nat} {b : List Byte} {f : Request.Effect}
    (h : requestEffect kind b = some f) : KeepsAll f := by
  unfold requestEffect reads readsNone reads at h
  split at h <;> simp only [Option.map_eq_some_iff, reduceCtorEq] at h <;>
    obtain ⟨x, -, rfl⟩ := h <;> first
    | with_reducible exact requestSetTime_keeps _ _
    | with_reducible exact requestSetReference_keeps _ _
    | with_reducible exact requestLockout_keeps _ _
    | with_reducible exact requestClearCounts_keeps _
    | with_reducible exact requestLabel_keeps _ _
    | with_reducible exact requestSample_keeps _ _ _ _
    | with_reducible exact requestSetFilter_keeps _
    | with_reducible exact requestGetFilter_keeps _
    | with_reducible exact requestSetSelection_keeps _
    | with_reducible exact requestSetServo_keeps _
    | with_reducible exact requestSetHoldover_keeps _
    | with_reducible exact requestSetPort_keeps _ _
    | with_reducible exact requestAdjustPort_keeps _ _
    | with_reducible exact requestSetChain_keeps _
    | with_reducible exact requestChainCommand_keeps _ _ _
    | with_reducible exact requestChainCancel_keeps
    | with_reducible exact requestPostWord_keeps _
    | with_reducible exact requestSchedule_keeps _ _ _
    | with_reducible exact requestCancel_keeps _
    | with_reducible exact requestSetAlarm_keeps _ _
    | with_reducible exact requestGetAlarms_keeps _
    | with_reducible exact requestAckAlarm_keeps _
    | with_reducible exact requestGetNotices_keeps _
    | with_reducible exact requestSetAttention_keeps _
    | with_reducible exact requestSaveProfile_keeps
    | with_reducible exact requestRestart_keeps
    | with_reducible exact requestClearHistory_keeps
    | with_reducible exact requestAllowStep_keeps
    | with_reducible exact requestEnablePort_keeps _
    | with_reducible exact requestDisablePort_keeps _
    | with_reducible exact requestGetPort_keeps _
    | with_reducible exact requestGetReference_keeps _
    | with_reducible exact requestGetHistory_keeps _ _
    | with_reducible exact requestFetchWord_keeps
    | exact fun s => Keeps.refl s

/-! ## The link -/

theorem addReply_keeps (k t : Byte) (x : State × Answer) : Keeps x.1 (addReply k t x) :=
  setLink_keeps x.1 _

theorem takeRequest_keeps (r : Request) (s : State) : Keeps s (takeRequest r s) := by
  refine .trans ?_ (addReply_keeps _ _ _)
  unfold judgeRequest
  (repeat' split)
  · exact .refl s
  · exact .refl s
  · rename_i f h; exact requestEffect_keeps h s
  · exact .refl s

theorem serveNext_keeps (s : State) : Keeps s (serveNext s) := by
  unfold serveNext
  split
  · exact (setLink_keeps s _).trans (takeRequest_keeps _ _)
  · exact (setLink_keeps s _).trans (addReply_keeps _ _ (refuse .overrun _))
  · exact .refl s
  · exact .refl s

theorem restartActs_keeps (s : State) : Keeps s (restartActs s) := by
  unfold restartActs
  split
  · exact (softRestart_keeps s).trans (serveNext_keeps _)
  · exact .refl s

theorem takeTyped_keeps (k t : Byte) {f : Request.Effect} (h : KeepsAll f) (s : State) :
    Keeps s (takeTyped k t f s) := by
  refine (restartActs_keeps s).trans (.trans ?_ (addReply_keeps _ _ _))
  unfold handOver
  split
  · exact .refl _
  · exact h _

theorem replyFinished_keeps (s : State) : Keeps s (replyFinished s) := by
  unfold replyFinished
  dsimp only
  (repeat' split)
  · exact .refl s
  · exact setLink_keeps s _
  · exact (setLink_keeps s _).trans (serveNext_keeps _)

theorem linkError_keeps (s : State) : Keeps s (linkError s) := setLink_keeps s _

theorem queueRequest_keeps (r : Request) (s : State) : Keeps s (queueRequest r s) := by
  unfold queueRequest
  dsimp only
  (repeat' split) <;> exact setLink_keeps s _

theorem acceptRequest_keeps (r : Request) (s : State) : Keeps s (acceptRequest r s) := by
  unfold acceptRequest
  dsimp only
  split
  · exact (restartActs_keeps s).trans (takeRequest_keeps _ _)
  · exact (restartActs_keeps s).trans (queueRequest_keeps _ _)

theorem completeFrame_keeps (l : List Byte) (n : Nat) (s : State) : Keeps s (completeFrame l n s) := by
  unfold completeFrame
  split
  · exact acceptRequest_keeps _ s
  · exact linkError_keeps s

theorem receiveOctets_keeps (n : Nat) (l : List Byte) (s : State) : Keeps s (receiveOctets n l s) := by
  induction n generalizing l s with
  | zero => exact .refl s
  | succ n ih =>
    cases l with
    | nil => exact .refl s
    | cons b l =>
      unfold receiveOctets
      dsimp only
      (repeat' split)
      · exact ih _ _
      · exact .refl s
      · exact (linkError_keeps s).trans (ih _ _)
      · exact .refl s
      · exact (completeFrame_keeps _ _ s).trans (ih _ _)

/-! ## The count and the events -/

theorem settle_keeps (s : State) : Keeps s (settle s) :=
  (restartActs_keeps s).trans (expiries_keeps _)

theorem settleBefore_keeps (n : Nat) (s : State) : Keeps s (settleBefore n s) := by
  unfold settleBefore
  split
  · exact settle_keeps s
  · exact .refl s

theorem advanceTo_keeps (n : Nat) (s : State) : Keeps s (advanceTo n s) := by
  unfold advanceTo
  split
  · exact (settle_keeps s).trans (runPast_keeps _ _)
  · exact .refl s

theorem nextBoundary_keeps (l : List Block) (s : State) : Keeps s (nextBoundary l s) := by
  unfold nextBoundary
  split
  · exact (settle_keeps s).trans ((passHalf_keeps _ _).trans ((countPicos_keeps _ _).trans
      (markBoundary_keeps l _)))
  · exact .refl s

theorem reachEnd_keeps (s : State) : Keeps s (reachEnd s) := by
  unfold reachEnd
  dsimp only
  (repeat' split)
  · exact (settle_keeps s).trans (runToEnd_keeps _)
  · exact settle_keeps s
  · exact .refl s

theorem onePico_keeps (s : State) : Keeps s (onePico s) := by
  unfold onePico
  (repeat' split)
  · exact countPicos_keeps _ s
  · exact (countPicos_keeps _ s).trans ((markBoundary_keeps _ _).trans (settle_keeps _))
  · exact setTime_keeps s _
  · exact .refl s

theorem picos_keeps (n : Nat) (s : State) : Keeps s (picos n s) := by
  induction n generalizing s with
  | zero => exact .refl s
  | succ n ih => exact (onePico_keeps s).trans (ih _)

theorem oscillatorTick_keeps (s : State) : Keeps s (oscillatorTick s) := by
  unfold oscillatorTick
  dsimp only
  split
  · exact (setTime_keeps s _).trans (picos_keeps _ _)
  · exact .refl s

theorem idle_keeps (s : State) : Keeps s (idle s) := (settle_keeps s).trans (oscillatorTick_keeps _)

theorem satPulse_keeps (k : SatSlot) (t : Nat) (s : State) : Keeps s (satPulse k t s) := by
  unfold satPulse
  split
  · exact (advanceTo_keeps t s).trans (satPulseArrives_keeps _ _)
  · exact .refl s

theorem satWindowClose_keeps (k : SatSlot) (s : State) : Keeps s (satWindowClose k s) := by
  unfold satWindowClose
  split
  · exact (advanceTo_keeps _ s).trans (closeWindow_keeps _ _)
  · exact .refl s

theorem lineEdge_keeps (k : LineSlot) (t n : Nat) (s : State) : Keeps s (lineEdge k t n s) := by
  unfold lineEdge
  split
  · exact (advanceTo_keeps t s).trans (lineEdgeArrives_keeps _ _ _)
  · exact .refl s

theorem lineLoss_keeps (k : LineSlot) (s : State) : Keeps s (lineLoss k s) := by
  unfold lineLoss
  dsimp only
  split
  · exact (advanceTo_keeps _ s).trans (lineLossTaken_keeps _ _)
  · exact .refl s

theorem chainMarker_keeps (p : ChainPort) (t : Nat) (s : State) : Keeps s (chainMarker p t s) := by
  unfold chainMarker
  split
  · exact (advanceTo_keeps _ s).trans (captureMarker_keeps _ _)
  · exact .refl s

theorem chainFrame_keeps (p : ChainPort) (t : Nat) (l : List Byte) (b : Bool) (s : State) :
    Keeps s (chainFrame p t l b s) := by
  unfold chainFrame
  split
  · exact (advanceTo_keeps _ s).trans (receiveFrame_keeps _ _ _ _)
  · exact .refl s

theorem runToInstant_keeps (p : Fin 12) (i : Nat × Nat) (s : State) :
    Keeps s (runToInstant p i s) := by
  unfold runToInstant
  dsimp only
  split
  · exact (runPast_keeps _ s).trans (useInstant_keeps _ _ _)
  · exact runPast_keeps _ s

theorem portEmission_keeps (p : Fin 12) (s : State) : Keeps s (portEmission p s) := by
  unfold portEmission
  dsimp only
  (repeat' split)
  · exact (settleBefore_keeps _ s).trans (runToInstant_keeps _ _ _)
  · exact settleBefore_keeps _ s
  · exact .refl s
  · exact .refl s

theorem clockEdge_keeps (p : Fin 12) (k : Nat) (b : Bool) (s : State) :
    Keeps s (clockEdge p k b s) := by
  unfold clockEdge
  dsimp only
  (repeat' split)
  · exact (settleBefore_keeps _ s).trans ((runPast_keeps _ _).trans (edgedPort_keeps _ _ _ _))
  · exact settleBefore_keeps _ s
  · exact .refl s
  · exact .refl s

end Sys2Proof.Machine
end

