-- ==== Sys2Proof/Laws/RequestFrames.lean ====
section
/-!
SUPPORT. The frame of what the profile, the restart and each request do: the parts of the state they
leave as they were.
-/

namespace Sys2Proof.Machine

/-! ## Start-up, saving and restart -/

@[simp] theorem declareAll_frame (s : State) :
    (declareAll s).part = s.part ∧ (declareAll s).time = s.time ∧ (declareAll s).refs = s.refs ∧
    (declareAll s).filter = s.filter ∧ (declareAll s).selector = s.selector ∧
    (declareAll s).servo = s.servo ∧ (declareAll s).holdover = s.holdover ∧
    (declareAll s).ports = s.ports ∧ (declareAll s).chain = s.chain ∧
    (declareAll s).scheduler = s.scheduler ∧ (declareAll s).link = s.link ∧
    (declareAll s).flash = s.flash ∧ (declareAll s).pending = s.pending := by
  simp [declareAll]

@[simp] theorem restartedBlocks_frame (s : State) :
    (restartedBlocks s).part = s.part ∧ (restartedBlocks s).flash = s.flash ∧
    (restartedBlocks s).pending = s.pending := by
  simp [restartedBlocks]

@[simp] theorem restartedGrade_frame (s : State) :
    (restartedGrade s).part = s.part ∧ (restartedGrade s).time = s.time ∧
    (restartedGrade s).refs = s.refs ∧ (restartedGrade s).filter = s.filter ∧
    (restartedGrade s).selector = s.selector ∧ (restartedGrade s).servo = s.servo ∧
    (restartedGrade s).chain = s.chain ∧ (restartedGrade s).scheduler = s.scheduler ∧
    (restartedGrade s).link = s.link ∧ (restartedGrade s).flash = s.flash ∧
    (restartedGrade s).pending = s.pending := by
  simp [restartedGrade]

@[simp] theorem softRestart_frame (s : State) :
    (softRestart s).part = s.part ∧ (softRestart s).flash = s.flash ∧
    (softRestart s).pending = s.pending := by
  simp [softRestart]

@[simp] theorem startedBlocks_frame (p : Profile) (a : Nat) (s : State) :
    (startedBlocks p a s).link = s.link ∧ (startedBlocks p a s).flash = s.flash ∧
    (startedBlocks p a s).pending = s.pending := by
  simp [startedBlocks]

@[simp] theorem enterRunning_frame (p : Option Profile) (a : BitVec 3) (s : State) :
    (enterRunning p a s).flash = s.flash ∧ (enterRunning p a s).pending = s.pending := by
  simp [enterRunning]

@[simp] theorem beginSave_frame (s : State) :
    (beginSave s).time = s.time ∧ (beginSave s).refs = s.refs ∧ (beginSave s).filter = s.filter ∧
    (beginSave s).selector = s.selector ∧ (beginSave s).servo = s.servo ∧
    (beginSave s).holdover = s.holdover ∧ (beginSave s).ports = s.ports ∧
    (beginSave s).chain = s.chain ∧ (beginSave s).scheduler = s.scheduler ∧
    (beginSave s).alarms = s.alarms ∧ (beginSave s).pending = s.pending := by
  simp [beginSave]

@[simp] theorem saveSucceeds_frame (s : State) :
    (saveSucceeds s).time = s.time ∧ (saveSucceeds s).refs = s.refs ∧
    (saveSucceeds s).filter = s.filter ∧ (saveSucceeds s).selector = s.selector ∧
    (saveSucceeds s).servo = s.servo ∧ (saveSucceeds s).holdover = s.holdover ∧
    (saveSucceeds s).ports = s.ports ∧ (saveSucceeds s).chain = s.chain ∧
    (saveSucceeds s).scheduler = s.scheduler ∧ (saveSucceeds s).pending = s.pending := by
  simp [saveSucceeds]

@[simp] theorem saveFails_frame (s : State) :
    (saveFails s).time = s.time ∧ (saveFails s).refs = s.refs ∧ (saveFails s).filter = s.filter ∧
    (saveFails s).selector = s.selector ∧ (saveFails s).servo = s.servo ∧
    (saveFails s).holdover = s.holdover ∧ (saveFails s).ports = s.ports ∧
    (saveFails s).chain = s.chain ∧ (saveFails s).scheduler = s.scheduler ∧
    (saveFails s).flash = s.flash ∧ (saveFails s).pending = s.pending := by
  simp [saveFails]

@[simp] theorem pinReset_frame (m : LinkMode) (s : State) :
    (pinReset m s).flash = s.flash ∧ (pinReset m s).pending = s.pending := by
  simp [pinReset]

/-! ## Requests -/

@[simp] theorem writeOffset_frame (o : Option Nat) (s : State) :
    (writeOffset o s).part = s.part ∧ (writeOffset o s).refs = s.refs ∧
    (writeOffset o s).filter = s.filter ∧ (writeOffset o s).selector = s.selector ∧
    (writeOffset o s).servo = s.servo ∧ (writeOffset o s).holdover = s.holdover ∧
    (writeOffset o s).ports = s.ports ∧ (writeOffset o s).chain = s.chain ∧
    (writeOffset o s).scheduler = s.scheduler ∧ (writeOffset o s).alarms = s.alarms ∧
    (writeOffset o s).link = s.link ∧ (writeOffset o s).flash = s.flash ∧
    (writeOffset o s).pending = s.pending := by
  simp [writeOffset]

@[simp] theorem hostStep_frame (n : Nat) (o : Option Nat) (s : State) :
    ((hostStep n o s).1).part = s.part ∧ ((hostStep n o s).1).link = s.link ∧
    ((hostStep n o s).1).flash = s.flash ∧ ((hostStep n o s).1).pending = s.pending := by
  dsimp only [hostStep, refuse]
  split
  · simp
  · simp only [writeOffset_frame, performStep_frame, and_self]

@[simp] theorem requestSetTime_frame (n : Nat) (o : Option Nat) (s : State) :
    ((requestSetTime n o s).1).part = s.part ∧ ((requestSetTime n o s).1).link = s.link ∧
    ((requestSetTime n o s).1).flash = s.flash ∧ ((requestSetTime n o s).1).pending = s.pending := by
  dsimp only [requestSetTime, refuse]
  (repeat' split) <;> simp

@[simp] theorem requestGetTime_frame (s : State) :
    ((requestGetTime s).1).part = s.part ∧ ((requestGetTime s).1).time = s.time ∧
    ((requestGetTime s).1).refs = s.refs ∧ ((requestGetTime s).1).filter = s.filter ∧
    ((requestGetTime s).1).selector = s.selector ∧ ((requestGetTime s).1).servo = s.servo ∧
    ((requestGetTime s).1).holdover = s.holdover ∧ ((requestGetTime s).1).ports = s.ports ∧
    ((requestGetTime s).1).chain = s.chain ∧ ((requestGetTime s).1).scheduler = s.scheduler ∧
    ((requestGetTime s).1).alarms = s.alarms ∧ ((requestGetTime s).1).link = s.link ∧
    ((requestGetTime s).1).flash = s.flash ∧ ((requestGetTime s).1).pending = s.pending := by
  simp [requestGetTime]

@[simp] theorem requestSetReference_frame (n : Nat) (c : ReferenceConfig) (s : State) :
    ((requestSetReference n c s).1).part = s.part ∧ ((requestSetReference n c s).1).time = s.time ∧
    ((requestSetReference n c s).1).chain = s.chain ∧
    ((requestSetReference n c s).1).scheduler = s.scheduler ∧
    ((requestSetReference n c s).1).link = s.link ∧
    ((requestSetReference n c s).1).flash = s.flash ∧
    ((requestSetReference n c s).1).pending = s.pending := by
  dsimp only [requestSetReference, refuse]
  (repeat' split) <;> simp

@[simp] theorem requestGetReference_frame (n : Nat) (s : State) :
    ((requestGetReference n s).1).part = s.part ∧ ((requestGetReference n s).1).time = s.time ∧
    ((requestGetReference n s).1).refs = s.refs ∧ ((requestGetReference n s).1).filter = s.filter ∧
    ((requestGetReference n s).1).selector = s.selector ∧
    ((requestGetReference n s).1).servo = s.servo ∧
    ((requestGetReference n s).1).holdover = s.holdover ∧
    ((requestGetReference n s).1).ports = s.ports ∧ ((requestGetReference n s).1).chain = s.chain ∧
    ((requestGetReference n s).1).scheduler = s.scheduler ∧
    ((requestGetReference n s).1).alarms = s.alarms ∧ ((requestGetReference n s).1).link = s.link ∧
    ((requestGetReference n s).1).flash = s.flash ∧
    ((requestGetReference n s).1).pending = s.pending := by
  dsimp only [requestGetReference, refuse]
  (repeat' split) <;> simp

@[simp] theorem requestLockout_frame (n : Nat) (b : Bool) (s : State) :
    ((requestLockout n b s).1).part = s.part ∧ ((requestLockout n b s).1).time = s.time ∧
    ((requestLockout n b s).1).filter = s.filter ∧ ((requestLockout n b s).1).chain = s.chain ∧
    ((requestLockout n b s).1).scheduler = s.scheduler ∧ ((requestLockout n b s).1).link = s.link ∧
    ((requestLockout n b s).1).flash = s.flash ∧ ((requestLockout n b s).1).pending = s.pending := by
  dsimp only [requestLockout, refuse]
  (repeat' split) <;> simp

@[simp] theorem requestClearCounts_frame (k : Option Nat) (s : State) :
    ((requestClearCounts k s).1).part = s.part ∧ ((requestClearCounts k s).1).time = s.time ∧
    ((requestClearCounts k s).1).filter = s.filter ∧
    ((requestClearCounts k s).1).selector = s.selector ∧
    ((requestClearCounts k s).1).servo = s.servo ∧
    ((requestClearCounts k s).1).holdover = s.holdover ∧
    ((requestClearCounts k s).1).ports = s.ports ∧ ((requestClearCounts k s).1).chain = s.chain ∧
    ((requestClearCounts k s).1).scheduler = s.scheduler ∧
    ((requestClearCounts k s).1).alarms = s.alarms ∧ ((requestClearCounts k s).1).link = s.link ∧
    ((requestClearCounts k s).1).flash = s.flash ∧
    ((requestClearCounts k s).1).pending = s.pending := by
  dsimp only [requestClearCounts, refuse]
  (repeat' split) <;> simp

@[simp] theorem requestLabel_frame (n k : Nat) (s : State) :
    ((requestLabel n k s).1).part = s.part ∧ ((requestLabel n k s).1).time = s.time ∧
    ((requestLabel n k s).1).filter = s.filter ∧ ((requestLabel n k s).1).selector = s.selector ∧
    ((requestLabel n k s).1).servo = s.servo ∧ ((requestLabel n k s).1).holdover = s.holdover ∧
    ((requestLabel n k s).1).ports = s.ports ∧ ((requestLabel n k s).1).chain = s.chain ∧
    ((requestLabel n k s).1).scheduler = s.scheduler ∧ ((requestLabel n k s).1).alarms = s.alarms ∧
    ((requestLabel n k s).1).link = s.link ∧ ((requestLabel n k s).1).flash = s.flash ∧
    ((requestLabel n k s).1).pending = s.pending := by
  dsimp only [requestLabel, refuse]
  (repeat' split) <;> simp

@[simp] theorem requestSample_frame (q : Nat) (o : Int) (d : Nat) (g : Grade) (s : State) :
    ((requestSample q o d g s).1).part = s.part ∧ ((requestSample q o d g s).1).time = s.time ∧
    ((requestSample q o d g s).1).chain = s.chain ∧
    ((requestSample q o d g s).1).scheduler = s.scheduler ∧
    ((requestSample q o d g s).1).link = s.link ∧ ((requestSample q o d g s).1).flash = s.flash ∧
    ((requestSample q o d g s).1).pending = s.pending := by
  dsimp only [requestSample, refuse]
  (repeat' split) <;> simp

@[simp] theorem requestSetFilter_frame (c : FilterConfig) (s : State) :
    ((requestSetFilter c s).1).part = s.part ∧ ((requestSetFilter c s).1).time = s.time ∧
    ((requestSetFilter c s).1).refs = s.refs ∧ ((requestSetFilter c s).1).selector = s.selector ∧
    ((requestSetFilter c s).1).servo = s.servo ∧ ((requestSetFilter c s).1).holdover = s.holdover ∧
    ((requestSetFilter c s).1).ports = s.ports ∧ ((requestSetFilter c s).1).chain = s.chain ∧
    ((requestSetFilter c s).1).scheduler = s.scheduler ∧
    ((requestSetFilter c s).1).alarms = s.alarms ∧ ((requestSetFilter c s).1).link = s.link ∧
    ((requestSetFilter c s).1).flash = s.flash ∧ ((requestSetFilter c s).1).pending = s.pending := by
  dsimp only [requestSetFilter, refuse]
  (repeat' split) <;> simp

@[simp] theorem requestGetFilter_frame (b : Bool) (s : State) :
    ((requestGetFilter b s).1).part = s.part ∧ ((requestGetFilter b s).1).time = s.time ∧
    ((requestGetFilter b s).1).refs = s.refs ∧ ((requestGetFilter b s).1).selector = s.selector ∧
    ((requestGetFilter b s).1).servo = s.servo ∧ ((requestGetFilter b s).1).holdover = s.holdover ∧
    ((requestGetFilter b s).1).ports = s.ports ∧ ((requestGetFilter b s).1).chain = s.chain ∧
    ((requestGetFilter b s).1).scheduler = s.scheduler ∧
    ((requestGetFilter b s).1).alarms = s.alarms ∧ ((requestGetFilter b s).1).link = s.link ∧
    ((requestGetFilter b s).1).flash = s.flash ∧ ((requestGetFilter b s).1).pending = s.pending := by
  dsimp only [requestGetFilter]
  (repeat' split) <;> simp

@[simp] theorem requestSetSelection_frame (c : SelectionConfig) (s : State) :
    ((requestSetSelection c s).1).part = s.part ∧ ((requestSetSelection c s).1).time = s.time ∧
    ((requestSetSelection c s).1).filter = s.filter ∧
    ((requestSetSelection c s).1).chain = s.chain ∧
    ((requestSetSelection c s).1).scheduler = s.scheduler ∧
    ((requestSetSelection c s).1).link = s.link ∧ ((requestSetSelection c s).1).flash = s.flash ∧
    ((requestSetSelection c s).1).pending = s.pending := by
  dsimp only [requestSetSelection, refuse]
  (repeat' split) <;> simp

@[simp] theorem requestGetSelection_frame (s : State) :
    ((requestGetSelection s).1).part = s.part ∧ ((requestGetSelection s).1).time = s.time ∧
    ((requestGetSelection s).1).refs = s.refs ∧ ((requestGetSelection s).1).filter = s.filter ∧
    ((requestGetSelection s).1).selector = s.selector ∧
    ((requestGetSelection s).1).servo = s.servo ∧
    ((requestGetSelection s).1).holdover = s.holdover ∧
    ((requestGetSelection s).1).ports = s.ports ∧ ((requestGetSelection s).1).chain = s.chain ∧
    ((requestGetSelection s).1).scheduler = s.scheduler ∧
    ((requestGetSelection s).1).alarms = s.alarms ∧ ((requestGetSelection s).1).link = s.link ∧
    ((requestGetSelection s).1).flash = s.flash ∧ ((requestGetSelection s).1).pending = s.pending := by
  simp [requestGetSelection]

@[simp] theorem requestSetServo_frame (c : ServoConfig) (s : State) :
    ((requestSetServo c s).1).part = s.part ∧ ((requestSetServo c s).1).refs = s.refs ∧
    ((requestSetServo c s).1).filter = s.filter ∧ ((requestSetServo c s).1).selector = s.selector ∧
    ((requestSetServo c s).1).holdover = s.holdover ∧ ((requestSetServo c s).1).ports = s.ports ∧
    ((requestSetServo c s).1).chain = s.chain ∧ ((requestSetServo c s).1).scheduler = s.scheduler ∧
    ((requestSetServo c s).1).link = s.link ∧ ((requestSetServo c s).1).flash = s.flash ∧
    ((requestSetServo c s).1).pending = s.pending := by
  dsimp only [requestSetServo, refuse]
  (repeat' split) <;> simp

@[simp] theorem requestGetServo_frame (s : State) :
    ((requestGetServo s).1).part = s.part ∧ ((requestGetServo s).1).time = s.time ∧
    ((requestGetServo s).1).refs = s.refs ∧ ((requestGetServo s).1).filter = s.filter ∧
    ((requestGetServo s).1).selector = s.selector ∧ ((requestGetServo s).1).servo = s.servo ∧
    ((requestGetServo s).1).holdover = s.holdover ∧ ((requestGetServo s).1).ports = s.ports ∧
    ((requestGetServo s).1).chain = s.chain ∧ ((requestGetServo s).1).scheduler = s.scheduler ∧
    ((requestGetServo s).1).alarms = s.alarms ∧ ((requestGetServo s).1).link = s.link ∧
    ((requestGetServo s).1).flash = s.flash ∧ ((requestGetServo s).1).pending = s.pending := by
  simp [requestGetServo]

@[simp] theorem requestAllowStep_frame (s : State) :
    ((requestAllowStep s).1).part = s.part ∧ ((requestAllowStep s).1).time = s.time ∧
    ((requestAllowStep s).1).refs = s.refs ∧ ((requestAllowStep s).1).filter = s.filter ∧
    ((requestAllowStep s).1).selector = s.selector ∧
    ((requestAllowStep s).1).holdover = s.holdover ∧ ((requestAllowStep s).1).ports = s.ports ∧
    ((requestAllowStep s).1).chain = s.chain ∧ ((requestAllowStep s).1).scheduler = s.scheduler ∧
    ((requestAllowStep s).1).alarms = s.alarms ∧ ((requestAllowStep s).1).link = s.link ∧
    ((requestAllowStep s).1).flash = s.flash ∧ ((requestAllowStep s).1).pending = s.pending := by
  simp [requestAllowStep]

@[simp] theorem requestSetHoldover_frame (c : HoldoverConfig) (s : State) :
    ((requestSetHoldover c s).1).part = s.part ∧ ((requestSetHoldover c s).1).time = s.time ∧
    ((requestSetHoldover c s).1).refs = s.refs ∧ ((requestSetHoldover c s).1).filter = s.filter ∧
    ((requestSetHoldover c s).1).selector = s.selector ∧
    ((requestSetHoldover c s).1).servo = s.servo ∧ ((requestSetHoldover c s).1).chain = s.chain ∧
    ((requestSetHoldover c s).1).scheduler = s.scheduler ∧
    ((requestSetHoldover c s).1).link = s.link ∧ ((requestSetHoldover c s).1).flash = s.flash ∧
    ((requestSetHoldover c s).1).pending = s.pending := by
  dsimp only [requestSetHoldover, refuse]
  (repeat' split) <;> simp

@[simp] theorem requestGetHoldover_frame (s : State) :
    ((requestGetHoldover s).1).part = s.part ∧ ((requestGetHoldover s).1).time = s.time ∧
    ((requestGetHoldover s).1).refs = s.refs ∧ ((requestGetHoldover s).1).filter = s.filter ∧
    ((requestGetHoldover s).1).selector = s.selector ∧ ((requestGetHoldover s).1).servo = s.servo ∧
    ((requestGetHoldover s).1).holdover = s.holdover ∧ ((requestGetHoldover s).1).ports = s.ports ∧
    ((requestGetHoldover s).1).chain = s.chain ∧
    ((requestGetHoldover s).1).scheduler = s.scheduler ∧
    ((requestGetHoldover s).1).alarms = s.alarms ∧ ((requestGetHoldover s).1).link = s.link ∧
    ((requestGetHoldover s).1).flash = s.flash ∧ ((requestGetHoldover s).1).pending = s.pending := by
  simp [requestGetHoldover]

@[simp] theorem requestGetHistory_frame (n k : Nat) (s : State) :
    ((requestGetHistory n k s).1).part = s.part ∧ ((requestGetHistory n k s).1).time = s.time ∧
    ((requestGetHistory n k s).1).refs = s.refs ∧ ((requestGetHistory n k s).1).filter = s.filter ∧
    ((requestGetHistory n k s).1).selector = s.selector ∧
    ((requestGetHistory n k s).1).servo = s.servo ∧
    ((requestGetHistory n k s).1).holdover = s.holdover ∧
    ((requestGetHistory n k s).1).ports = s.ports ∧ ((requestGetHistory n k s).1).chain = s.chain ∧
    ((requestGetHistory n k s).1).scheduler = s.scheduler ∧
    ((requestGetHistory n k s).1).alarms = s.alarms ∧ ((requestGetHistory n k s).1).link = s.link ∧
    ((requestGetHistory n k s).1).flash = s.flash ∧
    ((requestGetHistory n k s).1).pending = s.pending := by
  dsimp only [requestGetHistory, refuse]
  (repeat' split) <;> simp

@[simp] theorem requestClearHistory_frame (s : State) :
    ((requestClearHistory s).1).part = s.part ∧ ((requestClearHistory s).1).time = s.time ∧
    ((requestClearHistory s).1).refs = s.refs ∧ ((requestClearHistory s).1).filter = s.filter ∧
    ((requestClearHistory s).1).selector = s.selector ∧
    ((requestClearHistory s).1).servo = s.servo ∧ ((requestClearHistory s).1).ports = s.ports ∧
    ((requestClearHistory s).1).chain = s.chain ∧
    ((requestClearHistory s).1).scheduler = s.scheduler ∧
    ((requestClearHistory s).1).alarms = s.alarms ∧ ((requestClearHistory s).1).link = s.link ∧
    ((requestClearHistory s).1).flash = s.flash ∧ ((requestClearHistory s).1).pending = s.pending := by
  simp [requestClearHistory]

@[simp] theorem requestSetPort_frame (n : Nat) (c : PortConfig) (s : State) :
    ((requestSetPort n c s).1).part = s.part ∧ ((requestSetPort n c s).1).time = s.time ∧
    ((requestSetPort n c s).1).refs = s.refs ∧ ((requestSetPort n c s).1).filter = s.filter ∧
    ((requestSetPort n c s).1).selector = s.selector ∧ ((requestSetPort n c s).1).servo = s.servo ∧
    ((requestSetPort n c s).1).holdover = s.holdover ∧ ((requestSetPort n c s).1).chain = s.chain ∧
    ((requestSetPort n c s).1).scheduler = s.scheduler ∧ ((requestSetPort n c s).1).link = s.link ∧
    ((requestSetPort n c s).1).flash = s.flash ∧ ((requestSetPort n c s).1).pending = s.pending := by
  dsimp only [requestSetPort, onPort, refuse]
  (repeat' split) <;> simp

@[simp] theorem requestEnablePort_frame (n : Nat) (s : State) :
    ((requestEnablePort n s).1).part = s.part ∧ ((requestEnablePort n s).1).time = s.time ∧
    ((requestEnablePort n s).1).refs = s.refs ∧ ((requestEnablePort n s).1).filter = s.filter ∧
    ((requestEnablePort n s).1).selector = s.selector ∧
    ((requestEnablePort n s).1).servo = s.servo ∧
    ((requestEnablePort n s).1).holdover = s.holdover ∧
    ((requestEnablePort n s).1).chain = s.chain ∧
    ((requestEnablePort n s).1).scheduler = s.scheduler ∧
    ((requestEnablePort n s).1).link = s.link ∧ ((requestEnablePort n s).1).flash = s.flash ∧
    ((requestEnablePort n s).1).pending = s.pending := by
  dsimp only [requestEnablePort, onPort, refuse]
  (repeat' split) <;> simp

@[simp] theorem requestDisablePort_frame (n : Nat) (s : State) :
    ((requestDisablePort n s).1).part = s.part ∧ ((requestDisablePort n s).1).time = s.time ∧
    ((requestDisablePort n s).1).refs = s.refs ∧ ((requestDisablePort n s).1).filter = s.filter ∧
    ((requestDisablePort n s).1).selector = s.selector ∧
    ((requestDisablePort n s).1).servo = s.servo ∧
    ((requestDisablePort n s).1).holdover = s.holdover ∧
    ((requestDisablePort n s).1).chain = s.chain ∧
    ((requestDisablePort n s).1).scheduler = s.scheduler ∧
    ((requestDisablePort n s).1).link = s.link ∧ ((requestDisablePort n s).1).flash = s.flash ∧
    ((requestDisablePort n s).1).pending = s.pending := by
  dsimp only [requestDisablePort, onPort, refuse]
  (repeat' split) <;> simp

@[simp] theorem requestAdjustPort_frame (n : Nat) (a : Int) (s : State) :
    ((requestAdjustPort n a s).1).part = s.part ∧ ((requestAdjustPort n a s).1).time = s.time ∧
    ((requestAdjustPort n a s).1).refs = s.refs ∧ ((requestAdjustPort n a s).1).filter = s.filter ∧
    ((requestAdjustPort n a s).1).selector = s.selector ∧
    ((requestAdjustPort n a s).1).servo = s.servo ∧
    ((requestAdjustPort n a s).1).holdover = s.holdover ∧
    ((requestAdjustPort n a s).1).chain = s.chain ∧
    ((requestAdjustPort n a s).1).scheduler = s.scheduler ∧
    ((requestAdjustPort n a s).1).alarms = s.alarms ∧ ((requestAdjustPort n a s).1).link = s.link ∧
    ((requestAdjustPort n a s).1).flash = s.flash ∧
    ((requestAdjustPort n a s).1).pending = s.pending := by
  dsimp only [requestAdjustPort, onPort, refuse]
  (repeat' split) <;> simp

@[simp] theorem requestGetPort_frame (n : Nat) (s : State) :
    ((requestGetPort n s).1).part = s.part ∧ ((requestGetPort n s).1).time = s.time ∧
    ((requestGetPort n s).1).refs = s.refs ∧ ((requestGetPort n s).1).filter = s.filter ∧
    ((requestGetPort n s).1).selector = s.selector ∧ ((requestGetPort n s).1).servo = s.servo ∧
    ((requestGetPort n s).1).holdover = s.holdover ∧ ((requestGetPort n s).1).ports = s.ports ∧
    ((requestGetPort n s).1).chain = s.chain ∧ ((requestGetPort n s).1).scheduler = s.scheduler ∧
    ((requestGetPort n s).1).alarms = s.alarms ∧ ((requestGetPort n s).1).link = s.link ∧
    ((requestGetPort n s).1).flash = s.flash ∧ ((requestGetPort n s).1).pending = s.pending := by
  dsimp only [requestGetPort, onPort, refuse]
  (repeat' split) <;> simp

@[simp] theorem requestSetChain_frame (c : ChainConfig) (s : State) :
    ((requestSetChain c s).1).part = s.part ∧ ((requestSetChain c s).1).time = s.time ∧
    ((requestSetChain c s).1).filter = s.filter ∧ ((requestSetChain c s).1).selector = s.selector ∧
    ((requestSetChain c s).1).servo = s.servo ∧ ((requestSetChain c s).1).holdover = s.holdover ∧
    ((requestSetChain c s).1).ports = s.ports ∧ ((requestSetChain c s).1).scheduler = s.scheduler ∧
    ((requestSetChain c s).1).link = s.link ∧ ((requestSetChain c s).1).flash = s.flash ∧
    ((requestSetChain c s).1).pending = s.pending := by
  dsimp only [requestSetChain, refuse]
  (repeat' split) <;> simp

@[simp] theorem requestGetChain_frame (s : State) :
    ((requestGetChain s).1).part = s.part ∧ ((requestGetChain s).1).time = s.time ∧
    ((requestGetChain s).1).refs = s.refs ∧ ((requestGetChain s).1).filter = s.filter ∧
    ((requestGetChain s).1).selector = s.selector ∧ ((requestGetChain s).1).servo = s.servo ∧
    ((requestGetChain s).1).holdover = s.holdover ∧ ((requestGetChain s).1).ports = s.ports ∧
    ((requestGetChain s).1).chain = s.chain ∧ ((requestGetChain s).1).scheduler = s.scheduler ∧
    ((requestGetChain s).1).alarms = s.alarms ∧ ((requestGetChain s).1).link = s.link ∧
    ((requestGetChain s).1).flash = s.flash ∧ ((requestGetChain s).1).pending = s.pending := by
  simp [requestGetChain]

@[simp] theorem requestChainCommand_frame (k : Option ChainCommandKind) (t : Nat)
    (a : Option Leap) (s : State) :
    ((requestChainCommand k t a s).1).part = s.part ∧
    ((requestChainCommand k t a s).1).time = s.time ∧
    ((requestChainCommand k t a s).1).refs = s.refs ∧
    ((requestChainCommand k t a s).1).filter = s.filter ∧
    ((requestChainCommand k t a s).1).selector = s.selector ∧
    ((requestChainCommand k t a s).1).servo = s.servo ∧
    ((requestChainCommand k t a s).1).holdover = s.holdover ∧
    ((requestChainCommand k t a s).1).ports = s.ports ∧
    ((requestChainCommand k t a s).1).scheduler = s.scheduler ∧
    ((requestChainCommand k t a s).1).alarms = s.alarms ∧
    ((requestChainCommand k t a s).1).link = s.link ∧
    ((requestChainCommand k t a s).1).flash = s.flash ∧
    ((requestChainCommand k t a s).1).pending = s.pending := by
  dsimp only [requestChainCommand, refuse]
  (repeat' split) <;> simp

@[simp] theorem requestChainCancel_frame (s : State) :
    ((requestChainCancel s).1).part = s.part ∧ ((requestChainCancel s).1).time = s.time ∧
    ((requestChainCancel s).1).refs = s.refs ∧ ((requestChainCancel s).1).filter = s.filter ∧
    ((requestChainCancel s).1).selector = s.selector ∧ ((requestChainCancel s).1).servo = s.servo ∧
    ((requestChainCancel s).1).holdover = s.holdover ∧ ((requestChainCancel s).1).ports = s.ports ∧
    ((requestChainCancel s).1).scheduler = s.scheduler ∧
    ((requestChainCancel s).1).alarms = s.alarms ∧ ((requestChainCancel s).1).link = s.link ∧
    ((requestChainCancel s).1).flash = s.flash ∧ ((requestChainCancel s).1).pending = s.pending := by
  dsimp only [requestChainCancel, refuse]
  (repeat' split) <;> simp

@[simp] theorem requestPostWord_frame (w : Word32) (s : State) :
    ((requestPostWord w s).1).part = s.part ∧ ((requestPostWord w s).1).time = s.time ∧
    ((requestPostWord w s).1).refs = s.refs ∧ ((requestPostWord w s).1).filter = s.filter ∧
    ((requestPostWord w s).1).selector = s.selector ∧ ((requestPostWord w s).1).servo = s.servo ∧
    ((requestPostWord w s).1).holdover = s.holdover ∧ ((requestPostWord w s).1).ports = s.ports ∧
    ((requestPostWord w s).1).scheduler = s.scheduler ∧
    ((requestPostWord w s).1).alarms = s.alarms ∧ ((requestPostWord w s).1).link = s.link ∧
    ((requestPostWord w s).1).flash = s.flash ∧ ((requestPostWord w s).1).pending = s.pending := by
  dsimp only [requestPostWord, refuse]
  (repeat' split) <;> simp

@[simp] theorem requestFetchWord_frame (s : State) :
    ((requestFetchWord s).1).part = s.part ∧ ((requestFetchWord s).1).time = s.time ∧
    ((requestFetchWord s).1).refs = s.refs ∧ ((requestFetchWord s).1).filter = s.filter ∧
    ((requestFetchWord s).1).selector = s.selector ∧ ((requestFetchWord s).1).servo = s.servo ∧
    ((requestFetchWord s).1).holdover = s.holdover ∧ ((requestFetchWord s).1).ports = s.ports ∧
    ((requestFetchWord s).1).scheduler = s.scheduler ∧ ((requestFetchWord s).1).alarms = s.alarms ∧
    ((requestFetchWord s).1).link = s.link ∧ ((requestFetchWord s).1).flash = s.flash ∧
    ((requestFetchWord s).1).pending = s.pending := by
  simp [requestFetchWord]

@[simp] theorem requestSchedule_frame (k : Option ActionKind) (d : Nat) (a : Option Nat)
    (s : State) :
    ((requestSchedule k d a s).1).part = s.part ∧ ((requestSchedule k d a s).1).refs = s.refs ∧
    ((requestSchedule k d a s).1).filter = s.filter ∧
    ((requestSchedule k d a s).1).selector = s.selector ∧
    ((requestSchedule k d a s).1).servo = s.servo ∧
    ((requestSchedule k d a s).1).holdover = s.holdover ∧
    ((requestSchedule k d a s).1).ports = s.ports ∧ ((requestSchedule k d a s).1).chain = s.chain ∧
    ((requestSchedule k d a s).1).alarms = s.alarms ∧ ((requestSchedule k d a s).1).link = s.link ∧
    ((requestSchedule k d a s).1).flash = s.flash ∧
    ((requestSchedule k d a s).1).pending = s.pending := by
  dsimp only [requestSchedule]
  (repeat' split) <;> simp

@[simp] theorem requestCancel_frame (n : Nat) (s : State) :
    ((requestCancel n s).1).part = s.part ∧ ((requestCancel n s).1).refs = s.refs ∧
    ((requestCancel n s).1).filter = s.filter ∧ ((requestCancel n s).1).selector = s.selector ∧
    ((requestCancel n s).1).servo = s.servo ∧ ((requestCancel n s).1).holdover = s.holdover ∧
    ((requestCancel n s).1).ports = s.ports ∧ ((requestCancel n s).1).chain = s.chain ∧
    ((requestCancel n s).1).alarms = s.alarms ∧ ((requestCancel n s).1).link = s.link ∧
    ((requestCancel n s).1).flash = s.flash ∧ ((requestCancel n s).1).pending = s.pending := by
  dsimp only [requestCancel, refuse]
  (repeat' split) <;> simp

@[simp] theorem requestGetActions_frame (s : State) :
    ((requestGetActions s).1).part = s.part ∧ ((requestGetActions s).1).time = s.time ∧
    ((requestGetActions s).1).refs = s.refs ∧ ((requestGetActions s).1).filter = s.filter ∧
    ((requestGetActions s).1).selector = s.selector ∧ ((requestGetActions s).1).servo = s.servo ∧
    ((requestGetActions s).1).holdover = s.holdover ∧ ((requestGetActions s).1).ports = s.ports ∧
    ((requestGetActions s).1).chain = s.chain ∧ ((requestGetActions s).1).scheduler = s.scheduler ∧
    ((requestGetActions s).1).alarms = s.alarms ∧ ((requestGetActions s).1).link = s.link ∧
    ((requestGetActions s).1).flash = s.flash ∧ ((requestGetActions s).1).pending = s.pending := by
  simp [requestGetActions]

@[simp] theorem requestSetAlarm_frame (k : Option AlarmKind) (c : AlarmConfig) (s : State) :
    ((requestSetAlarm k c s).1).part = s.part ∧ ((requestSetAlarm k c s).1).time = s.time ∧
    ((requestSetAlarm k c s).1).refs = s.refs ∧ ((requestSetAlarm k c s).1).filter = s.filter ∧
    ((requestSetAlarm k c s).1).selector = s.selector ∧
    ((requestSetAlarm k c s).1).servo = s.servo ∧
    ((requestSetAlarm k c s).1).holdover = s.holdover ∧
    ((requestSetAlarm k c s).1).ports = s.ports ∧ ((requestSetAlarm k c s).1).chain = s.chain ∧
    ((requestSetAlarm k c s).1).scheduler = s.scheduler ∧
    ((requestSetAlarm k c s).1).link = s.link ∧ ((requestSetAlarm k c s).1).flash = s.flash ∧
    ((requestSetAlarm k c s).1).pending = s.pending := by
  dsimp only [requestSetAlarm, refuse]
  (repeat' split) <;> simp

@[simp] theorem requestGetAlarms_frame (q : AlarmQuery) (s : State) :
    ((requestGetAlarms q s).1).part = s.part ∧ ((requestGetAlarms q s).1).time = s.time ∧
    ((requestGetAlarms q s).1).refs = s.refs ∧ ((requestGetAlarms q s).1).filter = s.filter ∧
    ((requestGetAlarms q s).1).selector = s.selector ∧ ((requestGetAlarms q s).1).servo = s.servo ∧
    ((requestGetAlarms q s).1).holdover = s.holdover ∧ ((requestGetAlarms q s).1).ports = s.ports ∧
    ((requestGetAlarms q s).1).chain = s.chain ∧
    ((requestGetAlarms q s).1).scheduler = s.scheduler ∧
    ((requestGetAlarms q s).1).alarms = s.alarms ∧ ((requestGetAlarms q s).1).link = s.link ∧
    ((requestGetAlarms q s).1).flash = s.flash ∧ ((requestGetAlarms q s).1).pending = s.pending := by
  dsimp only [requestGetAlarms, refuse]
  (repeat' split) <;> simp

@[simp] theorem requestGetNotices_frame (n : Nat) (s : State) :
    ((requestGetNotices n s).1).part = s.part ∧ ((requestGetNotices n s).1).time = s.time ∧
    ((requestGetNotices n s).1).refs = s.refs ∧ ((requestGetNotices n s).1).filter = s.filter ∧
    ((requestGetNotices n s).1).selector = s.selector ∧
    ((requestGetNotices n s).1).servo = s.servo ∧
    ((requestGetNotices n s).1).holdover = s.holdover ∧
    ((requestGetNotices n s).1).ports = s.ports ∧ ((requestGetNotices n s).1).chain = s.chain ∧
    ((requestGetNotices n s).1).scheduler = s.scheduler ∧
    ((requestGetNotices n s).1).link = s.link ∧ ((requestGetNotices n s).1).flash = s.flash ∧
    ((requestGetNotices n s).1).pending = s.pending := by
  dsimp only [requestGetNotices, refuse]
  (repeat' split) <;> simp

@[simp] theorem requestSetAttention_frame (b : Bool) (s : State) :
    ((requestSetAttention b s).1).part = s.part ∧ ((requestSetAttention b s).1).time = s.time ∧
    ((requestSetAttention b s).1).refs = s.refs ∧ ((requestSetAttention b s).1).filter = s.filter ∧
    ((requestSetAttention b s).1).selector = s.selector ∧
    ((requestSetAttention b s).1).servo = s.servo ∧
    ((requestSetAttention b s).1).holdover = s.holdover ∧
    ((requestSetAttention b s).1).ports = s.ports ∧ ((requestSetAttention b s).1).chain = s.chain ∧
    ((requestSetAttention b s).1).scheduler = s.scheduler ∧
    ((requestSetAttention b s).1).link = s.link ∧ ((requestSetAttention b s).1).flash = s.flash ∧
    ((requestSetAttention b s).1).pending = s.pending := by
  simp [requestSetAttention]

@[simp] theorem requestGetStatus_frame (s : State) :
    ((requestGetStatus s).1).part = s.part ∧ ((requestGetStatus s).1).time = s.time ∧
    ((requestGetStatus s).1).refs = s.refs ∧ ((requestGetStatus s).1).filter = s.filter ∧
    ((requestGetStatus s).1).selector = s.selector ∧ ((requestGetStatus s).1).servo = s.servo ∧
    ((requestGetStatus s).1).holdover = s.holdover ∧ ((requestGetStatus s).1).ports = s.ports ∧
    ((requestGetStatus s).1).chain = s.chain ∧ ((requestGetStatus s).1).scheduler = s.scheduler ∧
    ((requestGetStatus s).1).alarms = s.alarms ∧ ((requestGetStatus s).1).link = s.link ∧
    ((requestGetStatus s).1).flash = s.flash ∧ ((requestGetStatus s).1).pending = s.pending := by
  simp [requestGetStatus]

@[simp] theorem requestSaveProfile_frame (s : State) :
    ((requestSaveProfile s).1).time = s.time ∧ ((requestSaveProfile s).1).refs = s.refs ∧
    ((requestSaveProfile s).1).filter = s.filter ∧
    ((requestSaveProfile s).1).selector = s.selector ∧ ((requestSaveProfile s).1).servo = s.servo ∧
    ((requestSaveProfile s).1).holdover = s.holdover ∧ ((requestSaveProfile s).1).ports = s.ports ∧
    ((requestSaveProfile s).1).chain = s.chain ∧
    ((requestSaveProfile s).1).scheduler = s.scheduler ∧
    ((requestSaveProfile s).1).alarms = s.alarms ∧ ((requestSaveProfile s).1).pending = s.pending := by
  dsimp only [requestSaveProfile, refuse]
  (repeat' split) <;> simp

@[simp] theorem requestRestart_frame (s : State) :
    ((requestRestart s).1).part = s.part ∧ ((requestRestart s).1).time = s.time ∧
    ((requestRestart s).1).refs = s.refs ∧ ((requestRestart s).1).filter = s.filter ∧
    ((requestRestart s).1).selector = s.selector ∧ ((requestRestart s).1).servo = s.servo ∧
    ((requestRestart s).1).holdover = s.holdover ∧ ((requestRestart s).1).ports = s.ports ∧
    ((requestRestart s).1).chain = s.chain ∧ ((requestRestart s).1).scheduler = s.scheduler ∧
    ((requestRestart s).1).alarms = s.alarms ∧ ((requestRestart s).1).link = s.link ∧
    ((requestRestart s).1).flash = s.flash ∧ ((requestRestart s).1).pending = s.pending := by
  dsimp only [requestRestart, refuse]
  (repeat' split) <;> simp

@[simp] theorem foldAcknowledge_frame (l : List (AlarmKind × Nat)) (s : State) :
    (l.foldl (fun s x => s.moveAlarm entryAcknowledged x.1 x.2) s).part = s.part ∧
    (l.foldl (fun s x => s.moveAlarm entryAcknowledged x.1 x.2) s).time = s.time ∧
    (l.foldl (fun s x => s.moveAlarm entryAcknowledged x.1 x.2) s).refs = s.refs ∧
    (l.foldl (fun s x => s.moveAlarm entryAcknowledged x.1 x.2) s).filter = s.filter ∧
    (l.foldl (fun s x => s.moveAlarm entryAcknowledged x.1 x.2) s).selector = s.selector ∧
    (l.foldl (fun s x => s.moveAlarm entryAcknowledged x.1 x.2) s).servo = s.servo ∧
    (l.foldl (fun s x => s.moveAlarm entryAcknowledged x.1 x.2) s).holdover = s.holdover ∧
    (l.foldl (fun s x => s.moveAlarm entryAcknowledged x.1 x.2) s).ports = s.ports ∧
    (l.foldl (fun s x => s.moveAlarm entryAcknowledged x.1 x.2) s).chain = s.chain ∧
    (l.foldl (fun s x => s.moveAlarm entryAcknowledged x.1 x.2) s).scheduler = s.scheduler ∧
    (l.foldl (fun s x => s.moveAlarm entryAcknowledged x.1 x.2) s).link = s.link ∧
    (l.foldl (fun s x => s.moveAlarm entryAcknowledged x.1 x.2) s).flash = s.flash ∧
    (l.foldl (fun s x => s.moveAlarm entryAcknowledged x.1 x.2) s).pending = s.pending := by
  refine ⟨foldl_keeps State.part ?_ _ _, foldl_keeps State.time ?_ _ _, foldl_keeps State.refs
    ?_ _ _, foldl_keeps State.filter ?_ _ _, foldl_keeps State.selector ?_ _ _, foldl_keeps
    State.servo ?_ _ _, foldl_keeps State.holdover ?_ _ _, foldl_keeps State.ports ?_ _ _,
    foldl_keeps State.chain ?_ _ _, foldl_keeps State.scheduler ?_ _ _, foldl_keeps State.link
    ?_ _ _, foldl_keeps State.flash ?_ _ _, foldl_keeps State.pending ?_ _ _⟩ <;>
    intro s x <;> simp

/-- What acknowledging leaves of the state, its count aside: the entries' moves one after another. -/
theorem acknowledge_state (l : List (AlarmKind × Nat)) (s : State) :
    (acknowledge l s).1 = l.foldl (fun s x => s.moveAlarm entryAcknowledged x.1 x.2) s := by
  have w (l : List (AlarmKind × Nat)) (r : State × Nat) :
      (l.foldl acknowledgeOne r).1 = l.foldl (fun s x => s.moveAlarm entryAcknowledged x.1 x.2) r.1 := by
    induction l generalizing r with
    | nil => rfl
    | cons x l ih => exact ih (acknowledgeOne r x)
  exact w l (s, 0)

@[simp] theorem requestAckAlarm_frame (t : AckTarget) (s : State) :
    ((requestAckAlarm t s).1).part = s.part ∧ ((requestAckAlarm t s).1).time = s.time ∧
    ((requestAckAlarm t s).1).refs = s.refs ∧ ((requestAckAlarm t s).1).filter = s.filter ∧
    ((requestAckAlarm t s).1).selector = s.selector ∧ ((requestAckAlarm t s).1).servo = s.servo ∧
    ((requestAckAlarm t s).1).holdover = s.holdover ∧ ((requestAckAlarm t s).1).ports = s.ports ∧
    ((requestAckAlarm t s).1).chain = s.chain ∧ ((requestAckAlarm t s).1).scheduler = s.scheduler ∧
    ((requestAckAlarm t s).1).link = s.link ∧ ((requestAckAlarm t s).1).flash = s.flash ∧
    ((requestAckAlarm t s).1).pending = s.pending := by
  dsimp only [requestAckAlarm, refuse]
  (repeat' split) <;> simp [acknowledge_state]

end Sys2Proof.Machine
end

