-- ==== Sys2Proof/Laws/Link.lean ====
section
/-!
SUPPORT. The link controller: what a typed request does when it is taken, the laws of the transmitter
and the buffer, and the part while it is LOADING.
-/

-- One proof at a time: elaborated side by side, so many small proofs reserve too many thread stacks.
set_option Elab.async false

namespace Sys2Proof.Machine

open Sys2Proof.Safety

/-! ## A typed request that is taken (R184, R185) -/

theorem restartActs_of_not_due {s : State} (h : s.link.restartDue = false) : restartActs s = s := by
  simp [restartActs, h]

/-- A request that comes while the blocks run is answered by its owning block. -/
theorem takeTyped_of_takes {s : State} (h : Takes s) (kind tag : Byte) (f : Request.Effect) :
    takeTyped kind tag f s = addReply kind tag (f s) := by
  unfold takeTyped handOver
  rw [restartActs_of_not_due h.2, if_neg (fun g => h.1 g.1)]

/-- In LOADING every request but GET_STATUS is answered NOT_READY (R185). -/
theorem takeTyped_loading {s : State} (h : s.part = .loading) (d : s.link.restartDue = false)
    (kind tag : Byte) (hk : kind ≠ 0x3C) (f : Request.Effect) :
    takeTyped kind tag f s = s.setLink (answered s.link kind tag .notReady []) := by
  unfold takeTyped handOver
  rw [restartActs_of_not_due d, if_pos ⟨h, hk⟩]
  rfl

/-- A reply without a soft restart, whose effect left the link. -/
theorem addReply_answered {s t : State} (kind tag : Byte) (st : Status) (c : List Byte)
    (h : t.link = s.link) :
    addReply kind tag (t, { status := st, contents := c, restart := false })
      = t.setLink (answered s.link kind tag st c) := by
  rw [← h]; rfl

/-- An accepted request that changes nothing but the transmitter. -/
theorem takeTyped_okWith {s t : State} (h : Takes s) (kind tag : Byte) {f : Request.Effect}
    {c : List Byte} (e : f s = (t, okWith c)) (hl : t.link = s.link) :
    takeTyped kind tag f s = t.setLink (answered s.link kind tag .ok c) := by
  rw [takeTyped_of_takes h, e]
  exact addReply_answered kind tag .ok c hl

/-- A refused request changes nothing but the transmitter. -/
theorem takeTyped_refuse {s : State} (h : Takes s) (kind tag : Byte) {f : Request.Effect}
    {st : Status} (e : f s = refuse st s) :
    takeTyped kind tag f s = s.setLink (answered s.link kind tag st []) := by
  rw [takeTyped_of_takes h, e]
  exact addReply_answered kind tag st [] rfl

/-! ## The transmitter and the buffer (R184, R190) -/

/-- The parts of the link that the transmitter and the buffer own are as they were. -/
structure SameQueues (k l : Link) : Prop where
  replies : l.replies = k.replies
  waiting : l.waiting = k.waiting
  due : l.restartDue = k.restartDue

theorem SameQueues.refl (k : Link) : SameQueues k k := ⟨rfl, rfl, rfl⟩

theorem SameQueues.of_eq {k l : Link} (h : l = k) : SameQueues k l := h ▸ .refl l

theorem requestSaveProfile_queues (s : State) : SameQueues s.link (requestSaveProfile s).1.link := by
  unfold requestSaveProfile
  split <;> exact ⟨rfl, rfl, rfl⟩

/-- No request changes the transmitter or the buffer by itself. -/
theorem requestEffect_queues {kind : Nat} {b : List Byte} {f : Request.Effect}
    (h : requestEffect kind b = some f) (s : State) : SameQueues s.link (f s).1.link := by
  unfold requestEffect reads readsNone reads at h
  split at h <;> simp only [Option.map_eq_some_iff, reduceCtorEq] at h <;>
    obtain ⟨x, -, rfl⟩ := h <;> first
    | with_reducible exact requestSaveProfile_queues s
    | exact .of_eq (by simp)

theorem judgeRequest_queues (r : Request) (s : State) :
    SameQueues s.link (judgeRequest r s).1.link := by
  unfold judgeRequest refuse
  (repeat' split)
  · exact .refl _
  · exact .refl _
  · rename_i f h; exact requestEffect_queues h s
  · exact .refl _

/-- An answer that has joined the transmitter's replies keeps the law. -/
theorem linkLaw_addReply (kind tag : Byte) (x : State × Answer) (hb : bufferedCount x.1.link.waiting ≤ 2)
    (ho : overrunCount x.1.link.waiting ≤ 8) : LinkLaw (addReply kind tag x).link where
  buffer := hb
  overruns := ho
  idle h := by simp [addReply] at h

theorem linkLaw_takeRequest (r : Request) (s : State) (hb : bufferedCount s.link.waiting ≤ 2)
    (ho : overrunCount s.link.waiting ≤ 8) : LinkLaw (takeRequest r s).link := by
  have q := judgeRequest_queues r s
  exact linkLaw_addReply _ _ _ (by rw [q.waiting]; exact hb) (by rw [q.waiting]; exact ho)

theorem bufferedCount_tail (w : Waiting) (l : List Waiting) :
    bufferedCount l ≤ bufferedCount (w :: l) := by
  unfold bufferedCount
  rw [List.filter_cons]
  split <;> simp

theorem overrunCount_tail (w : Waiting) (l : List Waiting) : overrunCount l ≤ overrunCount (w :: l) := by
  unfold overrunCount
  rw [List.filter_cons]
  split <;> simp

/-- An idle transmitter that serves what waits, whatever stood idle before (R184). -/
theorem linkLaw_serveNext (s : State) (hb : bufferedCount s.link.waiting ≤ 2)
    (ho : overrunCount s.link.waiting ≤ 8) : LinkLaw (serveNext s).link := by
  unfold serveNext
  split
  · rename_i r l _ e
    have e : s.link.waiting = .request r :: l := e
    rw [e] at hb ho
    exact linkLaw_takeRequest r _ ((bufferedCount_tail _ l).trans hb) ((overrunCount_tail _ l).trans ho)
  · rename_i kind tag l _ e
    have e : s.link.waiting = .overrun kind tag :: l := e
    rw [e] at hb ho
    exact linkLaw_addReply _ _ _ ((bufferedCount_tail _ l).trans hb) ((overrunCount_tail _ l).trans ho)
  · rename_i _ e; exact ⟨hb, ho, fun _ _ => e⟩
  · rename_i e; exact ⟨hb, ho, fun h => by rw [e] at h; cases h⟩

theorem softRestart_link (s : State) :
    (softRestart s).link = { s.link with linkErrors := 0, overruns := 0, restartDue := false } := by
  simp [softRestart, restartedBlocks]

theorem linkLaw_restartActs (s : State) (h : LinkLaw s.link) : LinkLaw (restartActs s).link := by
  unfold restartActs
  split
  · refine linkLaw_serveNext _ ?_ ?_
    · rw [softRestart_link]; exact h.buffer
    · rw [softRestart_link]; exact h.overruns
  · exact h

theorem serveNext_due (s : State) : (serveNext s).link.restartDue = s.link.restartDue := by
  unfold serveNext
  split
  · exact (judgeRequest_queues _ _).due
  · rfl
  · rfl
  · rfl

/-- After what is due has acted no soft restart is due. -/
theorem restartActs_due (s : State) : (restartActs s).link.restartDue = false := by
  unfold restartActs
  split
  · rw [serveNext_due, softRestart_link]
  · rename_i h; simpa using h

theorem linkLaw_replyFinished (s : State) (h : LinkLaw s.link) : LinkLaw (replyFinished s).link := by
  unfold replyFinished
  dsimp only
  (repeat' split)
  · exact h
  · rename_i r _ _ hr
    exact ⟨h.buffer, h.overruns, fun _ hd => by simp [hr] at hd⟩
  · exact linkLaw_serveNext _ h.buffer h.overruns

theorem linkLaw_queueRequest (r : Request) (s : State) (h : LinkLaw s.link)
    (hb : s.link.replies ≠ []) : LinkLaw (queueRequest r s).link := by
  have h1 (l : List Waiting) (q : Request) : bufferedCount (l ++ [.request q]) = bufferedCount l + 1 ∧
      overrunCount (l ++ [.request q]) = overrunCount l := by
    simp [bufferedCount, overrunCount, List.filter_append]
  have h2 (l : List Waiting) (a b : Byte) : bufferedCount (l ++ [.overrun a b]) = bufferedCount l ∧
      overrunCount (l ++ [.overrun a b]) = overrunCount l + 1 := by
    simp [bufferedCount, overrunCount, List.filter_append]
  have hB := h.buffer
  have hO := h.overruns
  unfold queueRequest
  dsimp only
  (repeat' split)
  · rename_i g
    refine ⟨?_, ?_, fun e => absurd e hb⟩
    · show bufferedCount (s.link.waiting ++ [.request r]) ≤ 2
      rw [(h1 _ r).1]; omega
    · show overrunCount (s.link.waiting ++ [.request r]) ≤ 8
      rw [(h1 _ r).2]; omega
  · rename_i _ g
    refine ⟨?_, ?_, fun e => absurd e hb⟩
    · show bufferedCount (s.link.waiting ++ [.overrun r.kind r.tag]) ≤ 2
      rw [(h2 _ _ _).1]; omega
    · show overrunCount (s.link.waiting ++ [.overrun r.kind r.tag]) ≤ 8
      have g : overrunCount s.link.waiting < 8 := g
      rw [(h2 _ _ _).2]; omega
  · exact ⟨hB, hO, fun e => absurd e hb⟩

theorem linkLaw_acceptRequest (r : Request) (s : State) (h : LinkLaw s.link) :
    LinkLaw (acceptRequest r s).link := by
  have g := linkLaw_restartActs s h
  have d := restartActs_due s
  unfold acceptRequest
  dsimp only
  split
  · exact linkLaw_takeRequest _ _ g.buffer g.overruns
  · rename_i hb
    refine linkLaw_queueRequest _ _ g fun e => hb ?_
    rw [e, g.idle e d]
    rfl

theorem linkLaw_linkError (s : State) (h : LinkLaw s.link) : LinkLaw (linkError s).link :=
  ⟨h.buffer, h.overruns, h.idle⟩

theorem linkLaw_receiveOctets (n : Nat) (l : List Byte) (s : State) (h : LinkLaw s.link) :
    LinkLaw (receiveOctets n l s).link := by
  induction n generalizing l s with
  | zero => exact h
  | succ n ih =>
    cases l with
    | nil => exact h
    | cons b l =>
      unfold receiveOctets
      dsimp only
      (repeat' split)
      · exact ih _ _ h
      · exact h
      · exact ih _ _ (linkLaw_linkError s h)
      · exact h
      · refine ih _ _ ?_
        unfold completeFrame
        split
        · exact linkLaw_acceptRequest _ s h
        · exact linkLaw_linkError s h

theorem linkLaw_takeTyped (kind tag : Byte) (f : Request.Effect)
    (hf : ∀ s, SameQueues s.link (f s).1.link) (s : State) (h : LinkLaw s.link) :
    LinkLaw (takeTyped kind tag f s).link := by
  have g := linkLaw_restartActs s h
  have q : SameQueues (restartActs s).link (handOver kind f (restartActs s)).1.link := by
    unfold handOver refuse
    split
    · exact .refl _
    · exact hf _
  exact linkLaw_addReply _ _ _ (by rw [q.waiting]; exact g.buffer) (by rw [q.waiting]; exact g.overruns)

theorem linkLaw_settle (s : State) (h : LinkLaw s.link) : LinkLaw (settle s).link := by
  have e : (settle s).link = (restartActs s).link := by simp [settle]
  rw [e]
  exact linkLaw_restartActs s h

/-! ## LOADING (R188) -/

theorem setEntry_same (u : AlarmUnit) (k : AlarmKind) (n : Nat) (e : AlarmEntry)
    (h : u.entry? k n = some e) : u.setEntry k n e = u := by
  unfold AlarmUnit.entry? at h
  unfold AlarmUnit.setEntry AlarmUnit.setGroup
  obtain ⟨hn, he⟩ := List.getElem?_eq_some_iff.mp h
  have : (u.group k).entries.set n e = (u.group k).entries := by
    rw [← he, List.set_getElem_self]
  rw [this]
  show { u with groups := u.groups.set (alarmIndex k) (u.groups[alarmIndex k]) } = u
  congr 1
  ext i hi
  simp only [Vector.getElem_set]
  split
  · rename_i g; subst g; rfl
  · rfl

/-- An entry that a move leaves as it is leaves the alarm unit as its outputs then stand. -/
theorem moveEntry_same (f : AlarmConfig → Nat → AlarmEntry → EntryStep) (now : Nat) (k : AlarmKind)
    (n : Nat) (u : AlarmUnit)
    (h : ∀ e, u.entry? k n = some e → f (u.group k).config now e = (e, none)) :
    moveEntry f now k n u = u := by
  unfold moveEntry
  split
  · rename_i e he
    rw [h e he]
    exact setEntry_same u k n e he
  · rfl

/-- Every entry of the alarm unit right after pin reset is in CLEAR, and stays there. -/
theorem entryAtReset_quiet (k : AlarmKind) (n : Nat) (e : AlarmEntry)
    (h : State.reset.alarms.entry? k n = some e) : e = entryAtReset := by
  have : (State.reset.alarms.group k).entries = List.replicate (alarmCount k) entryAtReset := by
    cases k <;> rfl
  unfold AlarmUnit.entry? at h
  rw [this] at h
  exact List.eq_of_mem_replicate (List.mem_of_getElem? h)

theorem moveAlarm_loading (f : AlarmConfig → Nat → AlarmEntry → EntryStep)
    (hf : ∀ c now, f c now entryAtReset = (entryAtReset, none)) (k : AlarmKind) (n : Nat) (s : State)
    (h : s.alarms = State.reset.alarms) : s.moveAlarm f k n = s := by
  have m : moveEntry f s.time.base k n s.alarms = s.alarms := by
    refine moveEntry_same f _ k n _ fun e he => ?_
    rw [h] at he ⊢
    rw [entryAtReset_quiet k n e he]
    exact hf _ _
  have o : refreshOutputs s.alarms = s.alarms := by rw [h]; decide +kernel
  unfold State.moveAlarm
  rw [m, o]
  rfl

theorem foldl_same {α β : Type} {f : β → α → β} (l : List α) (s : β) (h : ∀ x ∈ l, f s x = s) :
    l.foldl f s = s := by
  induction l with
  | nil => rfl
  | cons x l ih =>
    rw [List.foldl_cons, h x List.mem_cons_self]
    exact ih fun y hy => h y (List.mem_cons_of_mem x hy)

/-- Nothing is due in LOADING: what settles leaves the state as it is (R188). -/
theorem settle_loading (s : State) (h : LoadingLaw s) (hl : s.part = .loading) : settle s = s := by
  have b := h.blocks hl
  have hr : s.refs = State.reset.refs := by rw [b]
  have hv : s.selector = State.reset.selector := by rw [b]
  have hp : s.ports = State.reset.ports := by rw [b]
  have hc : s.chain = State.reset.chain := by rw [b]
  have ha : s.alarms = State.reset.alarms := by rw [b]
  have slot (k : Slot) : slotExpiries s k = s := by
    have e : s.ref k = State.reset.ref k := by unfold State.ref; rw [hr]
    have e1 : (s.ref k).period.due = false := by rw [e]; cases k <;> rfl
    have e2 : (s.ref k).qualify.due = false := by rw [e]; cases k <;> rfl
    have e3 : (s.ref k).wait.due = false := by rw [e]; cases k <;> rfl
    have p1 : periodEnds k s = s := by simp [periodEnds, e1]
    have p2 : qualifies k s = s := by simp [qualifies, e2]
    have p3 : waitEnds k s = s := by simp [waitEnds, e3]
    unfold slotExpiries
    rw [p1, p2, p3]
  have window (k : SatSlot) : closeWindow k s = s := by
    have e : (s.ref (satSlot k)).window = none := by
      unfold State.ref; rw [hr]; cases k <;> rfl
    simp [closeWindow, windowReached, e]
  have windows : closeWindows s = s := by
    unfold closeWindows
    rw [window, window]
  have port (p : Fin 12) : rearmExpires p s = s := by
    have e : s.port p = portAtReset defaultPort := by
      unfold State.port; rw [hp]; simp [State.reset]
    have e' : (s.port p).rearm.due = false := by rw [e]; rfl
    simp [rearmExpires, e']
  have entry (x : AlarmKind × Nat) : entryExpiries s x = s := by
    unfold entryExpiries
    rw [moveAlarm_loading entryRaiseExpires (fun _ _ => rfl) x.1 x.2 s ha,
      moveAlarm_loading entryClearExpires (fun _ _ => rfl) x.1 x.2 s ha]
  have d1 : dwellExpires s = s := by
    have e : s.selector.dwell.due = false := by rw [hv]; rfl
    simp [dwellExpires, e]
  have c1 : swapExpires s = s := by
    have e : s.chain.swap = none := by rw [hc]; rfl
    simp [swapExpires, e]
  have c2 : conflictExpires s = s := by
    have e : s.chain.conflict.due = false := by rw [hc]; rfl
    simp [conflictExpires, e]
  have c3 : tooLongExpires s = s := by
    have e : s.chain.tooLong.due = false := by rw [hc]; rfl
    simp [tooLongExpires, e]
  unfold settle
  dsimp only
  rw [restartActs_of_not_due (h.due hl), foldl_same allSlots s (fun k _ => slot k), windows, d1,
    foldl_same allPorts s (fun p _ => port p), c1, c2, c3]
  exact foldl_same allEntries s fun x _ => entry x

end Sys2Proof.Machine
end

