-- ==== Sys2Proof/Laws/Octets.lean ====
section
/-!
SUPPORT. What a writer of octets has written, the reader of the same field reads back (R191), whatever
octets follow.
-/

namespace Sys2Proof.Machine

/-! ## Numbers -/

@[simp] theorem putU_length (n v : Nat) : (putU n v).length = n := by
  induction n generalizing v with
  | zero => rfl
  | succ n ih => simp [putU, ih]

theorem getU_append (l : List Byte) (b : Byte) : getU (l ++ [b]) = getU l * 256 + b.toNat := by
  simp [getU, List.foldl_append]

theorem getU_putU (n v : Nat) : getU (putU n v) = v % 256 ^ n := by
  induction n generalizing v with
  | zero => simp [putU, getU, Nat.mod_one]
  | succ n ih =>
    have h : v % 256 ^ (n + 1) = v % 256 + 256 * (v / 256 % 256 ^ n) := by
      rw [Nat.pow_succ', Nat.mod_mul]
    rw [putU, getU_append, ih, BitVec.toNat_ofNat, h]
    omega

/-- A number that fits is read back. -/
theorem readU_putU {n v : Nat} (h : v < 256 ^ n) (l : List Byte) :
    readU n (putU n v ++ l) = some (v, l) := by
  simp [readU, getU_putU, Nat.mod_eq_of_lt h]

/-- A signed number that fits is read back. -/
theorem readI_putI {n : Nat} {v : Int} (h : -(256 ^ n : Int) ≤ 2 * v) (g : 2 * v < 256 ^ n)
    (l : List Byte) : readI n (putI n v ++ l) = some (v, l) := by
  have e : ((v % (256 : Int) ^ n).toNat : Int) = v % 256 ^ n :=
    Int.toNat_of_nonneg (Int.emod_nonneg _ (by positivity))
  have lt : (v % (256 : Int) ^ n).toNat < 256 ^ n := by
    have := Int.emod_lt_of_pos v (show (0 : Int) < 256 ^ n by positivity)
    zify
    omega
  have c : ((256 ^ n : Nat) : Int) = 256 ^ n := by push_cast; rfl
  simp only [readI, putI, List.length_append, putU_length, Nat.le_add_right, if_true,
    List.take_left', List.drop_left', getI, getU_putU, Nat.mod_eq_of_lt lt, Option.some.injEq,
    Prod.mk.injEq, and_true]
  rcases Int.lt_or_le v 0 with n0 | n0
  · have em : v % (256 : Int) ^ n = v + 256 ^ n := by
      rw [← Int.add_emod_right, Int.emod_eq_of_lt] <;> omega
    rw [if_neg]
    · rw [e, em]; omega
    · zify; omega
  · have em : v % (256 : Int) ^ n = v := Int.emod_eq_of_lt n0 (by omega)
    rw [if_pos]
    · rw [e, em]
    · zify; omega

/-! ## Readers put together -/

theorem Reader.bind_some {α β : Type} {r : Reader α} {f : α → Reader β} {l rest : List Byte} {a : α}
    (h : r l = some (a, rest)) : Reader.bind r f l = f a rest := by
  simp [Reader.bind, h]

/-- A two-valued octet is read back. -/
theorem readB_putB (b : Bool) (l : List Byte) : readB (putB b ++ l) = some (b, l) := by
  cases b <;> rfl

/-- A code that a reader knows is read back. -/
theorem readNamed_code {α : Type} {f : Nat → Option α} {c : Byte} {a : α} (h : f c.toNat = some a)
    (l : List Byte) : readNamed f (c :: l) = some (a, l) := by
  simp [readNamed, Reader.bind, readU, getU, Reader.some?, h, Reader.pure]

theorem readNamed_grade (g : Grade) (l : List Byte) :
    readNamed gradeOf (putGrade g ++ l) = some (g, l) := by
  cases g <;> rfl

theorem readNamed_portType (x : PortType) (l : List Byte) :
    readNamed portTypeOf (putPortType x ++ l) = some (x, l) := by
  cases x <;> rfl

theorem readNamed_policy (x : PortPolicy) (l : List Byte) :
    readNamed policyOf (putPolicy x ++ l) = some (x, l) := by
  cases x <;> rfl

theorem readNamed_role (x : ChainRole) (l : List Byte) :
    readNamed roleOf (putRole x ++ l) = some (x, l) := by
  cases x <;> rfl

theorem readNamed_severity (x : Severity) (l : List Byte) :
    readNamed severityOf (putSeverity x ++ l) = some (x, l) := by
  cases x <;> rfl

/-- A selection mode is read back. -/
theorem readMode_putMode (m : SelMode) (l : List Byte) :
    readMode (putMode m ++ l) = some (m, l) := by
  cases m with
  | auto => rfl
  | hold => rfl
  | forced k => cases k <;> rfl

/-- A number that may be absent is read back. -/
theorem readOptU_putOptU {n : Nat} {v : Option Nat} (h : ∀ x, v = some x → x < 256 ^ n)
    (l : List Byte) : readOptU n (putOptU n v ++ l) = some (v, l) := by
  cases v with
  | none =>
    have g : readB (0#8 :: (List.replicate n 0#8 ++ l)) = some (false, List.replicate n 0#8 ++ l) :=
      readB_putB false _
    have q : readU n (List.replicate n 0#8 ++ l) = some (getU (List.replicate n 0#8), l) := by
      simp [readU]
    simp [readOptU, putOptU, Reader.bind, g, q, Reader.pure]
  | some x =>
    have g : readB (1#8 :: (putU n x ++ l)) = some (true, putU n x ++ l) := readB_putB true _
    simp [readOptU, putOptU, Reader.bind, g, readU_putU (h x rfl), Reader.pure]

/-- A field that may be absent is read back, if its octets are. -/
theorem readOpt_putOpt {α : Type} {n : Nat} {put : α → List Byte} {get : List Byte → Option α}
    {v : Option α} (len : ∀ a, (put a).length = n) (h : ∀ a, v = some a → get (put a) = some a)
    (l : List Byte) : readOpt n get (putOpt n put v ++ l) = some (v, l) := by
  cases v with
  | none =>
    have g : readB (0#8 :: (List.replicate n 0#8 ++ l)) = some (false, List.replicate n 0#8 ++ l) :=
      readB_putB false _
    simp [readOpt, putOpt, Reader.bind, g]
  | some a =>
    have g : readB (1#8 :: (put a ++ l)) = some (true, put a ++ l) := readB_putB true _
    simp [readOpt, putOpt, Reader.bind, g, len, h a rfl]

end Sys2Proof.Machine
end

