-- ==== Sys2Proof/Laws/PerInstr.lean ====
section
/-!
SUPPORT. Statements made command by command: what a command carries as a request.
-/

namespace Sys2Proof.Laws.Carries

/-- A command that is a request carries a kind of the catalogue, so its frame is no
UNKNOWN_KIND (R185). -/
def Statement (i : Instr) : Prop :=
  ∀ kind tag, requestOf i = some (kind, tag) → Machine.knownKind kind = true

theorem pinReset (mode : LinkMode) : Statement (.pinReset mode) := nofun

theorem profileLoadDone (read : FlashRead) (straps : BitVec 3) :
    Statement (.profileLoadDone read straps) := nofun

theorem profileLoadTimeout (straps : BitVec 3) : Statement (.profileLoadTimeout straps) := nofun

theorem profileSaveDone (result : SaveResult) : Statement (.profileSaveDone result) := nofun

theorem profileSaveTimeout : Statement (.profileSaveTimeout) := nofun

theorem frameReceived (octets : List Byte) : Statement (.frameReceived octets) := nofun

theorem selectReleased : Statement (.selectReleased) := nofun

theorem frameTimeout : Statement (.frameTimeout) := nofun

theorem replySent : Statement (.replySent) := nofun

theorem unknownKind (tag kind : Byte) : Statement (.unknownKind tag kind) := nofun

theorem setTime (tag : Byte) (seconds : Nat) (offset : Option Nat) :
    Statement (.setTime tag seconds offset) := by
  intro _ _ h; cases h; decide

theorem getTime (tag : Byte) : Statement (.getTime tag) := by
  intro _ _ h; cases h; decide

theorem setReference (tag : Byte) (slot : Nat) (config : ReferenceConfig) :
    Statement (.setReference tag slot config) := by
  intro _ _ h; cases h; decide

theorem getReference (tag : Byte) (slot : Nat) : Statement (.getReference tag slot) := by
  intro _ _ h; cases h; decide

theorem lockout (tag : Byte) (slot : Nat) (on : Bool) : Statement (.lockout tag slot on) := by
  intro _ _ h; cases h; decide

theorem clearCounts (tag : Byte) (slot : Option Nat) : Statement (.clearCounts tag slot) := by
  intro _ _ h; cases h; decide

theorem label (tag : Byte) (slot seconds : Nat) : Statement (.label tag slot seconds) := by
  intro _ _ h; cases h; decide

theorem sample (tag : Byte) (sequence : Nat) (offset : Int) (delay : Nat) (grade : Grade) :
    Statement (.sample tag sequence offset delay grade) := by
  intro _ _ h; cases h; decide

theorem setFilter (tag : Byte) (config : FilterConfig) : Statement (.setFilter tag config) := by
  intro _ _ h; cases h; decide

theorem getFilter (tag : Byte) (clear : Bool) : Statement (.getFilter tag clear) := by
  intro _ _ h; cases h; decide

theorem setSelection (tag : Byte) (config : SelectionConfig) :
    Statement (.setSelection tag config) := by
  intro _ _ h; cases h; decide

theorem getSelection (tag : Byte) : Statement (.getSelection tag) := by
  intro _ _ h; cases h; decide

theorem setServo (tag : Byte) (config : ServoConfig) : Statement (.setServo tag config) := by
  intro _ _ h; cases h; decide

theorem getServo (tag : Byte) : Statement (.getServo tag) := by
  intro _ _ h; cases h; decide

theorem allowStep (tag : Byte) : Statement (.allowStep tag) := by
  intro _ _ h; cases h; decide

theorem setHoldover (tag : Byte) (config : HoldoverConfig) :
    Statement (.setHoldover tag config) := by
  intro _ _ h; cases h; decide

theorem getHoldover (tag : Byte) : Statement (.getHoldover tag) := by
  intro _ _ h; cases h; decide

theorem getHistory (tag : Byte) (start count : Nat) : Statement (.getHistory tag start count) := by
  intro _ _ h; cases h; decide

theorem clearHistory (tag : Byte) : Statement (.clearHistory tag) := by
  intro _ _ h; cases h; decide

theorem setPort (tag : Byte) (port : Nat) (config : PortConfig) :
    Statement (.setPort tag port config) := by
  intro _ _ h; cases h; decide

theorem enablePort (tag : Byte) (port : Nat) : Statement (.enablePort tag port) := by
  intro _ _ h; cases h; decide

theorem disablePort (tag : Byte) (port : Nat) : Statement (.disablePort tag port) := by
  intro _ _ h; cases h; decide

theorem adjustPort (tag : Byte) (port : Nat) (amount : Int) :
    Statement (.adjustPort tag port amount) := by
  intro _ _ h; cases h; decide

theorem getPort (tag : Byte) (port : Nat) : Statement (.getPort tag port) := by
  intro _ _ h; cases h; decide

theorem setChain (tag : Byte) (config : ChainConfig) : Statement (.setChain tag config) := by
  intro _ _ h; cases h; decide

theorem getChain (tag : Byte) : Statement (.getChain tag) := by
  intro _ _ h; cases h; decide

theorem chainCommand (tag : Byte) (kind : Option ChainCommandKind) (target : Nat)
    (arg : Option Leap) :
    Statement (.chainCommand tag kind target arg) := by
  intro _ _ h; cases h; decide

theorem chainCancel (tag : Byte) : Statement (.chainCancel tag) := by
  intro _ _ h; cases h; decide

theorem postWord (tag : Byte) (word : Word32) : Statement (.postWord tag word) := by
  intro _ _ h; cases h; decide

theorem fetchWord (tag : Byte) : Statement (.fetchWord tag) := by
  intro _ _ h; cases h; decide

theorem schedule (tag : Byte) (kind : Option ActionKind) (due : Nat) (arg : Option Nat) :
    Statement (.schedule tag kind due arg) := by
  intro _ _ h; cases h; decide

theorem cancel (tag : Byte) (id : Nat) : Statement (.cancel tag id) := by
  intro _ _ h; cases h; decide

theorem getActions (tag : Byte) : Statement (.getActions tag) := by
  intro _ _ h; cases h; decide

theorem setAlarm (tag : Byte) (kind : Option AlarmKind) (config : AlarmConfig) :
    Statement (.setAlarm tag kind config) := by
  intro _ _ h; cases h; decide

theorem getAlarms (tag : Byte) (query : AlarmQuery) : Statement (.getAlarms tag query) := by
  intro _ _ h; cases h; decide

theorem ackAlarm (tag : Byte) (target : AckTarget) : Statement (.ackAlarm tag target) := by
  intro _ _ h; cases h; decide

theorem getNotices (tag : Byte) (max : Nat) : Statement (.getNotices tag max) := by
  intro _ _ h; cases h; decide

theorem setAttention (tag : Byte) (on : Bool) : Statement (.setAttention tag on) := by
  intro _ _ h; cases h; decide

theorem getStatus (tag : Byte) : Statement (.getStatus tag) := by
  intro _ _ h; cases h; decide

theorem saveProfile (tag : Byte) : Statement (.saveProfile tag) := by
  intro _ _ h; cases h; decide

theorem restart (tag : Byte) : Statement (.restart tag) := by
  intro _ _ h; cases h; decide

theorem softRestart : Statement (.softRestart) := nofun

theorem secondBoundary (order : List Block) : Statement (.secondBoundary order) := nofun

theorem endOfRange : Statement (.endOfRange) := nofun

theorem satPulse (slot : SatSlot) (t : Nat) : Statement (.satPulse slot t) := nofun

theorem satWindowClose (slot : SatSlot) : Statement (.satWindowClose slot) := nofun

theorem lineEdge (slot : LineSlot) (t edges : Nat) : Statement (.lineEdge slot t edges) := nofun

theorem lineLoss (slot : LineSlot) : Statement (.lineLoss slot) := nofun

theorem chainMarker (port : ChainPort) (t : Nat) : Statement (.chainMarker port t) := nofun

theorem chainFrame (port : ChainPort) (t : Nat) (octets : List Byte) (commandFirst : Bool) :
    Statement (.chainFrame port t octets commandFirst) := nofun

theorem qualifyTimerExpiry (slot : Slot) : Statement (.qualifyTimerExpiry slot) := nofun

theorem waitTimerExpiry (slot : Slot) : Statement (.waitTimerExpiry slot) := nofun

theorem observationPeriodEnd (slot : Slot) : Statement (.observationPeriodEnd slot) := nofun

theorem dwellExpiry : Statement (.dwellExpiry) := nofun

theorem rearmTimerExpiry (port : Fin 12) : Statement (.rearmTimerExpiry port) := nofun

theorem portEmission (port : Fin 12) : Statement (.portEmission port) := nofun

theorem pulseEnd (port : Fin 12) : Statement (.pulseEnd port) := nofun

theorem swapTimerExpiry : Statement (.swapTimerExpiry) := nofun

theorem conflictTimerExpiry : Statement (.conflictTimerExpiry) := nofun

theorem tooLongTimerExpiry : Statement (.tooLongTimerExpiry) := nofun

theorem raiseDelayExpiry (kind : AlarmKind) (number : Nat) :
    Statement (.raiseDelayExpiry kind number) := nofun

theorem clearDelayExpiry (kind : AlarmKind) (number : Nat) :
    Statement (.clearDelayExpiry kind number) := nofun

theorem clockEdge (port : Fin 12) (k : Nat) (rising : Bool) :
    Statement (.clockEdge port k rising) := nofun

theorem overlongBodyLength (length : Word16) : Statement (.overlongBodyLength length) := nofun

end Sys2Proof.Laws.Carries
end

