-- ==== Sys2Proof/Laws/Selection.lean ====
section
/-!
SUPPORT. The selector, the servo and the monitors agree: an evaluation makes the selected slot a
candidate, a switch puts the servo in a state of the slot's kind, and every other operation leaves
both as they are.  One lemma an operation.
-/

-- One proof at a time: elaborated side by side, so many small proofs reserve too many thread stacks.
set_option Elab.async false

namespace Sys2Proof.Machine

open Sys2Proof.Safety

/-! ## The laws as relations between states -/

/-- The laws that hold even between the parts of one event: the servo's and the monitors'. -/
def Tracks (s : State) : Prop := ServoLaw s ∧ MonitorLaw s

/-- What an operation does to the laws of selection. -/
structure Selects (s t : State) : Prop where
  tracks : Tracks s → Tracks t
  selection : Tracks s → SelectionLaw s → SelectionLaw t

theorem Selects.refl (s : State) : Selects s s := ⟨id, fun _ => id⟩

theorem Selects.trans {s t u : State} (h : Selects s t) (g : Selects t u) : Selects s u :=
  ⟨g.tracks ∘ h.tracks, fun a b => g.selection (h.tracks a) (h.selection a b)⟩

theorem Selects.foldl {α : Type} {f : State → α → State} (h : ∀ s x, Selects s (f s x)) (l : List α)
    (s : State) : Selects s (l.foldl f s) := by
  induction l generalizing s with
  | nil => exact .refl s
  | cons x l ih => exact (h s x).trans (ih _)

/-- What the selector sees of a monitor. -/
structure SameMonitor (m n : Monitor) : Prop where
  state : n.state = m.state
  lockedOut : n.lockedOut = m.lockedOut
  config : n.config = m.config
  declared : n.declared = m.declared

theorem SameMonitor.refl (m : Monitor) : SameMonitor m m := ⟨rfl, rfl, rfl, rfl⟩

theorem SameMonitor.trans {a b c : Monitor} (h : SameMonitor a b) (g : SameMonitor b c) :
    SameMonitor a c :=
  ⟨g.state.trans h.state, g.lockedOut.trans h.lockedOut, g.config.trans h.config,
   g.declared.trans h.declared⟩

/-- What the selector sees of the monitors. -/
def SameRefs (s t : State) : Prop := ∀ k, SameMonitor (s.refs.get k) (t.refs.get k)

theorem SameRefs.refl (s : State) : SameRefs s s := fun _ => .refl _

theorem SameRefs.trans {s t u : State} (h : SameRefs s t) (g : SameRefs t u) : SameRefs s u :=
  fun k => (h k).trans (g k)

theorem SameRefs.of_eq {s t : State} (h : t.refs = s.refs) : SameRefs s t := fun k => by
  rw [h]; exact .refl _

/-- Every monitor stands but for its disagreement run. -/
def SameMonitors (s t : State) : Prop :=
  ∀ k, ({ t.ref k with disagree := 0 } : Monitor) = { s.ref k with disagree := 0 }

theorem SameMonitors.refl (s : State) : SameMonitors s s := fun _ => rfl

theorem SameMonitors.trans {s t u : State} (h : SameMonitors s t) (g : SameMonitors t u) :
    SameMonitors s u := fun k => (g k).trans (h k)

theorem SameMonitors.of_eq {s t : State} (h : t.refs = s.refs) : SameMonitors s t := fun k => by
  simp only [State.ref, h]

theorem SameMonitors.refs {s t : State} (h : SameMonitors s t) : SameRefs s t := fun k => by
  have e := h k
  simp only [State.ref, Monitor.mk.injEq] at e
  exact ⟨by simp_all, by simp_all, by simp_all, by simp_all⟩

theorem declaredGrade_same {m n : Monitor} (h : SameMonitor m n) (k : Slot) :
    declaredGrade k n = declaredGrade k m := by
  unfold declaredGrade
  split <;> simp [h.declared, h.config]

/-- A step that writes nothing of what the laws of selection speak of. -/
theorem Selects.of_same {s t : State} (selected : t.selector.selected = s.selector.selected)
    (config : t.selector.config = s.selector.config) (state : t.servo.state = s.servo.state)
    (followed : t.servo.followed = s.servo.followed) (refs : SameRefs s t) : Selects s t where
  tracks h := by
    refine ⟨⟨?_, ?_, ?_⟩, fun k => ?_⟩
    · rw [selected, followed]; exact h.1.followed
    · rw [selected, state]; exact h.1.free
    · rw [selected, state]; exact h.1.line
    · have := h.2 k
      simp only [State.ref] at this ⊢
      rw [(refs k).state, (refs k).config]; exact this
  selection _ h k e := by
    have := h k (selected ▸ e)
    simp only [State.ref] at this ⊢
    rw [(refs k).state, (refs k).lockedOut, (refs k).config, declaredGrade_same (refs k), config]
    exact this

/-- A step that leaves the selector, the servo and the monitors. -/
theorem Selects.of_blocks {s t : State} (h : t.selector = s.selector) (g : t.servo = s.servo)
    (r : t.refs = s.refs) : Selects s t :=
  .of_same (by rw [h]) (by rw [h]) (by rw [g]) (by rw [g]) (.of_eq r)

/-! ## Candidates -/

/-- A candidate, by the tests of R60 (R60). -/
theorem candidate_iff (s : State) (k : Slot) (h : candidate s k = true) :
    (s.ref k).state = .qualified ∧ (s.ref k).lockedOut = false ∧
    (∃ g, declaredGrade k (s.ref k) = some g ∧ gradeMeets g s.selector.config.minGrade = true) ∧
    (s.selector.config.mode = .forced k
      ∨ (s.selector.config.mode = .auto ∧ (s.ref k).config.priority ≠ 0)) := by
  unfold candidate exclusion at h
  dsimp only at h
  (repeat' split at h) <;> simp_all

theorem bestCandidate_fold (s : State) (l : List Slot) (b : Option Slot)
    (hb : ∀ k, b = some k → candidate s k = true) (hl : ∀ k ∈ l, candidate s k = true) :
    ∀ k, l.foldl (fun best k => match best with
      | some b => if ranksAbove s k b then some k else some b
      | none => some k) b = some k → candidate s k = true := by
  induction l generalizing b with
  | nil => exact hb
  | cons x l ih =>
    refine ih _ (fun k e => ?_) fun k hk => hl k (List.mem_cons_of_mem x hk)
    have hx := hl x List.mem_cons_self
    dsimp only at e
    split at e
    · split at e
      · cases e; exact hx
      · exact hb k e
    · cases e; exact hx

/-- The slot ranked first is a candidate (R61). -/
theorem bestCandidate_candidate (s : State) (k : Slot) (h : bestCandidate s = some k) :
    candidate s k = true :=
  bestCandidate_fold s _ none (by simp) (fun j hj => by simp [candidates] at hj; exact hj.2) k h

/-! ## Servo states -/

theorem resetDisagreement_monitors (s : State) : SameMonitors s (resetDisagreement s) := fun k => by
  simp [resetDisagreement, State.ref, mapRefs_get]

theorem resetDisagreement_selects (s : State) : Selects s (resetDisagreement s) :=
  .of_same (by simp) (by simp) (by simp) (by simp) (resetDisagreement_monitors s).refs

/-- A change of servo state writes the state and leaves the slot followed (R76). -/
theorem servoEnter_servo (n : ServoState) (c : ServoCause) (s : State) :
    (servoEnter n c s).servo.state = n ∧ (servoEnter n c s).servo.followed = s.servo.followed := by
  unfold servoEnter
  dsimp only
  (repeat' split)
  · rename_i h; exact ⟨h, rfl⟩
  · simp
  · simp

theorem clearPullRuns_servo (s : State) : (clearPullRuns s).servo.state = s.servo.state ∧
    (clearPullRuns s).servo.followed = s.servo.followed := by simp [clearPullRuns]

/-- The kind of a servo state matches what is selected (R76). -/
structure Matches (k : Option Slot) (v : ServoState) : Prop where
  free : k = none ↔ v = .freerun ∨ v = .holdover
  line : (∃ j, k = some j ∧ isLine j = true) ↔ v = .freqLocked

theorem matches_none {v : ServoState} (h : v = .freerun ∨ v = .holdover) : Matches none v :=
  ⟨by simp [h], by rcases h with rfl | rfl <;> simp⟩

theorem matches_line {k : Slot} (h : isLine k = true) : Matches (some k) .freqLocked :=
  ⟨by simp, by simp [h]⟩

theorem matches_phase {k : Slot} {v : ServoState} (h : isLine k = false)
    (hv : v = .acquiring ∨ v = .locked) : Matches (some k) v :=
  ⟨by rcases hv with rfl | rfl <;> simp, by rcases hv with rfl | rfl <;> simp [h]⟩

theorem servoDeselected_servo (s : State) :
    ((servoDeselected s).servo.state = .freerun ∨ (servoDeselected s).servo.state = .holdover) ∧
    (servoDeselected s).servo.followed = s.servo.followed := by
  unfold servoDeselected
  dsimp only
  (repeat' split) <;> simp [servoEnter_servo, clearPullRuns_servo, clearLockRuns]

/-- After a switch the servo follows the slot, in a state of its kind (R77). -/
theorem servoSwitch_servo (k : Option Slot) (s : State) :
    Matches k (servoSwitch k s).servo.state ∧ (servoSwitch k s).servo.followed = k := by
  unfold servoSwitch
  dsimp only
  split
  · split
    · rename_i h; exact ⟨matches_none (.inl h), rfl⟩
    · rename_i h; exact ⟨matches_none (.inr h), rfl⟩
    all_goals
      exact ⟨matches_none (servoDeselected_servo _).1, (servoDeselected_servo _).2⟩
  · rename_i j
    split
    · rename_i hl
      unfold servoToLine
      split <;> simp_all [servoEnter_servo, matches_line, clearLockRuns, follow]
    · rename_i hl
      have hl : isLine j = false := by simpa using hl
      unfold servoToPhase
      split <;> simp_all [servoEnter_servo, matches_phase, clearLockRuns, follow]

theorem servoEnter_monitors (n : ServoState) (c : ServoCause) (s : State) :
    SameMonitors s (servoEnter n c s) := by
  unfold servoEnter
  dsimp only
  (repeat' split)
  · exact .refl s
  · intro k
    simp only [State.ref, servoEntered_frame, State.post_frame, resetDisagreement, State.setRefs_refs,
      mapRefs_get, State.setServo_refs]
  · exact .of_eq (by simp)

theorem servoDeselected_monitors (s : State) : SameMonitors s (servoDeselected s) := by
  unfold servoDeselected
  dsimp only
  (repeat' split) <;> exact .trans (.of_eq (by simp)) (servoEnter_monitors _ _ _)

theorem servoToPhase_monitors (s : State) : SameMonitors s (servoToPhase s) := by
  unfold servoToPhase
  split <;> first
    | with_reducible exact .trans (.of_eq (by simp)) (servoEnter_monitors _ _ _)
    | exact .of_eq rfl

theorem servoToLine_monitors (s : State) : SameMonitors s (servoToLine s) := by
  unfold servoToLine
  split <;> first
    | with_reducible exact .trans (.of_eq (by simp)) (servoEnter_monitors _ _ _)
    | exact .of_eq rfl

theorem servoSwitch_monitors (k : Option Slot) (s : State) : SameMonitors s (servoSwitch k s) := by
  have f : SameMonitors s (follow k s) := .of_eq (by simp)
  unfold servoSwitch
  dsimp only
  (repeat' split) <;> first
    | with_reducible exact f
    | with_reducible exact f.trans (servoDeselected_monitors _)
    | with_reducible exact f.trans (servoToLine_monitors _)
    | with_reducible exact f.trans (servoToPhase_monitors _)

/-! ## Selector -/

theorem holdoverSwitch_monitors (s : State) : SameMonitors s (holdoverSwitch s) := .of_eq (by simp)

theorem recomputeGrade_monitors (s : State) : SameMonitors s (recomputeGrade s) := .of_eq (by simp)

theorem selectorConditions_monitors (s : State) : SameMonitors s (selectorConditions s) := .of_eq (by simp)

/-- A switch leaves the monitors alone, but for the disagreement runs (R69). -/
theorem switchTo_monitors (k : Option Slot) (c : EvalCause) (s : State) : SameMonitors s (switchTo k c s) := by
  unfold switchTo
  dsimp only
  exact (SameMonitors.trans (.of_eq (by simp)) (resetDisagreement_monitors _)).trans
      ((holdoverSwitch_monitors _).trans ((servoSwitch_monitors _ _).trans (recomputeGrade_monitors _)))

/-- What a switch leaves (R69). -/
theorem switchTo_spec (k : Option Slot) (c : EvalCause) (s : State) :
    (switchTo k c s).selector.selected = k ∧
    (switchTo k c s).selector.config = s.selector.config ∧
    Matches k (switchTo k c s).servo.state ∧ (switchTo k c s).servo.followed = k ∧
    SameRefs s (switchTo k c s) := by
  unfold switchTo
  dsimp only
  refine ⟨by simp, by simp, ?_, ?_, ?_⟩
  · simp only [recomputeGrade_frame]; exact (servoSwitch_servo _ _).1
  · simp only [recomputeGrade_frame]; exact (servoSwitch_servo _ _).2
  · exact (switchTo_monitors _ _ _).refs

theorem monitorLaw_same {s t : State} (h : SameRefs s t) (g : MonitorLaw s) : MonitorLaw t := fun k => by
  have := g k
  simp only [State.ref] at this ⊢
  rw [(h k).state, (h k).config]; exact this

/-- A candidate stays one when the selector's record and the monitors stand. -/
theorem selectionLaw_of_candidate {s t : State} {k : Slot} (hk : candidate s k = true)
    (hc : t.selector.config = s.selector.config) (hr : SameRefs s t)
    (hs : t.selector.selected = some k) : SelectionLaw t := fun j e => by
  rw [hs] at e
  cases e
  have := candidate_iff s k hk
  simp only [State.ref] at this ⊢
  rw [(hr k).state, (hr k).lockedOut, (hr k).config, declaredGrade_same (hr k), hc]
  exact this

/-- An evaluation that reads the state `s` has selected a candidate of `s`, or nothing. -/
structure Evaluated (s t : State) : Prop where
  selected : ∀ k, t.selector.selected = some k → candidate s k = true
  config : t.selector.config = s.selector.config
  servo : ServoLaw s → ServoLaw t
  refs : SameRefs s t

theorem Evaluated.selection {s t : State} (h : Evaluated s t) : SelectionLaw t := by
  intro k e
  exact selectionLaw_of_candidate (h.selected k e) h.config h.refs e k e

theorem choose_evaluated (k : Option Slot) (c : EvalCause) (s : State)
    (h : ∀ j, k = some j → candidate s j = true) : Evaluated s (choose k c s) := by
  unfold choose
  split
  · rename_i e
    exact ⟨fun j g => h j (e.trans g), rfl, id, .refl s⟩
  · have w := switchTo_spec k c s
    refine ⟨fun j g => h j (w.1.symm.trans g), w.2.1, fun _ => ?_, w.2.2.2.2⟩
    refine ⟨w.2.2.2.1.trans w.1.symm, ?_, ?_⟩
    · rw [w.1]; exact w.2.2.1.free
    · rw [w.1]; exact w.2.2.1.line

theorem evaluateAuto_evaluated (c : EvalCause) (s : State) : Evaluated s (evaluateAuto c s) := by
  have best : Evaluated s (choose (bestCandidate s) c s) :=
    choose_evaluated _ _ _ fun j h => bestCandidate_candidate s j h
  unfold evaluateAuto
  split
  · exact best
  · rename_i k hk
    split
    · exact best
    · rename_i hc
      have hc : candidate s k = true := by simpa using hc
      have keep : ∀ j, s.selector.selected = some j → candidate s j = true := fun j e => by
        rw [hk] at e; cases e; exact hc
      split
      · split
        · rename_i b hb
          split
          · refine choose_evaluated _ _ _ fun j h => ?_
            cases h
            unfold betterThan at hb
            split at hb
            · split at hb
              · rename_i h _; cases hb; exact bestCandidate_candidate s _ h
              · cases hb
            · cases hb
          · exact ⟨keep, rfl, fun g => ⟨g.followed, g.free, g.line⟩, .refl s⟩
        · exact ⟨keep, rfl, id, .refl s⟩
      · exact ⟨keep, rfl, id, .refl s⟩

theorem Evaluated.conditions {s t : State} (h : Evaluated s t) :
    Evaluated s (selectorConditions t) := by
  refine ⟨fun k e => h.selected k (by simpa using e), by simpa using h.config, fun g => ?_,
    h.refs.trans (.of_eq (by simp))⟩
  have := h.servo g
  exact ⟨by simpa using this.followed, by simpa using this.free, by simpa using this.line⟩

/-- An evaluation makes the selected slot a candidate, whatever it was (R63, R67, R68). -/
theorem evaluate_evaluated (c : EvalCause) (s : State) : Evaluated s (evaluate c s) := by
  unfold evaluate
  dsimp only
  split
  · exact (evaluateAuto_evaluated c s).conditions
  · refine (choose_evaluated _ _ _ fun j h => ?_).conditions
    split at h
    · cases h; assumption
    · cases h
  · exact (choose_evaluated none _ _ (by simp)).conditions

/-- An operation whose end is an evaluation makes the selection lawful. -/
structure Reports (s t : State) : Prop where
  tracks : Tracks s → Tracks t
  selection : SelectionLaw t

theorem Reports.selects {s t : State} (h : Reports s t) : Selects s t :=
  ⟨h.tracks, fun _ _ => h.selection⟩

theorem evaluate_reports (c : EvalCause) (s : State) : Reports s (evaluate c s) :=
  have w := evaluate_evaluated c s
  ⟨fun h => ⟨w.servo h.1, monitorLaw_same w.refs h.2⟩, w.selection⟩

theorem reportToSelector_reports (s : State) : Reports s (reportToSelector s) := evaluate_reports _ s

theorem choose_monitors (k : Option Slot) (c : EvalCause) (s : State) : SameMonitors s (choose k c s) := by
  unfold choose
  split
  · exact .refl s
  · exact switchTo_monitors _ _ _

theorem evaluateAuto_monitors (c : EvalCause) (s : State) : SameMonitors s (evaluateAuto c s) := by
  unfold evaluateAuto
  (repeat' split) <;> first | exact choose_monitors _ _ _ | exact .of_eq rfl

/-- An evaluation leaves the monitors alone, but for the disagreement runs that a switch returns to 0. -/
theorem evaluate_monitors (c : EvalCause) (s : State) : SameMonitors s (evaluate c s) := by
  unfold evaluate
  dsimp only
  (repeat' split) <;> refine SameMonitors.trans ?_ (selectorConditions_monitors _) <;>
    first | exact evaluateAuto_monitors _ _ | exact choose_monitors _ _ _

/-- Something that keeps the servo's and the monitors' laws, then an evaluation. -/
theorem Reports.after {s t u : State} (g : Reports t u) (h : Tracks s → Tracks t) : Reports s u :=
  ⟨g.tracks ∘ h, g.selection⟩

theorem writeMode_reports (m : SelMode) (v : Option SelMode) (s : State) :
    Reports s (writeMode m v s) :=
  (evaluate_reports _ _).after fun h => ⟨⟨h.1.followed, h.1.free, h.1.line⟩, h.2⟩

theorem modeHold_selects (s : State) : Selects s (modeHold s).1 := by
  unfold modeHold
  split
  · exact .refl s
  · exact (writeMode_reports .hold _ s).selects

theorem modeRelease_selects (s : State) : Selects s (modeRelease s).1 := by
  unfold modeRelease
  split
  · exact (writeMode_reports _ none s).selects
  · exact .refl s

theorem dwellExpires_selects (s : State) : Selects s (dwellExpires s) := by
  have stop : Selects s (s.setSelector { s.selector with dwell := Timer.stopped }) :=
    .of_same rfl rfl rfl rfl (.refl s)
  have e (t : State) : Selects t (t.setSelector { t.selector with pendingSwitch := none }) :=
    .of_same rfl rfl rfl rfl (.refl t)
  unfold dwellExpires
  dsimp only
  split
  · refine .trans ?_ (e _)
    split
    · rename_i k hm hk
      split
      · split
        · rename_i b hb
          have hb' : candidate (s.setSelector { s.selector with dwell := Timer.stopped }) b = true := by
            unfold betterThan at hb
            split at hb
            · split at hb
              · rename_i h _; cases hb; exact bestCandidate_candidate _ _ h
              · cases hb
            · cases hb
          have w := choose_evaluated (some b) .dwell
            (s.setSelector { s.selector with dwell := Timer.stopped }) fun j h => by cases h; exact hb'
          have r : Reports s (choose (some b) .dwell
              (s.setSelector { s.selector with dwell := Timer.stopped })) :=
            ⟨fun h => ⟨w.servo (stop.tracks h).1, monitorLaw_same w.refs (stop.tracks h).2⟩,
             w.selection⟩
          exact r.selects.trans (.of_blocks (by simp) (by simp) (by simp))
        · exact stop
      · exact stop
    · exact stop
  · exact .refl s

/-! ## Monitors -/

/-- One monitor written, what the selector sees of it aside. -/
theorem modRef_same (k : Slot) (f : Monitor → Monitor) (s : State)
    (h : SameMonitor (s.ref k) (f (s.ref k)) := by exact ⟨rfl, rfl, rfl, rfl⟩) :
    Selects s (modRef k f s) := by
  refine .of_same rfl rfl rfl rfl fun j => ?_
  show SameMonitor (s.ref j) ((modRef k f s).ref j)
  unfold modRef
  rw [State.setRef_ref_eq]
  split
  · subst_vars; exact h
  · exact .refl _

/-- One monitor written: the servo's law stands, and the monitors' if the new one obeys it. -/
theorem modRef_tracks (k : Slot) (f : Monitor → Monitor) (s : State)
    (h : (f (s.ref k)).state = .disabled ↔ (f (s.ref k)).config.enabled = false) (g : Tracks s) :
    Tracks (modRef k f s) := by
  refine ⟨⟨g.1.followed, g.1.free, g.1.line⟩, fun j => ?_⟩
  unfold modRef
  rw [State.setRef_ref_eq]
  split
  · exact h
  · exact g.2 j

theorem monitorConditions_selects (k : Slot) (s : State) : Selects s (monitorConditions k s) :=
  .of_blocks (by simp) (by simp) (by simp)

theorem filterFollows_selects (k : Slot) (s : State) : Selects s (filterFollows k s) :=
  .of_blocks (by simp) (by simp) (by simp)

/-- An enabled monitor stays enabled where it leaves DISABLED aside. -/
theorem monitorLaw_enabled {s : State} (h : MonitorLaw s) {k : Slot}
    (hk : (s.ref k).state ≠ .disabled) : (s.ref k).config.enabled = true := by
  by_contra e
  exact hk ((h k).mpr (by simpa using e))

theorem enterChecking_reports (k : Slot) (s : State)
    (h : Tracks s → (s.ref k).config.enabled = true) : Reports s (enterChecking k s) :=
  (reportToSelector_reports _).after fun g =>
    (monitorConditions_selects k _).tracks (modRef_tracks k startedMonitor s
      (by simp [startedMonitor, h g]) g)

theorem enterAbsent_reports (k : Slot) (s : State)
    (h : Tracks s → (s.ref k).config.enabled = true) : Reports s (enterAbsent k s) :=
  (reportToSelector_reports _).after fun g =>
    (monitorConditions_selects k _).tracks ((filterFollows_selects k _).tracks
      (modRef_tracks k (absentMonitor k) s (by simp [absentMonitor, h g]) g))

theorem enterDisabled_reports (k : Slot) (c : ReferenceConfig) (s : State) :
    Reports s (enterDisabled k c s) :=
  (reportToSelector_reports _).after fun g =>
    (monitorConditions_selects k _).tracks ((filterFollows_selects k _).tracks
      (modRef_tracks k (disabledMonitor k c) s (by simp [disabledMonitor, monitorAtReset]) g))

theorem failSlot_selects (c : FailCause) (k : Slot) (s : State) : Selects s (failSlot c k s) := by
  unfold failSlot
  split
  · rename_i hj
    refine Reports.selects ((reportToSelector_reports _).after fun g =>
      (monitorConditions_selects k _).tracks (modRef_tracks k (failedMonitor c) s ?_ g))
    have : (s.ref k).state ≠ .disabled := by
      intro e; simp [judging, e] at hj
    simp [failedMonitor, monitorLaw_enabled g.2 this]
  · exact .refl s

theorem signalAppears_selects (k : Slot) (s : State) : Selects s (signalAppears k s) := by
  have w : Selects s (modRef k (fun m => { m with signal := true }) s) := modRef_same k _ s
  unfold signalAppears
  dsimp only
  split
  · exact .refl s
  · split
    · rename_i e
      exact w.trans (Reports.selects (enterChecking_reports k _ fun g =>
        monitorLaw_enabled g.2 (by simp [modRef, e])))
    · exact w.trans (monitorConditions_selects k _)

theorem declareLoss_selects (k : Slot) (s : State) : Selects s (declareLoss k s) := by
  unfold declareLoss
  split
  · exact (modRef_same k _ s).trans ((monitorConditions_selects k _).trans (failSlot_selects _ _ _))
  · exact .refl s

theorem missEpoch_selects (l : Nat) (k : Slot) (s : State) : Selects s (missEpoch l k s) := by
  unfold missEpoch
  dsimp only
  split
  · exact (modRef_same k _ s).trans (declareLoss_selects _ _)
  · exact modRef_same k _ s

theorem goodEpoch_selects (k : Slot) (s : State) : Selects s (goodEpoch k s) := modRef_same k _ s

theorem demandRaise_selects (b : Bool) (k : Slot) (s : State) : Selects s (demandRaise b k s) := by
  unfold demandRaise
  split
  · exact modRef_same k _ s
  · exact failSlot_selects _ _ _

theorem periodEnds_selects (k : Slot) (s : State) : Selects s (periodEnds k s) := by
  have w : Selects s (modRef k (fun m => { m with period := m.period.taken }) s) := modRef_same k _ s
  have lower (t : State) : Selects t (modRef k loweredMonitor t) := modRef_same k _ t
  have new (t : State) : Selects t (modRef k newPeriod t) := modRef_same k _ t
  unfold periodEnds
  dsimp only
  split
  · (repeat' split) <;> first
      | with_reducible exact w.trans ((demandRaise_selects _ _ _).trans (new _))
      | with_reducible exact w.trans (demandRaise_selects _ _ _)
      | with_reducible exact w.trans ((lower _).trans (new _))
      | with_reducible exact w.trans (lower _)
      | with_reducible exact w.trans (new _)
      | with_reducible exact w
  · exact .refl s

theorem qualifies_selects (k : Slot) (s : State) : Selects s (qualifies k s) := by
  have w : Selects s (modRef k (fun m => { m with qualify := m.qualify.taken }) s) := modRef_same k _ s
  unfold qualifies
  dsimp only
  (repeat' split)
  · rename_i e
    refine w.trans (Reports.selects ((reportToSelector_reports _).after fun g =>
      modRef_tracks k _ _ ?_ g))
    simp [monitorLaw_enabled g.2 (k := k) (by simp [e])]
  · exact w
  · exact .refl s

theorem waitEnds_selects (k : Slot) (s : State) : Selects s (waitEnds k s) := by
  have w : Selects s (modRef k (fun m => { m with wait := m.wait.taken }) s) := modRef_same k _ s
  unfold waitEnds
  dsimp only
  (repeat' split)
  · rename_i e _
    exact w.trans (Reports.selects (enterChecking_reports k _ fun g => monitorLaw_enabled g.2 (by simp [e])))
  · rename_i e _
    exact w.trans (Reports.selects (enterAbsent_reports k _ fun g => monitorLaw_enabled g.2 (by simp [e])))
  · exact w
  · exact .refl s

/-- The monitors written, what the selector sees of them aside. -/
theorem setRefs_same (s : State) (r : PerSlot Monitor)
    (h : ∀ k, SameMonitor (s.refs.get k) (r.get k)) : Selects s (s.setRefs r) :=
  .of_same rfl rfl rfl rfl h

theorem monitorsStep_selects (ev : StepEvent) (s : State) : Selects s (monitorsStep ev s) :=
  setRefs_same s _ fun k => by
    simp only [mapRefs_get, windowStep, monitorStep]
    (repeat' split) <;> exact ⟨rfl, rfl, rfl, rfl⟩

theorem agreementJudge_selects (s : State) : Selects s (agreementJudge s) := by
  unfold agreementJudge
  dsimp only
  (repeat' split)
  · exact (failSlot_selects _ _ _).trans (resetDisagreement_selects _)
  · exact .refl s
  · exact .foldl (α := Slot) (fun s k => failSlot_selects _ k s) _ s
  · exact .refl s

/-! ## Scheduler, steps and the servo's update -/

theorem takeEffect_selects (a : Action) (s : State) : Selects s (takeEffect a s).1 := by
  unfold takeEffect byPort byMode byOffset modeSelect modeAuto
  dsimp only
  (repeat' split) <;> first
    | with_reducible exact .refl s
    | with_reducible exact (writeMode_reports _ _ s).selects
    | with_reducible exact modeHold_selects s
    | with_reducible exact modeRelease_selects s
    | exact .of_blocks (by simp) (by simp) (by simp)

theorem takeAction_selects (l : Bool) (s : State) (a : Action) : Selects s (takeAction l s a) := by
  have r : Selects s (removeAction a.id s) := .of_blocks (by simp) (by simp) (by simp)
  have w : Selects s (takeEffect a (removeAction a.id s)).1 := r.trans (takeEffect_selects a _)
  unfold takeAction
  dsimp only
  split
  · exact w.trans (.of_blocks (by simp) (by simp) (by simp))
  · exact w.trans (.of_blocks (by simp) (by simp) (by simp))

theorem markDue_selects (n : Nat) (s : State) : Selects s (markDue n s) :=
  .of_blocks (by simp) (by simp) (by simp)

theorem boundaryActions_selects (s : State) : Selects s (boundaryActions s) :=
  .foldl (fun s a => takeAction_selects false s a) _ s

theorem presentStep_selects (ev : StepEvent) (s : State) : Selects s (presentStep ev s) := by
  have a : Selects s ((s.setChain (chainStep ev s.chain)).setFilter (filterStep ev s.filter)) :=
    .of_blocks rfl rfl rfl
  have b (t : State) : Selects t (portsStep ev (holdoverStep t)) :=
    .of_blocks (by simp) (by simp) (by simp)
  exact a.trans ((monitorsStep_selects ev _).trans ((b _).trans
    (.foldl (fun s a => takeAction_selects true s a) _ _)))

theorem performStep_selects (k : StepKind) (a : Int) (s : State) : Selects s (performStep k a s) := by
  unfold performStep
  dsimp only
  split
  · exact .refl s
  · refine .trans ?_ (presentStep_selects _ _)
    exact .of_same (by simp) (by simp) (by simp) (by simp) (.of_eq (by simp))

theorem timeSetting_selects (k : Slot) (d : Int) (s : State) : Selects s (timeSetting k d s) := by
  unfold timeSetting
  dsimp only
  split
  · exact .of_blocks (by simp) (by simp) (by simp)
  · exact .trans (.of_blocks (by simp) (by simp) (by simp)) (presentStep_selects _ _)

/-- A change of servo state between ACQUIRING and LOCKED (R76). -/
theorem servoEnter_selects (n : ServoState) (c : ServoCause) (s : State)
    (h : s.servo.state = .acquiring ∨ s.servo.state = .locked) (hn : n = .acquiring ∨ n = .locked) :
    Selects s (servoEnter n c s) := by
  have v := servoEnter_servo n c s
  have r := (servoEnter_monitors n c s).refs
  refine ⟨fun g => ⟨⟨?_, ?_, ?_⟩, monitorLaw_same r g.2⟩, fun g l => ?_⟩
  · rw [v.2]; simpa using g.1.followed
  · rw [v.1]
    have := g.1.free
    simp only [servoEnter_frame]
    rcases h with h | h <;> rcases hn with rfl | rfl <;> simpa [h] using this
  · rw [v.1]
    have := g.1.line
    simp only [servoEnter_frame]
    rcases h with h | h <;> rcases hn with rfl | rfl <;> simpa [h] using this
  · intro k e
    have := l k (by simpa using e)
    simp only [State.ref] at this ⊢
    rw [(r k).state, (r k).lockedOut, (r k).config, declaredGrade_same (r k)]
    simpa using this

/-- The servo written, its state and the slot it follows aside. -/
theorem setServo_selects (s : State) (v : Servo) (hs : v.state = s.servo.state := by rfl)
    (hf : v.followed = s.servo.followed := by rfl) : Selects s (s.setServo v) :=
  .of_same rfl rfl hs hf (.refl s)

theorem judgeAcquiring_selects (e : Int) (s : State) (h : s.servo.state = .acquiring) :
    Selects s (judgeAcquiring e s) := by
  unfold judgeAcquiring
  dsimp only
  (repeat' split)
  · exact (setServo_selects s _).trans (servoEnter_selects _ _ _ (.inl h) (.inr rfl))
  · exact setServo_selects s _
  · exact setServo_selects s _

theorem judgeLocked_selects (e : Int) (s : State) (h : s.servo.state = .locked) :
    Selects s (judgeLocked e s) := by
  unfold judgeLocked
  dsimp only
  (repeat' split)
  · exact (setServo_selects s _).trans (servoEnter_selects _ _ _ (.inr h) (.inl rfl))
  · exact setServo_selects s _
  · exact setServo_selects s _

theorem firstUpdate_selects (e : Int) (s : State) : Selects s (firstUpdate e s) := by
  unfold firstUpdate
  dsimp only
  (repeat' split)
  · rename_i h
    exact (setServo_selects s _).trans ((setServo_selects _ _).trans
      (servoEnter_selects _ _ _ (.inr h.1) (.inl rfl)))
  · exact setServo_selects s _
  · exact .refl s

/-- The first update leaves the servo in ACQUIRING or LOCKED (R78). -/
theorem firstUpdate_state (e : Int) (s : State)
    (h : s.servo.state = .acquiring ∨ s.servo.state = .locked) :
    (firstUpdate e s).servo.state = .acquiring ∨ (firstUpdate e s).servo.state = .locked := by
  unfold firstUpdate
  dsimp only
  (repeat' split)
  · exact .inl (servoEnter_servo _ _ _).1
  · exact h
  · exact h

theorem countPull_state (b : Bool) (s : State) : (countPull b s).servo.state = s.servo.state ∧
    (countPull b s).servo.followed = s.servo.followed := by
  unfold countPull clampedRuns unclampedRuns
  dsimp only
  simp only [State.refresh_frame, State.setServo_servo]
  (repeat' split) <;> exact ⟨rfl, rfl⟩

theorem countPull_selects (b : Bool) (s : State) : Selects s (countPull b s) :=
  .of_same (by simp) (by simp) (countPull_state b s).1 (countPull_state b s).2 (.of_eq (by simp))

theorem writeMove_selects (m : Move) (s : State) : Selects s (writeMove m s) :=
  .of_same rfl rfl rfl rfl (.refl s)

theorem slewUpdate_selects (e : Int) (l : Nat) (s : State)
    (h : s.servo.state = .acquiring ∨ s.servo.state = .locked) :
    Selects s (slewUpdate e l s).result := by
  have w (m : Move) (b : Bool) : Selects s (countPull b (writeMove m s)) :=
    (writeMove_selects m s).trans (countPull_selects b _)
  have st (m : Move) (b : Bool) : (countPull b (writeMove m s)).servo.state = s.servo.state := by
    rw [(countPull_state b _).1]; rfl
  unfold slewUpdate
  dsimp only
  split
  · rename_i ha
    exact (w _ _).trans (judgeAcquiring_selects e _ ((st _ _).trans ha))
  · rename_i ha
    exact (w _ _).trans (judgeLocked_selects e _ ((st _ _).trans (h.resolve_left ha)))

theorem phaseUpdate_selects (e : Int) (l : Nat) (s : State)
    (h : s.servo.state = .acquiring ∨ s.servo.state = .locked) :
    Selects s (phaseUpdate e l s).result := by
  unfold phaseUpdate
  dsimp only
  split
  · exact (firstUpdate_selects e s).trans (.trans (setServo_selects _ _) (performStep_selects _ _ _))
  · exact (firstUpdate_selects e s).trans (slewUpdate_selects _ _ _ (firstUpdate_state e s h))

theorem freqUpdate_selects (e : Int) (s : State) : Selects s (freqUpdate e s).result :=
  (writeMove_selects _ s).trans (countPull_selects _ _)

theorem recordHandoff_servo (k : Slot) (m : Measurement) (s : State) :
    (recordHandoff k m s).servo.state = s.servo.state ∧
    (recordHandoff k m s).servo.followed = s.servo.followed := by
  unfold recordHandoff
  dsimp only
  split <;> exact ⟨rfl, rfl⟩

theorem recordHandoff_selects (k : Slot) (m : Measurement) (s : State) :
    Selects s (recordHandoff k m s) :=
  .of_same (by simp) (by simp) (recordHandoff_servo k m s).1 (recordHandoff_servo k m s).2
    (.of_eq (by simp))

theorem takeReport_selects (r : UpdateReport) (s : State) : Selects s (takeReport r s) :=
  .of_blocks (by simp) (by simp) (by simp)

theorem reportUpdate_selects (k : Slot) (v : Int) (l : Nat) (b : State) (u : Update) :
    Selects u.result (reportUpdate k v l b u) :=
  (setServo_selects u.result _).trans (takeReport_selects _ _)

theorem handoffUpdate_selects (k : Slot) (m : Measurement) (l : Nat) (b : Bool) (s : State) :
    Selects s (handoffUpdate k m l b s) := by
  unfold handoffUpdate servoUpdate
  dsimp only
  refine (recordHandoff_selects k m s).trans ?_
  split
  · rename_i u hu
    refine .trans ?_ (reportUpdate_selects _ _ _ _ u)
    split at hu
    · cases hu; exact performStep_selects _ _ _
    · split at hu
      · rename_i h; cases hu; exact phaseUpdate_selects _ _ _ (.inl h)
      · rename_i h; cases hu; exact phaseUpdate_selects _ _ _ (.inr h)
      · cases hu; exact freqUpdate_selects _ _
      · cases hu
      · cases hu
  · exact .refl _

theorem handoff_selects (k : Slot) (m : Measurement) (b : Bool) (s : State) :
    Selects s (handoff k m b s) := by
  unfold handoff
  dsimp only
  (repeat' split) <;> first
    | with_reducible exact .refl s
    | with_reducible exact handoffUpdate_selects _ _ _ _ s
    | with_reducible exact timeSetting_selects _ _ s
    | with_reducible exact (timeSetting_selects _ _ s).trans (handoffUpdate_selects _ _ _ _ _)

/-! ## Measurements and the sample filter -/

theorem wanderJudge_selects (k : Slot) (v : Int) (s : State) : Selects s (wanderJudge k v s) := by
  unfold wanderJudge
  dsimp only
  (repeat' split)
  · exact (modRef_same k _ s).trans (demandRaise_selects _ _ _)
  · exact modRef_same k _ s
  · exact .refl s

/-- A recorded measurement changes what the selector sees only by the declared grade. -/
theorem recordedMonitor_tracks (k : Slot) (x : Measurement) (s : State) (g : Tracks s) :
    Tracks (modRef k (recordedMonitor k x) s) := by
  refine modRef_tracks k _ s ?_ g
  have := g.2 k
  unfold recordedMonitor
  split <;> exact this

theorem labelledMonitor_same (k : Slot) (b : Bool) (s : State) :
    Selects s (modRef k (labelledMonitor b) s) := by
  refine modRef_same k _ s ?_
  unfold labelledMonitor
  split <;> exact ⟨rfl, rfl, rfl, rfl⟩

/-- The monitors written so that every declared grade in force stands. -/
theorem selects_of_grades {s t : State} (selected : t.selector.selected = s.selector.selected)
    (config : t.selector.config = s.selector.config) (state : t.servo.state = s.servo.state)
    (followed : t.servo.followed = s.servo.followed)
    (refs : ∀ k, (t.ref k).state = (s.ref k).state ∧ (t.ref k).lockedOut = (s.ref k).lockedOut ∧
      (t.ref k).config = (s.ref k).config ∧
      declaredGrade k (t.ref k) = declaredGrade k (s.ref k)) : Selects s t where
  tracks h := by
    refine ⟨⟨?_, ?_, ?_⟩, fun k => ?_⟩
    · rw [selected, followed]; exact h.1.followed
    · rw [selected, state]; exact h.1.free
    · rw [selected, state]; exact h.1.line
    · rw [(refs k).1, (refs k).2.2.1]; exact h.2 k
  selection _ h k e := by
    have := h k (selected ▸ e)
    rw [(refs k).1, (refs k).2.1, (refs k).2.2.1, (refs k).2.2.2, config]
    exact this

theorem recordMeasurement_selects (k : Slot) (x : Measurement) (s : State) :
    Selects s (recordMeasurement k x s) := by
  -- the state once the measurement is recorded
  have recorded : ∀ f : State → State, (∀ t, Selects t (f t)) →
      (∀ t j, SameMonitor (t.ref j) ((f t).ref j)) →
      (∀ t, (f t).selector = t.selector ∧ (f t).servo = t.servo) →
      Selects s
        (if declaredGrade k ((f (modRef k (recordedMonitor k x) s)).ref k) = declaredGrade k (s.ref k)
          then f (modRef k (recordedMonitor k x) s)
          else recomputeGrade (reportToSelector (f (modRef k (recordedMonitor k x) s)))) := by
    intro f hf hr he
    split
    · rename_i hg
      refine selects_of_grades (by simp [he]) (by simp [he]) (by simp [he]) (by simp [he])
        fun j => ?_
      have hj := hr (modRef k (recordedMonitor k x) s) j
      by_cases hk : j = k
      · subst hk
        have m : (modRef j (recordedMonitor j x) s).ref j = recordedMonitor j x (s.ref j) := by
          simp [modRef]
        rw [m] at hj
        refine ⟨?_, ?_, ?_, hg⟩
        · rw [hj.state]; unfold recordedMonitor; split <;> rfl
        · rw [hj.lockedOut]; unfold recordedMonitor; split <;> rfl
        · rw [hj.config]; unfold recordedMonitor; split <;> rfl
      · have m : (modRef k (recordedMonitor k x) s).ref j = s.ref j :=
          State.setRef_ref_other s _ hk
        rw [m] at hj
        exact ⟨hj.state, hj.lockedOut, hj.config, declaredGrade_same hj j⟩
    · refine .trans (Reports.selects ((reportToSelector_reports _).after fun g =>
        (hf _).tracks (recordedMonitor_tracks k x s g))) ?_
      exact .of_blocks (by simp) (by simp) (by simp)
  unfold recordMeasurement
  dsimp only
  by_cases hs : isSat k
  · simp only [hs, if_true]
    refine recorded (fun t => (modRef k (labelledMonitor x.ds.isSome) t).refresh .labelMissing
      (slotNumber k)) (fun t => ?_) (fun t j => ?_) fun t => by simp
    · exact (labelledMonitor_same k x.ds.isSome t).trans (.of_blocks (by simp) (by simp) (by simp))
    · simp only [State.ref, State.refresh_frame]
      show SameMonitor (t.ref j) ((modRef k (labelledMonitor x.ds.isSome) t).ref j)
      unfold modRef
      rw [State.setRef_ref_eq]
      split
      · subst_vars; unfold labelledMonitor; split <;> exact ⟨rfl, rfl, rfl, rfl⟩
      · exact .refl _
  · simp only [hs, Bool.false_eq_true, if_false]
    exact recorded (fun t => t) (fun t => .refl t) (fun t j => .refl _) fun t => ⟨rfl, rfl⟩

theorem timeCheck_selects (k : Slot) (x : Measurement) (s : State) : Selects s (timeCheck k x s).1 := by
  have run (r : MismatchRun) (t : State) : Selects t (modRef k (fun m => { m with mismatch := r }) t) :=
    modRef_same k _ t
  unfold timeCheck
  dsimp only
  (repeat' split) <;> first
    | with_reducible exact .refl s
    | with_reducible exact run _ s
    | with_reducible exact (run _ s).trans (run _ _)
    | with_reducible exact (run _ s).trans (failSlot_selects _ _ _)

theorem agreementRun_selects (k : Slot) (v : Int) (s : State) : Selects s (agreementRun k v s) := by
  unfold agreementRun
  split
  · exact modRef_same k _ s
  · exact .refl s

theorem checkMeasurement_selects (k : Slot) (x : Measurement) (s : State) :
    Selects s (checkMeasurement k x s) := by
  have w := (timeCheck_selects k x s).trans (agreementRun_selects k x.value _)
  unfold checkMeasurement
  dsimp only
  (repeat' split)
  · exact w.trans (handoff_selects _ _ _ _)
  · exact w
  · exact timeCheck_selects k x s

theorem takeMeasurement_selects (k : Slot) (x : Measurement) (s : State) :
    Selects s (takeMeasurement k x s) := by
  have w := wanderJudge_selects k x.value s
  have r := w.trans (recordMeasurement_selects k x _)
  unfold takeMeasurement
  dsimp only
  (repeat' split) <;> first
    | with_reducible exact .refl s
    | with_reducible exact recordMeasurement_selects k x s
    | with_reducible exact r.trans (checkMeasurement_selects k x _)
    | with_reducible exact r

theorem judgeSample_selects (x : Sample) (s : State) : Selects s (judgeSample x s).1 := by
  have w (f : Filter) : Selects s (s.setFilter f) := .of_blocks rfl rfl rfl
  unfold judgeSample
  dsimp only
  split
  · exact (w _).trans (signalAppears_selects _ _)
  · exact w _

theorem filterBoundary_selects (n : Nat) (s : State) : Selects s (filterBoundary n s) := by
  have w (t : State) (f : Filter) : Selects t (t.setFilter f) := .of_blocks rfl rfl rfl
  unfold filterBoundary
  dsimp only
  (repeat' split)
  · exact (w s _).trans ((w _ _).trans ((goodEpoch_selects _ _).trans
      (takeMeasurement_selects _ _ _)))
  · exact (w s _).trans (missEpoch_selects _ _ _)
  · exact .refl s

/-! ## Chain -/

theorem modChain_selects (f : ChainUnit → ChainUnit) (s : State) : Selects s (modChain f s) :=
  .of_blocks rfl rfl rfl

theorem enterAction_selects (k : Option ActionKind) (d : Nat) (a : Option Nat) (o : ActionSource)
    (s : State) : Selects s (enterAction k d a o s).1 := .of_blocks (by simp) (by simp) (by simp)

theorem grantToken_selects (s : State) : Selects s (grantToken s).1 := setServo_selects s _

theorem post_selects (d : NoticeDetail) (n : Nat) (s : State) : Selects s (s.post d n) :=
  .of_blocks (by simp) (by simp) (by simp)

theorem chainConditions_selects (s : State) : Selects s (chainConditions s) :=
  .of_blocks (by simp) (by simp) (by simp)

theorem actOnCommand_selects (c : ChainCommand) (s : State) : Selects s (actOnCommand c s).1 := by
  unfold actOnCommand
  dsimp only
  (repeat' split) <;> first
    | with_reducible exact .refl s
    | with_reducible exact modeHold_selects s
    | with_reducible exact modeRelease_selects s
    | with_reducible exact enterAction_selects _ _ _ _ s
    | with_reducible exact grantToken_selects s

theorem takeFrameCommand_selects (f : TimeFrame) (s : State) : Selects s (takeFrameCommand f s) := by
  unfold takeFrameCommand takeCommand
  dsimp only
  (repeat' split) <;> first
    | with_reducible exact .refl s
    | with_reducible exact (modChain_selects _ s).trans (post_selects _ _ _)
    | with_reducible exact
      (modChain_selects _ s).trans ((actOnCommand_selects _ _).trans (post_selects _ _ _))

theorem chainMonitorTakes_selects (p : ChainPort) (f : TimeFrame) (c : Option Int) (s : State) :
    Selects s (chainMonitorTakes p f c s) := by
  unfold chainMonitorTakes
  dsimp only
  split
  · exact (signalAppears_selects _ s).trans (takeMeasurement_selects _ _ _)
  · exact signalAppears_selects _ s

theorem upstreamTakes_selects (p : ChainPort) (f : TimeFrame) (c : Option Int) (b : Bool) (s : State) :
    Selects s (upstreamTakes p f c b s) := by
  have m := modChain_selects (fun u => { u with lastUpstream := some (upstreamFrame f) }) s
  have w (t : State) : Selects t (modChain (fillRelay f) (takeFrameWord f t)) :=
    .of_blocks (by simp) (by simp) (by simp)
  unfold upstreamTakes
  dsimp only
  split
  · exact m.trans ((takeFrameCommand_selects f _).trans
      ((chainMonitorTakes_selects p f c _).trans (w _)))
  · exact m.trans ((chainMonitorTakes_selects p f c _).trans
      ((takeFrameCommand_selects f _).trans (w _)))

theorem memberDiscards_selects (p : ChainPort) (f : TimeFrame) (s : State) :
    Selects s (memberDiscards p f s) := .of_blocks (by simp) (by simp) (by simp)

theorem leaderTakes_selects (p : ChainPort) (f : TimeFrame) (s : State) :
    Selects s (leaderTakes p f s) := .of_blocks (by simp) (by simp) (by simp)

theorem modRecord_selects (p : ChainPort) (f : ChainRecord → ChainRecord) (s : State) :
    Selects s (modRecord p f s) := modChain_selects _ s

theorem memberTakes_selects (p : ChainPort) (f : TimeFrame) (c : Option Int) (b : Bool) (s : State) :
    Selects s (memberTakes p f c b s) := by
  have w := (modRecord_selects p (validRecord f) s).trans (chainConditions_selects _)
  unfold memberTakes
  dsimp only
  (repeat' split)
  · exact w.trans (upstreamTakes_selects _ _ _ _ _)
  · exact w
  · exact memberDiscards_selects _ _ s

theorem receiveFrame_selects (p : ChainPort) (l : List Byte) (b : Bool) (s : State) :
    Selects s (receiveFrame p l b s) := by
  unfold receiveFrame
  dsimp only
  (repeat' split)
  · exact .refl s
  · exact (modRecord_selects _ _ s).trans (modRecord_selects _ _ _)
  · exact (modRecord_selects _ _ s).trans (leaderTakes_selects _ _ _)
  · exact (modRecord_selects _ _ s).trans (memberTakes_selects _ _ _ _ _)

theorem changeUpstream_refs (p : Option ChainPort) (r : PathReason) (s : State) :
    SameRefs s (changeUpstream p r s) := by
  unfold changeUpstream
  dsimp only
  split
  · intro j
    show SameMonitor (s.refs.get j) ((modRef .chain _ _).ref j)
    unfold modRef
    rw [State.setRef_ref_eq]
    split
    · subst_vars; simp only [State.ref, State.post_frame, modChain_frame]; exact ⟨rfl, rfl, rfl, rfl⟩
    · simp only [State.ref, State.post_frame, modChain_frame]; exact .refl _
  · exact .of_eq (by simp)

theorem changeUpstream_selects (p : Option ChainPort) (r : PathReason) (s : State) :
    Selects s (changeUpstream p r s) :=
  .of_same (by simp) (by simp) (by simp) (by simp) (changeUpstream_refs p r s)

theorem detach_selects (s : State) : Selects s (detach s) :=
  (modChain_selects _ s).trans (changeUpstream_selects _ _ _)

theorem judgeUnattached_selects (s : State) : Selects s (judgeUnattached s) := by
  have w (t : State) (f : ChainUnit → ChainUnit) (p : Option ChainPort) (r : PathReason) :
      Selects t (changeUpstream p r (modChain f t)) :=
    (modChain_selects _ _).trans (changeUpstream_selects _ _ _)
  unfold judgeUnattached
  dsimp only
  split
  · exact (modChain_selects _ s).trans (w _ _ _ _)
  · exact modChain_selects _ s

theorem judgeUpstream_selects (s : State) : Selects s (judgeUpstream s) := by
  unfold judgeUpstream judgeLoss judgeGrade
  dsimp only
  (repeat' split) <;> first
    | with_reducible exact .refl s
    | with_reducible exact detach_selects s
    | with_reducible exact judgeUnattached_selects s
    | with_reducible exact modChain_selects _ s
    | with_reducible exact changeUpstream_selects _ _ s

theorem swapExpires_selects (s : State) : Selects s (swapExpires s) := by
  have e (t : State) : Selects t (sendWaiting t) := .of_blocks (by simp) (by simp) (by simp)
  unfold swapExpires swapActs
  (repeat' split) <;> first
    | with_reducible exact .refl s
    | with_reducible exact (detach_selects s).trans (e _)
    | with_reducible exact (changeUpstream_selects _ _ s).trans (e _)
    | with_reducible exact (modChain_selects _ s).trans (e _)

theorem chainEpoch_selects (b : Bool) (s : State) : Selects s (chainEpoch b s) := by
  unfold chainEpoch
  (repeat' split)
  · exact goodEpoch_selects _ s
  · exact missEpoch_selects _ _ s
  · exact .refl s

theorem chainBoundary_selects (n : Nat) (s : State) : Selects s (chainBoundary n s) := by
  have c : Selects s (chainConditions (modChain chainCounts s)) :=
    .of_blocks (by simp) (by simp) (by simp)
  have e (t : State) : Selects t (sendOrWait n (modChain tickChainTimers t)) :=
    .of_blocks (by simp) (by simp) (by simp)
  unfold chainBoundary
  dsimp only
  (repeat' split)
  · exact chainEpoch_selects _ s
  · exact c.trans ((chainEpoch_selects _ _).trans ((judgeUpstream_selects _).trans (e _)))
  · exact c.trans ((chainEpoch_selects _ _).trans (e _))

theorem configureChain_selects (c : ChainConfig) (s : State) : Selects s (configureChain c s) := by
  unfold configureChain
  dsimp only
  (repeat' split)
  · exact .of_blocks (by simp) (by simp) (by simp)
  · exact (modChain_selects _ s).trans (modRef_same _ _ _)
  · exact modChain_selects _ s

/-! ## The count, expiries and boundaries -/

theorem countPicos_selects (n : Nat) (s : State) : Selects s (countPicos n s) := by
  refine .of_same (by simp) (by simp) (by simp) (by simp) fun k => ?_
  cases k <;> exact ⟨rfl, rfl, rfl, rfl⟩

theorem runTo_selects (n : Nat) (s : State) : Selects s (runTo n s) := by
  unfold runTo
  split
  · exact countPicos_selects _ s
  · exact .refl s

theorem slotExpiries_selects (s : State) (k : Slot) : Selects s (slotExpiries s k) :=
  (periodEnds_selects k s).trans ((qualifies_selects k _).trans (waitEnds_selects k _))

theorem closeWindow_selects (k : SatSlot) (s : State) : Selects s (closeWindow k s) := by
  unfold closeWindow
  dsimp only
  (repeat' split)
  · exact (modRef_same _ _ s).trans (goodEpoch_selects _ _)
  · exact (modRef_same _ _ s).trans (missEpoch_selects _ _ _)
  · exact modRef_same _ _ s
  · exact .refl s

theorem closeWindows_selects (s : State) : Selects s (closeWindows s) :=
  (closeWindow_selects _ s).trans (closeWindow_selects _ _)

theorem alarmExpiries_selects (s : State) : Selects s (alarmExpiries s) :=
  .of_blocks (by simp) (by simp) (by simp)

theorem expiries_selects (s : State) :
    Selects s (alarmExpiries (tooLongExpires (conflictExpires (swapExpires
      (allPorts.foldl (fun s p => rearmExpires p s) (dwellExpires (closeWindows
        (allSlots.foldl slotExpiries s)))))))) := by
  have q (t : State) : Selects t (alarmExpiries (tooLongExpires (conflictExpires t))) :=
    .of_blocks (by simp) (by simp) (by simp)
  have p (t : State) : Selects t (allPorts.foldl (fun s p => rearmExpires p s) t) :=
    .of_blocks (by simp) (by simp) (by simp)
  exact (Selects.foldl slotExpiries_selects _ s).trans ((closeWindows_selects _).trans
    ((dwellExpires_selects _).trans ((p _).trans ((swapExpires_selects _).trans (q _)))))

theorem passHalf_selects (n : Nat) (s : State) : Selects s (passHalf n s) := by
  unfold passHalf
  split
  · exact (runTo_selects _ s).trans (closeWindows_selects _)
  · exact .refl s

theorem runPast_selects (n : Nat) (s : State) : Selects s (runPast n s) :=
  (passHalf_selects n s).trans (runTo_selects _ _)

theorem setTime_selects (s : State) (x : TimeBase) : Selects s (s.setTime x) := .of_blocks rfl rfl rfl

theorem runToEnd_selects (s : State) : Selects s (runToEnd s) :=
  (runPast_selects _ s).trans (setTime_selects _ _)

theorem countMonitor_same (n : Nat) (k : Slot) (m : Monitor) : SameMonitor m (countMonitor n k m) := by
  unfold countMonitor tickMonitor lineBoundary
  dsimp only
  (repeat' split) <;> exact ⟨rfl, rfl, rfl, rfl⟩

theorem countTimers_selects (n : Nat) (s : State) : Selects s (countTimers n s) := by
  refine .of_same rfl rfl rfl rfl fun k => ?_
  simp only [countTimers, State.setHoldover_refs, State.setPorts_refs, State.setSelector_refs,
    State.setRefs_refs, State.setAlarms_refs, mapRefs_get]
  exact countMonitor_same n k _

theorem applyPending_selects (o : Nat) (p : PendingSet) (s : State) :
    Selects s (applyPending o p s) := by
  unfold applyPending
  dsimp only
  split
  · exact .of_blocks (by simp) (by simp) (by simp)
  · exact .trans (.of_blocks (by simp) (by simp) (by simp)) (presentStep_selects _ _)

theorem lineEpoch_selects (k : LineSlot) (s : State) : Selects s (lineEpoch k s) := by
  unfold lineEpoch
  dsimp only
  (repeat' split)
  · exact .refl s
  · exact modRef_same _ _ s
  · exact takeMeasurement_selects _ _ s
  · exact .refl s

theorem servoBoundary_selects (n : Nat) (s : State) : Selects s (servoBoundary n s) := by
  unfold servoBoundary
  split
  · exact setServo_selects s _
  · exact .refl s

/-! ## What arrives at the count's instant -/

theorem satPulseTaken_selects (k : SatSlot) (s : State) : Selects s (satPulseTaken k s) := by
  have p (n : Nat) (t : State) : Selects t (modRef (satSlot k) (pulsedMonitor n) t) := by
    refine modRef_same _ _ t ?_
    unfold pulsedMonitor
    split <;> exact ⟨rfl, rfl, rfl, rfl⟩
  have w (n : Nat) := ((closeWindow_selects k s).trans (signalAppears_selects (satSlot k) _)).trans
    (p n _)
  unfold satPulseTaken
  dsimp only
  split
  · exact (w _).trans (takeMeasurement_selects _ _ _)
  · exact w _

theorem lineEdgeTaken_selects (k : LineSlot) (n : Nat) (s : State) :
    Selects s (lineEdgeTaken k n s) := by
  have w := signalAppears_selects (lineSlot k) s
  unfold lineEdgeTaken
  dsimp only
  split
  · exact w.trans ((goodEpoch_selects _ _).trans (modRef_same _ _ _))
  · exact w.trans (modRef_same _ _ _)

theorem lineLossTaken_selects (k : LineSlot) (s : State) : Selects s (lineLossTaken k s) := by
  unfold lineLossTaken
  dsimp only
  split
  · exact (modRef_same _ _ s).trans (declareLoss_selects _ _)
  · exact .refl s

theorem satPulseArrives_selects (k : SatSlot) (s : State) : Selects s (satPulseArrives k s) := by
  unfold satPulseArrives
  split
  · exact .refl s
  · exact satPulseTaken_selects k s

theorem lineEdgeArrives_selects (k : LineSlot) (n : Nat) (s : State) :
    Selects s (lineEdgeArrives k n s) := by
  unfold lineEdgeArrives
  split
  · exact .refl s
  · exact lineEdgeTaken_selects k n s

/-! ## The work of a boundary -/

theorem blockActs_selects (n : Nat) (s : State) (b : Block) : Selects s (blockActs n s b) := by
  cases b with
  | scheduler => exact boundaryActions_selects s
  | filter => exact filterBoundary_selects n s
  | line k => exact lineEpoch_selects k s
  | agreement => exact agreementJudge_selects s
  | servo => exact servoBoundary_selects n s
  | ports => exact .of_blocks (by simp [blockActs]) (by simp [blockActs]) (by simp [blockActs])
  | holdover => exact .of_blocks (by simp [blockActs]) (by simp [blockActs]) (by simp [blockActs])
  | chain => exact chainBoundary_selects n s
  | slotTimers k => exact slotExpiries_selects s k
  | dwell => exact dwellExpires_selects s
  | rearm p => exact .of_blocks (by simp [blockActs]) (by simp [blockActs]) (by simp [blockActs])
  | alarms => exact alarmExpiries_selects s
  | pulse k => exact satPulseArrives_selects k s
  | edges k m => exact lineEdgeArrives_selects k m s
  | silence k => exact lineLossTaken_selects k s
  | marker p => exact .of_blocks (by simp [blockActs]) (by simp [blockActs]) (by simp [blockActs])
  | frame p l c => exact receiveFrame_selects p l c s
  | instant p => exact .of_blocks (by simp [blockActs]) (by simp [blockActs]) (by simp [blockActs])
  | clock p k r => exact .of_blocks (by simp [blockActs]) (by simp [blockActs]) (by simp [blockActs])

theorem expiriesFirst_selects (n : Nat) (l : List Block) (s : State) :
    Selects s (expiriesFirst n l s) :=
  .foldl (blockActs_selects n) _ s

theorem blocksAct_selects (n : Nat) (l : List Block) (s : State) : Selects s (blocksAct n l s) :=
  .foldl (blockActs_selects n) _ s

theorem markBoundary_selects (l : List Block) (s : State) : Selects s (markBoundary l s) := by
  have w : Selects s (expiriesFirst (nextSecond s.time) l (markDue (nextSecond s.time)
      (countTimers s.time.counted (s.setTime (markTime s.time))))) :=
    (setTime_selects s _).trans ((countTimers_selects _ _).trans
      ((markDue_selects _ _).trans (expiriesFirst_selects _ l _)))
  unfold markBoundary
  dsimp only
  split
  · exact w.trans ((applyPending_selects _ _ _).trans (blocksAct_selects _ _ _))
  · exact w.trans (blocksAct_selects _ _ _)

/-! ## Requests -/

theorem lockSlot_selects (k : Slot) (b : Bool) (s : State) : Selects s (lockSlot k b s) := by
  unfold lockSlot
  split
  · exact .refl s
  · exact Reports.selects ((reportToSelector_reports _).after fun g =>
      modRef_tracks k _ s (g.2 k) g)

/-- SET_REFERENCE's record makes the selection lawful again, or finds the slot DISABLED (R40). -/
theorem configureSlot_selects (k : Slot) (c : ReferenceConfig) (s : State) :
    Selects s (configureSlot k c s) := by
  unfold configureSlot
  split
  · rename_i h _
    -- the slot is DISABLED, so it is not selected
    refine ⟨fun g => modRef_tracks k _ s (by simp [disabledMonitor, monitorAtReset]) g,
      fun g l j e => ?_⟩
    have hj := l j e
    have hd := (g.2 k).mpr h
    have : j ≠ k := by rintro rfl; rw [hd] at hj; cases hj.1
    unfold modRef
    rw [State.setRef_ref_other s _ this]
    exact hj
  · rename_i _ hc
    exact Reports.selects ((reportToSelector_reports _).after fun g =>
      (monitorConditions_selects k _).tracks ((filterFollows_selects k _).tracks
        (modRef_tracks k _ s (by simp [monitorAtReset, hc]) g)))
  · exact (enterDisabled_reports k c s).selects
  · rename_i h hc
    split
    · exact .refl s
    · have w : Tracks s → Tracks (modRef k (restartCleared c) s) := fun g => by
        refine modRef_tracks k _ s ?_ g
        have : (s.ref k).state ≠ .disabled := fun e => by simp [(g.2 k).mp e] at h
        simp [restartCleared, hc, this]
      have he : ((modRef k (restartCleared c) s).ref k).config.enabled = true := by
        simp [modRef, restartCleared, hc]
      unfold restartSlot
      dsimp only
      split
      · have r := enterChecking_reports k (modRef k (restartCleared c) s) fun _ => he
        exact ⟨r.tracks ∘ w, fun _ _ => r.selection⟩
      · have r := enterAbsent_reports k (modRef k (restartCleared c) s) fun _ => he
        exact ⟨r.tracks ∘ w, fun _ _ => r.selection⟩

theorem configureSelection_selects (c : SelectionConfig) (s : State) :
    Selects s (configureSelection c s) :=
  Reports.selects ((evaluate_reports _ _).after fun g => ⟨⟨g.1.followed, g.1.free, g.1.line⟩, g.2⟩)

theorem configureServo_selects (c : ServoConfig) (s : State) : Selects s (configureServo c s) := by
  unfold configureServo clampLoop
  dsimp only
  split
  · exact .of_same (by simp) (by simp) (by simp [clearPullRuns_servo]) (by simp [clearPullRuns_servo])
      (.of_eq (by simp))
  · exact setServo_selects s _

/-- An effect that keeps the laws of selection. -/
abbrev SelectsAll (f : Request.Effect) : Prop := ∀ s, Selects s (f s).1

theorem hostStep_selects (n : Nat) (o : Option Nat) : SelectsAll (hostStep n o) := by
  intro s
  have w (t : State) : Selects t (writeOffset o t) := .of_blocks rfl rfl rfl
  unfold hostStep
  dsimp only
  split
  · exact .refl s
  · exact (performStep_selects _ _ s).trans (w _)

theorem requestSetTime_selects (n : Nat) (o : Option Nat) : SelectsAll (requestSetTime n o) := by
  intro s
  unfold requestSetTime refuse
  (repeat' split) <;> first
    | with_reducible exact hostStep_selects n o s
    | (dsimp only; with_reducible exact .refl s)
    | (dsimp only; exact .of_blocks rfl rfl rfl)

theorem requestSetReference_selects (n : Nat) (c : ReferenceConfig) :
    SelectsAll (requestSetReference n c) := by
  intro s
  unfold requestSetReference
  (repeat' split)
  · exact configureSlot_selects _ _ s
  · exact .refl s
  · exact .refl s

theorem requestLockout_selects (n : Nat) (b : Bool) : SelectsAll (requestLockout n b) := by
  intro s
  unfold requestLockout
  split
  · exact lockSlot_selects _ _ s
  · exact .refl s

theorem requestClearCounts_selects (k : Option Nat) : SelectsAll (requestClearCounts k) := by
  intro s
  unfold requestClearCounts
  (repeat' split)
  · exact setRefs_same s _ fun j => by simp only [mapRefs_get]; exact ⟨rfl, rfl, rfl, rfl⟩
  · dsimp only; exact modRef_same _ _ s
  · exact .refl s

theorem requestLabel_selects (n k : Nat) : SelectsAll (requestLabel n k) := by
  intro s
  unfold requestLabel
  (repeat' split)
  · exact .refl s
  · exact .refl s
  · dsimp only; exact modRef_same _ _ s
  · exact .refl s

theorem requestSample_selects (q : Nat) (o : Int) (d : Nat) (g : Grade) :
    SelectsAll (requestSample q o d g) := by
  intro s
  unfold requestSample
  split
  · exact judgeSample_selects _ s
  · exact .refl s

theorem requestSetSelection_selects (c : SelectionConfig) : SelectsAll (requestSetSelection c) := by
  intro s
  unfold requestSetSelection
  split
  · exact configureSelection_selects c s
  · exact .refl s

theorem requestSetServo_selects (c : ServoConfig) : SelectsAll (requestSetServo c) := by
  intro s
  unfold requestSetServo
  split
  · exact configureServo_selects c s
  · exact .refl s

theorem requestSetChain_selects (c : ChainConfig) : SelectsAll (requestSetChain c) := by
  intro s
  unfold requestSetChain
  dsimp only
  split
  · exact configureChain_selects c s
  · exact .refl s

theorem requestAllowStep_selects : SelectsAll requestAllowStep := fun s => grantToken_selects s

/-- A request that leaves the selector, the servo and the monitors. -/
theorem selectsAll_of_blocks {f : Request.Effect}
    (h : ∀ s, (f s).1.selector = s.selector ∧ (f s).1.servo = s.servo ∧ (f s).1.refs = s.refs) :
    SelectsAll f := fun s => .of_blocks (h s).1 (h s).2.1 (h s).2.2

/-- Every request of the catalogue keeps the laws of selection, whatever its body holds. -/
theorem requestEffect_selects {kind : Nat} {b : List Byte} {f : Request.Effect}
    (h : requestEffect kind b = some f) : SelectsAll f := by
  unfold requestEffect reads readsNone reads at h
  split at h <;> simp only [Option.map_eq_some_iff, reduceCtorEq] at h <;>
    obtain ⟨x, -, rfl⟩ := h <;> first
    | with_reducible exact requestSetTime_selects _ _
    | with_reducible exact requestSetReference_selects _ _
    | with_reducible exact requestLockout_selects _ _
    | with_reducible exact requestClearCounts_selects _
    | with_reducible exact requestLabel_selects _ _
    | with_reducible exact requestSample_selects _ _ _ _
    | with_reducible exact requestSetSelection_selects _
    | with_reducible exact requestSetServo_selects _
    | with_reducible exact requestSetChain_selects _
    | with_reducible exact requestAllowStep_selects
    | exact selectsAll_of_blocks fun s => by simp

/-! ## The profile, the restart and the link -/

/-- Right after a start or a restart no slot is selected, the servo is in FREERUN, and every monitor
is DISABLED or ABSENT by its record (R44, R74, R95). -/
theorem fresh_tracks {s : State} (hs : s.selector.selected = none) (hv : s.servo.state = .freerun)
    (hf : s.servo.followed = none)
    (hm : ∀ k, (s.ref k).state = .disabled ↔ (s.ref k).config.enabled = false) :
    Tracks s ∧ SelectionLaw s :=
  ⟨⟨⟨hf.trans hs.symm, by simp [hs, hv], by simp [hs, hv]⟩, hm⟩, fun k e => by rw [hs] at e; cases e⟩

theorem monitorAtReset_law (k : Slot) (c : ReferenceConfig) (b : Bool) :
    (monitorAtReset k c b).state = .disabled ↔ (monitorAtReset k c b).config.enabled = false := by
  cases h : c.enabled <;> simp [monitorAtReset, h]

theorem enterRunning_selection (p : Option Profile) (a : BitVec 3) (s : State) :
    Tracks (enterRunning p a s) ∧ SelectionLaw (enterRunning p a s) := by
  refine fresh_tracks ?_ ?_ ?_ fun k => ?_
  · simp [enterRunning, startedBlocks, selectorAtReset]
  · simp [enterRunning, startedBlocks, servoAtReset]
  · simp [enterRunning, startedBlocks, servoAtReset]
  · simp only [State.ref, enterRunning, declareAll_frame, State.setLink_refs, startedBlocks,
      PerSlot.get_of]
    exact monitorAtReset_law _ _ _

theorem pinReset_selection (m : LinkMode) (s : State) :
    Tracks (pinReset m s) ∧ SelectionLaw (pinReset m s) :=
  fresh_tracks rfl rfl rfl fun k => by
    simp only [State.ref, pinReset, State.reset, PerSlot.get_of]
    exact monitorAtReset_law _ _ _

theorem softRestart_selection (s : State) : Tracks (softRestart s) ∧ SelectionLaw (softRestart s) := by
  refine fresh_tracks ?_ ?_ ?_ fun k => ?_
  · simp [softRestart, restartedBlocks, selectorAtReset]
  · simp [softRestart, restartedBlocks, servoAtReset]
  · simp [softRestart, restartedBlocks, servoAtReset]
  · simp only [State.ref, softRestart, declareAll_frame, restartedGrade_frame, restartedBlocks,
      PerSlot.get_of]
    exact monitorAtReset_law _ _ _

theorem addReply_selects (k t : Byte) (x : State × Answer) : Selects x.1 (addReply k t x) :=
  .of_blocks rfl rfl rfl

theorem takeRequest_selects (r : Request) (s : State) : Selects s (takeRequest r s) := by
  refine .trans ?_ (addReply_selects _ _ _)
  unfold judgeRequest
  (repeat' split)
  · exact .refl s
  · exact .refl s
  · rename_i f h; exact requestEffect_selects h s
  · exact .refl s

theorem setLink_selects (s : State) (k : Link) : Selects s (s.setLink k) := .of_blocks rfl rfl rfl

theorem serveNext_selects (s : State) : Selects s (serveNext s) := by
  unfold serveNext
  split
  · exact (setLink_selects s _).trans (takeRequest_selects _ _)
  · exact (setLink_selects s _).trans (addReply_selects _ _ (refuse .overrun _))
  · exact .refl s
  · exact .refl s

theorem softRestart_selects (s : State) : Selects s (softRestart s) :=
  ⟨fun _ => (softRestart_selection s).1, fun _ _ => (softRestart_selection s).2⟩

theorem restartActs_selects (s : State) : Selects s (restartActs s) := by
  unfold restartActs
  split
  · exact (softRestart_selects s).trans (serveNext_selects _)
  · exact .refl s

theorem takeTyped_selects (k t : Byte) {f : Request.Effect} (h : SelectsAll f) (s : State) :
    Selects s (takeTyped k t f s) := by
  refine (restartActs_selects s).trans (.trans ?_ (addReply_selects _ _ _))
  unfold handOver
  split
  · exact .refl _
  · exact h _

theorem replyFinished_selects (s : State) : Selects s (replyFinished s) := by
  unfold replyFinished
  dsimp only
  (repeat' split)
  · exact .refl s
  · exact setLink_selects s _
  · exact (setLink_selects s _).trans (serveNext_selects _)

theorem acceptRequest_selects (r : Request) (s : State) : Selects s (acceptRequest r s) := by
  have q (t : State) : Selects t (queueRequest r t) := by
    unfold queueRequest
    dsimp only
    (repeat' split) <;> exact setLink_selects t _
  unfold acceptRequest
  dsimp only
  split
  · exact (restartActs_selects s).trans (takeRequest_selects _ _)
  · exact (restartActs_selects s).trans (q _)

theorem completeFrame_selects (l : List Byte) (n : Nat) (s : State) :
    Selects s (completeFrame l n s) := by
  unfold completeFrame
  split
  · exact acceptRequest_selects _ s
  · exact setLink_selects s _

theorem receiveOctets_selects (n : Nat) (l : List Byte) (s : State) :
    Selects s (receiveOctets n l s) := by
  induction n generalizing l s with
  | zero => exact .refl s
  | succ n ih =>
    cases l with
    | nil => exact .refl s
    | cons b l =>
      unfold receiveOctets
      dsimp only
      (repeat' split)
      · exact ih _ _
      · exact .refl s
      · exact (setLink_selects s _).trans (ih _ _)
      · exact .refl s
      · exact (completeFrame_selects _ _ s).trans (ih _ _)

theorem settle_selects (s : State) : Selects s (settle s) :=
  (restartActs_selects s).trans (expiries_selects _)

theorem advanceTo_selects (n : Nat) (s : State) : Selects s (advanceTo n s) := by
  unfold advanceTo
  split
  · exact (settle_selects s).trans (runPast_selects _ _)
  · exact .refl s

end Sys2Proof.Machine
end

