-- ==== Sys2Proof/Laws/Table.lean ====
section
/-!
SUPPORT. The time base stays in range and the action table stays ahead of it: entering, taking and
cancelling actions, steps and marked boundaries.  One lemma an operation.
-/

-- One proof at a time: elaborated side by side, so many small proofs reserve too many thread stacks.
set_option Elab.async false

namespace Sys2Proof.Machine

open Sys2Proof.Safety

/-- The table's law; with `w`, the actions that a marked boundary has made due may still wait to be taken. -/
structure TableDue (w : Bool) (s : State) : Prop where
  room : s.scheduler.table.length ≤ Config.tableSize
  ahead : ∀ a ∈ s.scheduler.table,
    s.time.base < a.due ∨ (w = true ∧ isDue s.scheduler a = true)
  order : s.scheduler.table.Pairwise (fun a b => actionBefore a b = true)
  ids : (s.scheduler.table.map Action.id).Nodup

theorem tableDue_false (s : State) : TableDue false s ↔ TableLaw s :=
  ⟨fun h => ⟨h.room, fun a ha => by simpa using h.ahead a ha, h.order, h.ids⟩,
   fun h => ⟨h.room, fun a ha => .inl (h.ahead a ha), h.order, h.ids⟩⟩

/-- The laws of the time base and of the action table are kept. -/
structure Counts (s t : State) : Prop where
  time : TimeLaw s.time → TimeLaw t.time
  table : ∀ n, TimeLaw s.time → TableDue n s → TableDue n t

theorem Counts.refl (s : State) : Counts s s := ⟨id, fun _ _ => id⟩

theorem Counts.trans {s t u : State} (h : Counts s t) (g : Counts t u) : Counts s u :=
  ⟨g.time ∘ h.time, fun n a b => g.table n (h.time a) (h.table n a b)⟩

theorem Counts.foldl {α : Type} {f : State → α → State} (h : ∀ s x, Counts s (f s x)) (l : List α)
    (s : State) : Counts s (l.foldl f s) := by
  induction l generalizing s with
  | nil => exact .refl s
  | cons x l ih => exact (h s x).trans (ih _)

/-- A step that leaves the reading, the pending set and the table. -/
theorem Counts.of_same {s t : State} (base : t.time.base = s.time.base)
    (frac : t.time.frac = s.time.frac) (rem : t.time.rem = s.time.rem)
    (pending : t.time.pendingSet = s.time.pendingSet)
    (table : t.scheduler = s.scheduler) : Counts s t where
  time h := ⟨by rw [base]; exact h.base, by rw [frac]; exact h.frac, by rw [rem]; exact h.rem,
    by rw [pending]; exact h.pending⟩
  table n _ h := ⟨by rw [table]; exact h.room, by rw [table, base]; exact h.ahead,
    by rw [table]; exact h.order, by rw [table]; exact h.ids⟩

/-- A step that leaves the time base and the scheduler. -/
theorem Counts.of_blocks {s t : State} (h : t.time = s.time) (g : t.scheduler = s.scheduler) :
    Counts s t := .of_same (by rw [h]) (by rw [h]) (by rw [h]) (by rw [h]) (by rw [g])

/-! ## Table order and ids (R160, R162) -/

theorem actionBefore_trans {a b c : Action} (h : actionBefore a b = true)
    (g : actionBefore b c = true) : actionBefore a c = true := by
  simp only [actionBefore, Bool.or_eq_true, Bool.and_eq_true, decide_eq_true_eq] at *
  omega

theorem actionBefore_total {a b : Action} (h : a.id ≠ b.id) (g : actionBefore a b ≠ true) :
    actionBefore b a = true := by
  simp only [actionBefore, Bool.or_eq_true, Bool.and_eq_true, decide_eq_true_eq, ne_eq] at *
  omega

theorem mem_insertAction {a x : Action} {l : List Action} :
    x ∈ insertAction a l ↔ x = a ∨ x ∈ l := by
  induction l with
  | nil => simp [insertAction]
  | cons b l ih =>
    unfold insertAction
    split
    · simp
    · simp only [List.mem_cons, ih]
      tauto

theorem length_insertAction (a : Action) (l : List Action) :
    (insertAction a l).length = l.length + 1 := by
  induction l with
  | nil => rfl
  | cons b l ih => unfold insertAction; split <;> simp [ih]

/-- An action with a new id enters at its place in table order (R160). -/
theorem insertAction_sorted {a : Action} {l : List Action}
    (h : l.Pairwise (fun a b => actionBefore a b = true)) (hid : ∀ b ∈ l, b.id ≠ a.id) :
    (insertAction a l).Pairwise (fun a b => actionBefore a b = true) := by
  induction l with
  | nil => simp [insertAction]
  | cons b l ih =>
    obtain ⟨hb, hl⟩ := List.pairwise_cons.mp h
    unfold insertAction
    split
    · rename_i hab
      refine List.pairwise_cons.mpr ⟨fun x hx => ?_, h⟩
      rcases List.mem_cons.mp hx with rfl | hx
      · exact hab
      · exact actionBefore_trans hab (hb x hx)
    · rename_i hab
      refine List.pairwise_cons.mpr ⟨fun x hx => ?_, ih hl fun c hc => hid c (List.mem_cons_of_mem b hc)⟩
      rcases mem_insertAction.mp hx with rfl | hx
      · exact actionBefore_total (fun e => hid b List.mem_cons_self e.symm) hab
      · exact hb x hx

theorem insertAction_ids {a : Action} {l : List Action} (h : (l.map Action.id).Nodup)
    (hid : ∀ b ∈ l, b.id ≠ a.id) : ((insertAction a l).map Action.id).Nodup := by
  induction l with
  | nil => simp [insertAction]
  | cons b l ih =>
    simp only [List.map_cons, List.nodup_cons, List.mem_map, not_exists, not_and] at h
    unfold insertAction
    split
    · simp only [List.map_cons, List.nodup_cons, List.mem_cons, List.mem_map, not_or, not_exists,
        not_and]
      exact ⟨⟨fun e => hid b List.mem_cons_self e.symm, fun c hc => hid c (List.mem_cons_of_mem b hc)⟩,
        h⟩
    · simp only [List.map_cons, List.nodup_cons, List.mem_map, not_exists, not_and]
      refine ⟨fun c hc e => ?_, ih h.2 fun c hc => hid c (List.mem_cons_of_mem b hc)⟩
      rcases mem_insertAction.mp hc with rfl | hc
      · exact hid b List.mem_cons_self e.symm
      · exact h.1 c hc e

/-- The id `k` places further on the counter's round (R162). -/
def idPlus : Nat → Nat → Nat
  | 0, i => i
  | k + 1, i => idPlus k (idAfter i).1

theorem idPlus_succ (k i : Nat) : idPlus (k + 1) i = (idAfter (idPlus k i)).1 := by
  induction k generalizing i with
  | zero => rfl
  | succ k ih => rw [idPlus, ih, idPlus]

/-- The counter after a few ids: it goes on, or comes round at 65,535 (R162). -/
theorem idPlus_form (k i : Nat) (hk : k ≤ 8) : idPlus k i =
    if i + k ≤ 65535 then i + k else if 65535 ≤ i then (if k = 0 then i else k)
      else i + k - 65535 := by
  induction k with
  | zero => simp only [idPlus]; split <;> [rfl; (split <;> [rfl; omega])]
  | succ k ih =>
    have step (n : Nat) : (idAfter n).1 = if n < 65535 then n + 1 else 1 := by
      unfold idAfter; split <;> rfl
    rw [idPlus_succ, ih (by omega), step]
    repeat' split
    all_goals omega

/-- The search visits one id after another, every one before the last held by a pending action, and comes
round where it passes 65,535 (R162). -/
theorem freeId_visits (table : List Action) : ∀ (n : Nat), n ≤ 8 → ∀ (p : Nat × Bool), ∃ k ≤ n,
    freeId table n p = (idPlus k p.1, p.2 || decide (idPlus k p.1 < p.1 + k)) ∧
    (∀ j < k, idPending table (idPlus j p.1) = true) ∧
    (k < n → idPending table (idPlus k p.1) = false) := by
  intro n
  induction n with
  | zero => exact fun _ p => ⟨0, le_refl _, by simp [freeId, idPlus], by simp, by simp⟩
  | succ n ih =>
    intro hn p
    unfold freeId
    split
    · rename_i h
      obtain ⟨k, hk, e, hj, hs⟩ := ih (by omega) ((idAfter p.1).1, p.2 || (idAfter p.1).2)
      refine ⟨k + 1, by omega, ?_, fun j hj' => ?_, fun hk' => hs (by omega)⟩
      · have g := idPlus_form k (idAfter p.1).1 (by omega)
        have came : ((idAfter p.1).2 || decide (idPlus k (idAfter p.1).1 < (idAfter p.1).1 + k))
            = decide (idPlus k (idAfter p.1).1 < p.1 + (k + 1)) := by
          rw [Bool.eq_iff_iff]
          simp only [Bool.or_eq_true, decide_eq_true_iff]
          generalize idPlus k (idAfter p.1).1 = r at g ⊢
          unfold idAfter at g ⊢
          split at g
          · rename_i h
            rw [if_pos h]
            simp only [Bool.false_eq_true, false_or]
            omega
          · rename_i h
            rw [if_neg h]
            simp only [true_or, true_iff]
            (repeat' split at g) <;> omega
        exact e.trans (Prod.ext rfl ((Bool.or_assoc _ _ _).trans (congrArg (p.2 || ·) came)))
      · cases j with
        | zero => exact h
        | succ j => exact hj j (by omega)
    · rename_i h
      exact ⟨0, Nat.zero_le _, by simp [idPlus], by simp, fun _ => by simpa [idPlus] using h⟩

/-- The counter visits different ids for as long as a table can be full. -/
theorem idPlus_inj {i a b : Nat} (hab : a < b) (hb : b ≤ 8) : idPlus a i ≠ idPlus b i := by
  rw [idPlus_form a i (by omega), idPlus_form b i hb]
  repeat' split
  all_goals omega

/-- The id issued is held by no pending action (R162). -/
theorem freeId_fresh (table : List Action) (hl : table.length ≤ 8) (p : Nat × Bool) :
    idPending table (freeId table table.length p).1 = false := by
  obtain ⟨k, hk, e, hj, hs⟩ := freeId_visits table table.length hl p
  rw [e]
  rcases Nat.lt_or_ge k table.length with h | h
  · exact hs h
  · -- every visited id is one of the table's: they are as many as its actions, and one more has no room
    by_contra hp
    have hp : idPending table (idPlus k p.1) = true := by simpa using hp
    have all : ∀ j ≤ k, idPlus j p.1 ∈ table.map Action.id := by
      intro j hj'
      have : idPending table (idPlus j p.1) = true := by
        rcases Nat.lt_or_ge j k with h' | h'
        · exact hj j h'
        · rw [show j = k by omega]; exact hp
      simpa [idPending, List.any_eq_true] using this
    have nd : ((List.range (k + 1)).map fun j => idPlus j p.1).Nodup := by
      refine List.Nodup.map_on ?_ List.nodup_range
      intro a ha b hb hab
      simp only [List.mem_range] at ha hb
      rcases Nat.lt_trichotomy a b with h' | h' | h'
      · exact absurd hab (idPlus_inj h' (by omega))
      · exact h'
      · exact absurd hab.symm (idPlus_inj h' (by omega))
    have sub : ((List.range (k + 1)).map fun j => idPlus j p.1) ⊆ table.map Action.id := by
      intro x hx
      simp only [List.mem_map, List.mem_range] at hx
      obtain ⟨j, hj', rfl⟩ := hx
      exact all j (by omega)
    have := (nd.subperm sub).length_le
    simp only [List.length_map, List.length_range] at this
    omega

/-- The scheduler issues ids as R162 says. -/
theorem joinTable_issued (k : ActionKind) (due : Nat) (arg : Option Nat) (source : ActionSource)
    (c : Scheduler) (hl : c.table.length < 8) :
    IdIssued c (joinTable k due arg source c).2 (joinTable k due arg source c).1.nextId
      (joinTable k due arg source c).1.wrapped := by
  obtain ⟨k, hk, e, hj, -⟩ := freeId_visits c.table c.table.length (by omega) (c.nextId, c.wrapped)
  have fresh := freeId_fresh c.table (by omega) (c.nextId, c.wrapped)
  have f := idPlus_form k c.nextId (by omega)
  dsimp only at e hj
  unfold joinTable
  dsimp only
  rw [e] at fresh ⊢
  refine ⟨?_, fun i hi => ?_, ?_, ?_⟩
  · simpa [idPending] using fresh
  · dsimp only at hi
    obtain ⟨j, h1, h2⟩ : ∃ j < k, idPlus j c.nextId = i := by
      have g (j : Nat) (h : j < k) (e : (if c.nextId + j ≤ 65535 then c.nextId + j
          else if 65535 ≤ c.nextId then (if j = 0 then c.nextId else j) else c.nextId + j - 65535) = i) :
          ∃ j < k, idPlus j c.nextId = i := ⟨j, h, (idPlus_form j c.nextId (by omega)).trans e⟩
      rw [f] at hi
      clear f fresh e hj
      split at hi
      · exact g (i - c.nextId) (by omega) (by rw [if_pos (by omega)]; omega)
      · split at hi
        · split at hi
          · omega
          · by_cases h : i = c.nextId
            · exact g 0 (by omega) (by split <;> [omega; (split <;> [simp [h]; omega])])
            · exact g i (by omega) (by
                rw [if_neg (by omega), if_pos (by omega), if_neg (by omega)])
        · by_cases h : c.nextId ≤ i
          · exact g (i - c.nextId) (by omega) (by rw [if_pos (by omega)]; omega)
          · exact g (i + 65535 - c.nextId) (by omega) (by
              rw [if_neg (by omega), if_neg (by omega)]; omega)
    have := hj j h1
    rw [h2] at this
    simpa [idPending] using this
  · simp only [idAfter]; split <;> rfl
  · rw [f]
    clear f fresh e hj
    simp only [idAfter]
    rw [Bool.eq_iff_iff]
    simp only [Bool.or_eq_true, decide_eq_true_iff]
    repeat' split
    all_goals simp
    all_goals omega

/-- An action that SCHEDULE or a chain command enters keeps the table's law (R161, R162). -/
theorem enterAction_counts (k : Option ActionKind) (d : Nat) (a : Option Nat) (o : ActionSource)
    (s : State) : Counts s (enterAction k d a o s).1 := by
  unfold enterAction
  dsimp only
  split
  · exact .refl s
  · rename_i k
    split
    · exact .refl s
    · split
      · exact .refl s
      · rename_i hd
        split
        · exact .refl s
        · rename_i hr
          refine ⟨fun h => ⟨h.base, h.frac, h.rem, h.pending⟩, fun n _ h => ?_⟩
          have hlen : s.scheduler.table.length ≤ 8 := h.room
          have fresh := freeId_fresh s.scheduler.table hlen (s.scheduler.nextId, s.scheduler.wrapped)
          have hid : ∀ b ∈ s.scheduler.table, b.id ≠
              (freeId s.scheduler.table s.scheduler.table.length
                (s.scheduler.nextId, s.scheduler.wrapped)).1 := by
            intro b hb e
            have : idPending s.scheduler.table (freeId s.scheduler.table s.scheduler.table.length
                (s.scheduler.nextId, s.scheduler.wrapped)).1 = true := by
              simp only [idPending, List.any_eq_true, decide_eq_true_eq]
              exact ⟨b, hb, e⟩
            rw [fresh] at this
            cases this
          refine ⟨?_, ?_, insertAction_sorted h.order hid, insertAction_ids h.ids hid⟩
          · show (insertAction _ s.scheduler.table).length ≤ Config.tableSize
            rw [length_insertAction]
            omega
          · intro x hx
            rcases mem_insertAction.mp hx with rfl | hx
            · exact .inl (by show s.time.base < d; omega)
            · exact h.ahead x hx

/-! ## Taking (R163, R164) -/

theorem takeEffect_time (a : Action) (s : State) : (takeEffect a s).1.time.base = s.time.base ∧
    (takeEffect a s).1.time.frac = s.time.frac ∧ (takeEffect a s).1.time.rem = s.time.rem ∧
    (takeEffect a s).1.time.pendingSet = s.time.pendingSet := by
  unfold takeEffect byPort byMode byOffset
  dsimp only
  (repeat' split) <;> simp

/-- Taking an action removes it and leaves the reading (R163). -/
theorem takeAction_spec (l : Bool) (s : State) (a : Action) :
    (takeAction l s a).scheduler.table = s.scheduler.table.filter (fun x => decide (x.id ≠ a.id)) ∧
    (takeAction l s a).scheduler.dueIds =
      s.scheduler.dueIds.filter (fun i => decide (i ≠ a.id)) ∧
    (takeAction l s a).time.base = s.time.base ∧ (takeAction l s a).time.frac = s.time.frac ∧
    (takeAction l s a).time.rem = s.time.rem ∧
    (takeAction l s a).time.pendingSet = s.time.pendingSet := by
  have e := takeEffect_time a (removeAction a.id s)
  have r : (removeAction a.id s).scheduler.table =
      s.scheduler.table.filter (fun x => decide (x.id ≠ a.id)) := rfl
  have rd : (removeAction a.id s).scheduler.dueIds =
      s.scheduler.dueIds.filter (fun i => decide (i ≠ a.id)) := rfl
  have rt : (removeAction a.id s).time.base = s.time.base ∧ (removeAction a.id s).time.frac = s.time.frac
      ∧ (removeAction a.id s).time.rem = s.time.rem
      ∧ (removeAction a.id s).time.pendingSet = s.time.pendingSet := ⟨rfl, rfl, rfl, rfl⟩
  unfold takeAction
  dsimp only
  split <;> simp [e, r, rd, rt]

/-- Several actions taken one after another. -/
theorem takeAll_spec (l : Bool) (as : List Action) (s : State) :
    (as.foldl (takeAction l) s).scheduler.table =
      s.scheduler.table.filter (fun x => as.all fun a => decide (x.id ≠ a.id)) ∧
    (as.foldl (takeAction l) s).scheduler.dueIds =
      s.scheduler.dueIds.filter (fun i => as.all fun a => decide (i ≠ a.id)) ∧
    (as.foldl (takeAction l) s).time.base = s.time.base ∧
    (as.foldl (takeAction l) s).time.frac = s.time.frac ∧
    (as.foldl (takeAction l) s).time.rem = s.time.rem ∧
    (as.foldl (takeAction l) s).time.pendingSet = s.time.pendingSet := by
  induction as generalizing s with
  | nil => simp
  | cons a as ih =>
    have h := takeAction_spec l s a
    have i := ih (takeAction l s a)
    refine ⟨?_, ?_, i.2.2.1.trans h.2.2.1, i.2.2.2.1.trans h.2.2.2.1,
      i.2.2.2.2.1.trans h.2.2.2.2.1, i.2.2.2.2.2.trans h.2.2.2.2.2⟩
    · rw [List.foldl_cons, i.1, h.1, List.filter_filter]
      congr 1
      funext x
      rw [List.all_cons, Bool.and_comm]
    · rw [List.foldl_cons, i.2.1, h.2.1, List.filter_filter]
      congr 1
      funext x
      rw [List.all_cons, Bool.and_comm]

/-- The due actions of the table taken: what is left is what was not due. -/
theorem takeDue_left (l : Bool) (due : Action → Bool) (s : State) (x : Action)
    (hx : x ∈ ((s.scheduler.table.filter due).foldl (takeAction l) s).scheduler.table) :
    x ∈ s.scheduler.table ∧ due x = false
      ∧ isDue ((s.scheduler.table.filter due).foldl (takeAction l) s).scheduler x
        = isDue s.scheduler x := by
  rw [(takeAll_spec l _ s).1] at hx
  unfold isDue
  rw [(takeAll_spec l _ s).2.1]
  have hx := List.mem_filter.mp hx
  have keeps := hx.2
  simp only [List.all_eq_true, decide_eq_true_eq] at keeps
  refine ⟨hx.1, ?_, ?_⟩
  · by_contra h
    exact keeps x (List.mem_filter.mpr ⟨hx.1, by simpa using h⟩) rfl
  · rw [Bool.eq_iff_iff, List.contains_iff_mem, List.contains_iff_mem, List.mem_filter]
    exact and_iff_left hx.2

/-- Actions taken: the table keeps its room, its order and its ids. -/
theorem takeDue_counts (l : Bool) (due : Action → Bool) (s : State) (m : Bool)
    (room : s.scheduler.table.length ≤ Config.tableSize)
    (order : s.scheduler.table.Pairwise (fun a b => actionBefore a b = true))
    (ids : (s.scheduler.table.map Action.id).Nodup)
    (ha : ∀ x ∈ s.scheduler.table, due x = false →
      s.time.base < x.due ∨ (m = true ∧ isDue s.scheduler x = true)) :
    TableDue m ((s.scheduler.table.filter due).foldl (takeAction l) s) := by
  have w := takeAll_spec l (s.scheduler.table.filter due) s
  refine ⟨?_, fun x hx => ?_, ?_, ?_⟩
  · rw [w.1]; exact (List.length_filter_le _ _).trans room
  · have g := takeDue_left l due s x hx
    rw [w.2.2.1, g.2.2]
    exact ha x g.1 g.2.1
  · rw [w.1]; exact order.filter _
  · rw [w.1]; exact ids.sublist (List.filter_sublist.map _)

/-- What the marking makes due: every pending action of the boundary's second (R163). -/
theorem markDue_isDue (n : Nat) (s : State) : ∀ a ∈ (markDue n s).scheduler.table, a.due = n →
    isDue (markDue n s).scheduler a = true := fun a ha hn =>
  List.contains_iff_mem.mpr
    (List.mem_map.mpr ⟨a, List.mem_filter.mpr ⟨ha, decide_eq_true hn⟩, rfl⟩)

/-- The actions due at a boundary are taken: none waits for it any more (R163). -/
theorem boundaryActions_table (s : State) (h : TableDue true s) : TableDue false (boundaryActions s) :=
  takeDue_counts false _ s _ h.room h.order h.ids fun x hx hd => by
    rcases h.ahead x hx with g | g
    · exact .inl g
    · rw [hd] at g; cases g.2

theorem boundaryActions_counts (s : State) : Counts s (boundaryActions s) where
  time h := by
    have w := takeAll_spec false (s.scheduler.table.filter (isDue s.scheduler)) s
    exact ⟨w.2.2.1.trans_le h.base, w.2.2.2.1.trans_lt h.frac, w.2.2.2.2.1.trans_lt h.rem, fun p e =>
      h.pending p (w.2.2.2.2.2.symm.trans e)⟩
  table m _ h := takeDue_counts false _ s m h.room h.order h.ids fun x hx _ => h.ahead x hx

theorem removeAction_counts (n : Nat) (s : State) : Counts s (removeAction n s) where
  time h := ⟨h.base, h.frac, h.rem, h.pending⟩
  table m _ h := by
    have e : (removeAction n s).scheduler.table =
        s.scheduler.table.filter (fun a => decide (a.id ≠ n)) := rfl
    refine ⟨?_, fun x hx => ?_, ?_, ?_⟩
    · rw [e]; exact (List.length_filter_le _ _).trans h.room
    · rw [e] at hx
      have hx := List.mem_filter.mp hx
      have hd : isDue (removeAction n s).scheduler x = isDue s.scheduler x := by
        rw [Bool.eq_iff_iff]
        show (s.scheduler.dueIds.filter fun i => decide (i ≠ n)).contains x.id = true ↔
          s.scheduler.dueIds.contains x.id = true
        rw [List.contains_iff_mem, List.contains_iff_mem, List.mem_filter]
        exact and_iff_left hx.2
      rw [hd]
      exact h.ahead x hx.1
    · rw [e]; exact h.order.filter _
    · rw [e]; exact h.ids.sublist (List.filter_sublist.map _)

/-! ## Steps (R7 to R13) -/

/-- A step event reaches the scheduler last; the blocks before it leave the reading and the table. -/
theorem presentStep_before (ev : StepEvent) (s : State) :
    ∃ t, presentStep ev s = schedulerStep ev t ∧ t.time = s.time ∧ t.scheduler = s.scheduler :=
  ⟨_, rfl, by simp, by simp⟩

/-- A presented step leaves the reading. -/
theorem presentStep_time (ev : StepEvent) (s : State) :
    (presentStep ev s).time.base = s.time.base ∧ (presentStep ev s).time.frac = s.time.frac ∧
    (presentStep ev s).time.rem = s.time.rem ∧
    (presentStep ev s).time.pendingSet = s.time.pendingSet := by
  obtain ⟨t, e, ht, hs⟩ := presentStep_before ev s
  have w := takeAll_spec true (t.scheduler.table.filter (dueAtStep ev)) t
  rw [e, ← ht]
  exact w.2.2

/-- The table after a presented step, if every action that the step does not take lies ahead. -/
theorem presentStep_table (ev : StepEvent) (s : State) (m : Bool)
    (room : s.scheduler.table.length ≤ Config.tableSize)
    (order : s.scheduler.table.Pairwise (fun a b => actionBefore a b = true))
    (ids : (s.scheduler.table.map Action.id).Nodup)
    (ha : ∀ x ∈ s.scheduler.table, dueAtStep ev x = false →
      s.time.base < x.due ∨ (m = true ∧ isDue s.scheduler x = true)) :
    TableDue m (presentStep ev s) := by
  obtain ⟨t, e, ht, hs⟩ := presentStep_before ev s
  rw [e]
  refine takeDue_counts true (dueAtStep ev) t m ?_ ?_ ?_ ?_
  · rw [hs]; exact room
  · rw [hs]; exact order
  · rw [hs]; exact ids
  · rw [hs, ht]; exact ha

theorem clampReading_le (r : Int) : clampReading r ≤ Config.lastInstant := by
  unfold clampReading; omega

theorem timeAt_law (r : Nat) (t : TimeBase) (hr : r ≤ Config.lastInstant) (h : TimeLaw t) :
    TimeLaw (timeAt r t) := by
  refine ⟨?_, Nat.mod_lt _ (by decide), h.rem, h.pending⟩
  show r / Config.second ≤ Config.maxSeconds
  simp only [Config.lastInstant, Config.second, Config.maxSeconds] at *
  omega

/-- A step of no amount leaves the reading. -/
theorem moveTime_zero (a : Int) (s : State) (h : TimeLaw s.time) (h0 : appliedAmount a s = 0) :
    (moveTime a s).time.base = s.time.base := by
  have hr : clampReading ((s.reading : Int) + a) = s.reading := by
    unfold appliedAmount at h0; omega
  show clampReading ((s.reading : Int) + a) / Config.second = s.time.base
  rw [hr]
  have := h.frac
  simp only [State.reading, Config.second] at *
  omega

/-- A step that does not go forward does not raise base seconds. -/
theorem moveTime_back (a : Int) (s : State) (h : TimeLaw s.time) (hb : ¬ 0 < appliedAmount a s) :
    (moveTime a s).time.base ≤ s.time.base := by
  show clampReading ((s.reading : Int) + a) / Config.second ≤ s.time.base
  have hr : clampReading ((s.reading : Int) + a) ≤ s.reading := by
    unfold appliedAmount at hb; omega
  have := h.frac
  simp only [State.reading, Config.second] at *
  omega

/-- The table after a move of the count that is presented as its step event (R164). -/
theorem step_table (kind : StepKind) (a : Int) (s t : State) (n : Bool) (hs : TimeLaw s.time)
    (h : TableDue n s) (ht : t.time.base = (moveTime a s).time.base)
    (hc : t.scheduler = s.scheduler) :
    TableDue n (presentStep (stepEvent kind a s) t) := by
  refine presentStep_table _ t n (hc ▸ h.room) (hc ▸ h.order) (hc ▸ h.ids) ?_
  rw [hc]
  intro x hx hd
  · by_cases hf : 0 < appliedAmount a s
    · simp only [dueAtStep, stepEvent, hf, decide_true, Bool.true_and, Bool.false_eq_true, if_false,
        decide_eq_false_iff_not, Nat.not_le] at hd
      rw [ht]
      exact .inl hd
    · have := moveTime_back a s hs hf
      rcases h.ahead x hx with g | g
      · exact .inl (by omega)
      · exact .inr g

theorem performStep_counts (k : StepKind) (a : Int) (s : State) : Counts s (performStep k a s) := by
  unfold performStep
  dsimp only
  split
  · exact .refl s
  · refine ⟨fun h => ?_, fun n h g => step_table k a s _ n h g (by simp) (by simp)⟩
    have p := presentStep_time (stepEvent k a s) (State.post (.timeStep k (stepEvent k a s).seconds
      (stepEvent k a s).picos) 0 (((moveTime a s).setTime { (moveTime a s).time with
        stepCount := satSucc Config.count16 (moveTime a s).time.stepCount }).setServo
        { ((moveTime a s).setTime { (moveTime a s).time with
          stepCount := satSucc Config.count16 (moveTime a s).time.stepCount }).servo with
          token := false }))
    simp only [State.post_frame, State.setServo_time, State.setTime_time] at p
    have m : TimeLaw (moveTime a s).time := timeAt_law _ _ (clampReading_le _) h
    refine ⟨?_, ?_, ?_, ?_⟩
    · rw [p.1]; exact m.base
    · rw [p.2.1]; exact m.frac
    · rw [p.2.2.1]; exact m.rem
    · rw [p.2.2.2]; exact m.pending

/-- A move of the time base with its presentation, as the first setting of time makes it (R12). -/
theorem timeSetting_counts (k : Slot) (d : Int) (s : State) : Counts s (timeSetting k d s) := by
  unfold timeSetting timeGiven
  dsimp only
  split
  · rename_i h
    have h0 : appliedAmount (d * Config.second) s = 0 := by
      have := Int.tdiv_mul_add_tmod (appliedAmount (d * Config.second) s) Config.second
      have h1 : (appliedAmount (d * Config.second) s).tdiv Config.second = 0 := h.1
      have h2 : (appliedAmount (d * Config.second) s).tmod Config.second = 0 := h.2
      rw [h1, h2] at this
      omega
    refine ⟨fun g => ?_, fun n g w => ?_⟩
    · have m : TimeLaw (moveTime (d * Config.second) s).time := timeAt_law _ _ (clampReading_le _) g
      exact ⟨by simpa using m.base, by simpa using m.frac, by simpa using m.rem, by simp⟩
    · have e := moveTime_zero _ s g h0
      refine ⟨by simpa using w.room, fun a ha => ?_, by simpa using w.order, by simpa using w.ids⟩
      simp only [recomputeGrade_frame, State.refresh_frame, State.post_frame, State.setTime_time,
        State.setTime_scheduler, moveTime_frame] at ha ⊢
      rw [e]
      exact w.ahead a ha
  · refine ⟨fun g => ?_, fun n g w => step_table .seconds _ s _ n g w (by simp) (by simp)⟩
    have m : TimeLaw (moveTime (d * Config.second) s).time := timeAt_law _ _ (clampReading_le _) g
    obtain ⟨p1, p2, p3, p4⟩ := presentStep_time (stepEvent .seconds (d * Config.second) s)
      (recomputeGrade (State.refresh .timeUnset 0 (State.post (.timeSet (.slot k)
        (stepEvent .seconds (d * Config.second) s).seconds) 0
        ((moveTime (d * Config.second) s).setTime { (moveTime (d * Config.second) s).time with
          timeSet := true, pendingSet := none }))))
    refine ⟨?_, ?_, ?_, ?_⟩
    · rw [p1]; simpa using m.base
    · rw [p2]; simpa using m.frac
    · rw [p3]; simpa using m.rem
    · rw [p4]; simp

/-! ## The servo and the measurements -/

theorem servoEnter_counts (n : ServoState) (c : ServoCause) (s : State) :
    Counts s (servoEnter n c s) := .of_blocks (by simp) (by simp)

theorem writeMove_counts (m : Move) (s : State) : Counts s (writeMove m s) :=
  .of_same rfl rfl rfl rfl rfl

theorem slewUpdate_counts (e : Int) (l : Nat) (s : State) : Counts s (slewUpdate e l s).result := by
  have c (b : Bool) (t : State) : Counts t (countPull b t) := .of_blocks (by simp) (by simp)
  have a (t : State) : Counts t (judgeAcquiring e t) := .of_blocks (by simp) (by simp)
  have k (t : State) : Counts t (judgeLocked e t) := .of_blocks (by simp) (by simp)
  unfold slewUpdate
  dsimp only
  split
  · exact (writeMove_counts _ s).trans ((c _ _).trans (a _))
  · exact (writeMove_counts _ s).trans ((c _ _).trans (k _))

theorem phaseUpdate_counts (e : Int) (l : Nat) (s : State) : Counts s (phaseUpdate e l s).result := by
  have f : Counts s (firstUpdate e s) := .of_blocks (by simp) (by simp)
  have w (t : State) (v : Servo) : Counts t (t.setServo v) := .of_blocks rfl rfl
  unfold phaseUpdate phaseStepUpdate
  dsimp only
  split
  · exact f.trans ((w _ _).trans (performStep_counts _ _ _))
  · exact f.trans (slewUpdate_counts _ _ _)

theorem freqUpdate_counts (e : Int) (s : State) : Counts s (freqUpdate e s).result := by
  have c (b : Bool) (t : State) : Counts t (countPull b t) := .of_blocks (by simp) (by simp)
  exact (writeMove_counts _ s).trans (c _ _)

theorem handoffUpdate_counts (k : Slot) (m : Measurement) (l : Nat) (b : Bool) (s : State) :
    Counts s (handoffUpdate k m l b s) := by
  have q (t : State) (v : Servo) (x : UpdateReport) : Counts t (takeReport x (t.setServo v)) :=
    .of_blocks (by simp) (by simp)
  have r (u : Update) : Counts u.result (reportUpdate k m.value l (recordHandoff k m s) u) := q _ _ _
  unfold handoffUpdate servoUpdate
  dsimp only
  refine .trans (.of_blocks (by simp) (by simp) : Counts s (recordHandoff k m s)) ?_
  split
  · rename_i u hu
    refine .trans ?_ (r u)
    split at hu
    · cases hu; exact performStep_counts _ _ _
    · split at hu
      · cases hu; exact phaseUpdate_counts _ _ _
      · cases hu; exact phaseUpdate_counts _ _ _
      · cases hu; exact freqUpdate_counts _ _
      · cases hu
      · cases hu
  · exact .refl _

theorem handoff_counts (k : Slot) (m : Measurement) (b : Bool) (s : State) :
    Counts s (handoff k m b s) := by
  unfold handoff
  dsimp only
  (repeat' split) <;> first
    | with_reducible exact .refl s
    | with_reducible exact handoffUpdate_counts _ _ _ _ s
    | with_reducible exact timeSetting_counts _ _ s
    | with_reducible exact (timeSetting_counts _ _ s).trans (handoffUpdate_counts _ _ _ _ _)

theorem wanderJudge_counts (k : Slot) (v : Int) (s : State) : Counts s (wanderJudge k v s) :=
  .of_blocks (by simp) (by simp)

theorem recordMeasurement_counts (k : Slot) (x : Measurement) (s : State) :
    Counts s (recordMeasurement k x s) := .of_blocks (by simp) (by simp)

theorem checkMeasurement_counts (k : Slot) (x : Measurement) (s : State) :
    Counts s (checkMeasurement k x s) := by
  have w : Counts s (timeCheck k x s).1 := .of_blocks (by simp) (by simp)
  have a (t : State) : Counts t (agreementRun k x.value t) := .of_blocks (by simp) (by simp)
  unfold checkMeasurement
  dsimp only
  (repeat' split)
  · exact w.trans ((a _).trans (handoff_counts _ _ _ _))
  · exact w.trans (a _)
  · exact w

theorem takeMeasurement_counts (k : Slot) (x : Measurement) (s : State) :
    Counts s (takeMeasurement k x s) := by
  have w := wanderJudge_counts k x.value s
  have r := w.trans (recordMeasurement_counts k x _)
  unfold takeMeasurement
  dsimp only
  (repeat' split) <;> first
    | with_reducible exact .refl s
    | with_reducible exact recordMeasurement_counts k x s
    | with_reducible exact r.trans (checkMeasurement_counts k x _)
    | with_reducible exact r

theorem signalAppears_counts (k : Slot) (s : State) : Counts s (signalAppears k s) :=
  .of_blocks (by simp) (by simp)

theorem modRef_counts (k : Slot) (f : Monitor → Monitor) (s : State) : Counts s (modRef k f s) :=
  .of_blocks rfl rfl

theorem filterBoundary_counts (n : Nat) (s : State) : Counts s (filterBoundary n s) := by
  have w (t : State) (f : Filter) : Counts t (t.setFilter f) := .of_blocks rfl rfl
  have miss (t : State) : Counts t (missEpoch 8 .pkt t) := .of_blocks (by simp) (by simp)
  unfold filterBoundary
  dsimp only
  (repeat' split)
  · exact (w s _).trans ((w _ _).trans ((modRef_counts _ _ _).trans (takeMeasurement_counts _ _ _)))
  · exact (w s _).trans (miss _)
  · exact .refl s

/-! ## Chain -/

theorem modChain_counts (f : ChainUnit → ChainUnit) (s : State) : Counts s (modChain f s) :=
  .of_blocks rfl rfl

theorem post_counts (d : NoticeDetail) (n : Nat) (s : State) : Counts s (s.post d n) :=
  .of_blocks (by simp) (by simp)

theorem actOnCommand_counts (c : ChainCommand) (s : State) : Counts s (actOnCommand c s).1 := by
  unfold actOnCommand
  dsimp only
  (repeat' split) <;> first
    | with_reducible exact .refl s
    | with_reducible exact enterAction_counts _ _ _ _ s
    | exact .of_blocks (by simp) (by simp)

theorem takeFrameCommand_counts (f : TimeFrame) (s : State) : Counts s (takeFrameCommand f s) := by
  unfold takeFrameCommand takeCommand
  dsimp only
  (repeat' split) <;> first
    | with_reducible exact .refl s
    | with_reducible exact (modChain_counts _ s).trans (post_counts _ _ _)
    | with_reducible exact
      (modChain_counts _ s).trans ((actOnCommand_counts _ _).trans (post_counts _ _ _))

theorem chainMonitorTakes_counts (p : ChainPort) (f : TimeFrame) (c : Option Int) (s : State) :
    Counts s (chainMonitorTakes p f c s) := by
  unfold chainMonitorTakes
  dsimp only
  split
  · exact (signalAppears_counts _ s).trans (takeMeasurement_counts _ _ _)
  · exact signalAppears_counts _ s

theorem upstreamTakes_counts (p : ChainPort) (f : TimeFrame) (c : Option Int) (b : Bool) (s : State) :
    Counts s (upstreamTakes p f c b s) := by
  have m := modChain_counts (fun u => { u with lastUpstream := some (upstreamFrame f) }) s
  have w (t : State) : Counts t (modChain (fillRelay f) (takeFrameWord f t)) :=
    .of_blocks (by simp) (by simp)
  unfold upstreamTakes
  dsimp only
  split
  · exact m.trans ((takeFrameCommand_counts f _).trans
      ((chainMonitorTakes_counts p f c _).trans (w _)))
  · exact m.trans ((chainMonitorTakes_counts p f c _).trans
      ((takeFrameCommand_counts f _).trans (w _)))

theorem memberTakes_counts (p : ChainPort) (f : TimeFrame) (c : Option Int) (b : Bool) (s : State) :
    Counts s (memberTakes p f c b s) := by
  have w : Counts s (chainConditions (modRecord p (validRecord f) s)) := .of_blocks (by simp) (by simp)
  unfold memberTakes
  dsimp only
  (repeat' split)
  · exact w.trans (upstreamTakes_counts _ _ _ _ _)
  · exact w
  · exact .of_blocks (by simp) (by simp)

theorem receiveFrame_counts (p : ChainPort) (l : List Byte) (b : Bool) (s : State) :
    Counts s (receiveFrame p l b s) := by
  unfold receiveFrame
  dsimp only
  (repeat' split)
  · exact .refl s
  · exact .of_blocks (by simp) (by simp)
  · exact .of_blocks (by simp) (by simp)
  · exact (.of_blocks (by simp) (by simp) : Counts s (modRecord p _ s)).trans
      (memberTakes_counts _ _ _ _ _)

/-! ## The count -/

theorem runTo_counts (n : Nat) (s : State) : Counts s (runTo n s) := by
  unfold runTo
  split
  · rename_i h
    simp only [Bool.and_eq_true, decide_eq_true_eq] at h
    refine ⟨fun g => ⟨g.base, ?_, g.rem, g.pending⟩, fun n _ g => ⟨g.room, g.ahead, g.order, g.ids⟩⟩
    show s.time.frac + (n - s.time.frac) < Config.second
    omega
  · exact .refl s

/-- The expiries and window closes that are due leave the time base and the scheduler. -/
theorem expiries_counts (s : State) :
    Counts s (alarmExpiries (tooLongExpires (conflictExpires (swapExpires
      (allPorts.foldl (fun s p => rearmExpires p s) (dwellExpires (closeWindows
        (allSlots.foldl slotExpiries s)))))))) :=
  .of_blocks (by simp) (by simp)

theorem passHalf_counts (n : Nat) (s : State) : Counts s (passHalf n s) := by
  unfold passHalf
  split
  · exact (runTo_counts Config.half s).trans (.of_blocks (by simp) (by simp))
  · exact .refl s

theorem runPast_counts (n : Nat) (s : State) : Counts s (runPast n s) :=
  (passHalf_counts n s).trans (runTo_counts _ _)

theorem runToEnd_counts (s : State) : Counts s (runToEnd s) :=
  (runPast_counts _ s).trans (.of_same rfl rfl rfl rfl rfl)

/-! ## A marked boundary (R3, R13, R163) -/

theorem lineEpoch_counts (k : LineSlot) (s : State) : Counts s (lineEpoch k s) := by
  unfold lineEpoch
  dsimp only
  (repeat' split)
  · exact .refl s
  · exact modRef_counts _ _ s
  · exact takeMeasurement_counts _ _ s
  · exact .refl s

theorem agreementJudge_counts (s : State) : Counts s (agreementJudge s) :=
  .of_blocks (by simp) (by simp)

theorem estimateSecond_counts (s : State) : Counts s (estimateSecond s) := by
  have w (t : State) (f : Int) : Counts t (t.setTime { t.time with correction := f }) :=
    .of_same rfl rfl rfl rfl rfl
  have j (t : State) (h : Holdover) : Counts t (judgeEstimate (t.setHoldover h)) :=
    .of_blocks (by simp) (by simp)
  unfold estimateSecond holdoverSecond freqLockedSecond
  dsimp only
  split
  · exact (w s _).trans (j _ _)
  · exact j s _
  · exact .refl s
  · exact .refl s
  · exact .refl s

theorem holdoverBoundary_counts (n : Nat) (s : State) : Counts s (holdoverBoundary n s) := by
  have r (t : State) : Counts t (recordGrade n t) := .of_blocks (by simp) (by simp)
  have w (t : State) (h : Holdover) : Counts t (t.setHoldover h) := .of_blocks rfl rfl
  unfold holdoverBoundary
  dsimp only
  split
  · exact (w s _).trans ((estimateSecond_counts _).trans (r _))
  · exact (estimateSecond_counts s).trans (r _)

theorem satPulseTaken_counts (k : SatSlot) (s : State) : Counts s (satPulseTaken k s) := by
  have c (t : State) : Counts t (closeWindow k t) := .of_blocks (by simp) (by simp)
  have w (f : Monitor → Monitor) := (c s).trans ((signalAppears_counts (satSlot k) _).trans
    (modRef_counts (satSlot k) f _))
  unfold satPulseTaken
  dsimp only
  split
  · exact (w _).trans (takeMeasurement_counts _ _ _)
  · exact w _

theorem satPulseArrives_counts (k : SatSlot) (s : State) : Counts s (satPulseArrives k s) := by
  unfold satPulseArrives
  split
  · exact .refl s
  · exact satPulseTaken_counts k s

theorem blockActs_counts (n : Nat) (s : State) (b : Block) : Counts s (blockActs n s b) := by
  cases b with
  | scheduler => exact boundaryActions_counts s
  | filter => exact filterBoundary_counts n s
  | line k => exact lineEpoch_counts k s
  | agreement => exact agreementJudge_counts s
  | servo => exact .of_blocks (by simp [blockActs]) (by simp [blockActs])
  | ports => exact .of_blocks (by simp [blockActs]) (by simp [blockActs])
  | holdover => exact holdoverBoundary_counts n s
  | chain => exact .of_blocks (by simp [blockActs]) (by simp [blockActs])
  | slotTimers k => exact .of_blocks (by simp [blockActs]) (by simp [blockActs])
  | dwell => exact .of_blocks (by simp [blockActs]) (by simp [blockActs])
  | rearm p => exact .of_blocks (by simp [blockActs]) (by simp [blockActs])
  | alarms => exact .of_blocks (by simp [blockActs]) (by simp [blockActs])
  | pulse k => exact satPulseArrives_counts k s
  | edges k m => exact .of_blocks (by simp [blockActs]) (by simp [blockActs])
  | silence k => exact .of_blocks (by simp [blockActs]) (by simp [blockActs])
  | marker p => exact .of_blocks (by simp [blockActs]) (by simp [blockActs])
  | frame p l c => exact receiveFrame_counts p l c s
  | instant p => exact .of_blocks (by simp [blockActs]) (by simp [blockActs])
  | clock p k r => exact .of_blocks (by simp [blockActs]) (by simp [blockActs])

theorem mem_joinOrder {l : List Block} {b c : Block} : c ∈ joinOrder l b ↔ c ∈ l ∨ c = b := by
  unfold joinOrder
  split
  · rename_i h
    have h : b ∈ l := by simpa using h
    constructor
    · exact .inl
    · rintro (g | rfl) <;> assumption
  · simp

theorem mem_foldl_joinOrder (r l : List Block) (c : Block) :
    c ∈ r.foldl joinOrder l ↔ c ∈ l ∨ c ∈ r := by
  induction r generalizing l with
  | nil => simp
  | cons b r ih => rw [List.foldl_cons, ih, mem_joinOrder, List.mem_cons]; tauto

/-- Every block acts on every boundary, whatever order is named, and the expiries where they are named
(R3). -/
theorem mem_blockOrder (order : List Block) (b : Block) :
    b ∈ blockOrder order ↔ b ∈ order ∨ b ∈ defaultOrder := by
  unfold blockOrder
  rw [mem_foldl_joinOrder, List.mem_append]
  simp

/-- The scheduler acts on every boundary, behind what the order names before any block. -/
theorem scheduler_acts (order : List Block) :
    Block.scheduler ∈ (blockOrder order).dropWhile isExpiry := by
  have h : Block.scheduler ∈ blockOrder order := (mem_blockOrder _ _).mpr (.inr (by decide))
  rw [← List.takeWhile_append_dropWhile (p := isExpiry) (l := blockOrder order)] at h
  rcases List.mem_append.mp h with h | h
  · exact absurd (List.all_eq_true.mp List.all_takeWhile _ h) (by decide)
  · exact h

/-- The blocks of a boundary, the scheduler among them: no action of its second waits after it. -/
theorem blocks_table (n : Nat) (l : List Block) (h : Block.scheduler ∈ l) (s : State)
    (g : TimeLaw s.time) (w : TableDue true s) : TableDue false (l.foldl (blockActs n) s) := by
  induction l generalizing s with
  | nil => cases h
  | cons b l ih =>
    have tail (t : State) (gt : TimeLaw t.time) (wt : TableDue false t) :
        TableDue false (l.foldl (blockActs n) t) :=
      (Counts.foldl (blockActs_counts n) l t).table false gt wt
    have c := blockActs_counts n s b
    by_cases hb : b = .scheduler
    · subst hb
      exact tail _ (c.time g) (boundaryActions_table s w)
    · rcases List.mem_cons.mp h with e | e
      · exact absurd e.symm hb
      · exact ih e _ (c.time g) (c.table _ g w)

/-- The pending set of a boundary: what lies behind its second is taken, and what is due at it waits
for the scheduler (R13, R164). -/
theorem applyPending_table (old : Nat) (p : PendingSet) (s : State) (hb : s.time.base = p.seconds)
    (room : s.scheduler.table.length ≤ Config.tableSize)
    (order : s.scheduler.table.Pairwise (fun a b => actionBefore a b = true))
    (ids : (s.scheduler.table.map Action.id).Nodup)
    (ha : ∀ x ∈ s.scheduler.table, old < x.due)
    (hd : ∀ x ∈ s.scheduler.table, x.due = p.seconds → isDue s.scheduler x = true) :
    TableDue true (applyPending old p s) := by
  unfold applyPending timeGiven
  dsimp only
  split
  · rename_i h
    have h : p.seconds = old + 1 := by simp only [pendingEvent] at h; omega
    refine ⟨by simpa using room, fun x hx => ?_, by simpa using order, by simpa using ids⟩
    have := ha x (by simpa using hx)
    have := hd x (by simpa using hx)
    simp only [recomputeGrade_frame, State.refresh_frame, State.post_frame, State.setTime_time,
      State.setTime_scheduler, hb]
    by_cases e : x.due = p.seconds
    · exact .inr ⟨trivial, this e⟩
    · exact .inl (by omega)
  · refine presentStep_table _ _ _ (by simpa using room) (by simpa using order) (by simpa using ids)
      fun x hx hs => ?_
    have := ha x (by simpa using hx)
    have := hd x (by simpa using hx)
    simp only [recomputeGrade_frame, State.refresh_frame, State.post_frame, State.setTime_time,
      State.setTime_scheduler, hb]
    have hs : old + 1 < p.seconds → p.seconds ≤ x.due := fun g =>
      Nat.le_of_not_lt (of_decide_eq_false (by simpa [dueAtStep, pendingEvent, g] using hs))
    by_cases e : x.due = p.seconds
    · exact .inr ⟨trivial, this e⟩
    · exact .inl (by omega)

theorem applyPending_time (old : Nat) (p : PendingSet) (s : State) (h : TimeLaw s.time) :
    TimeLaw (applyPending old p s).time := by
  unfold applyPending timeGiven
  dsimp only
  split
  · exact ⟨by simpa using h.base, by simpa using h.frac, by simpa using h.rem, by simp⟩
  · obtain ⟨p1, p2, p3, p4⟩ := presentStep_time (pendingEvent old p.seconds)
      (recomputeGrade (State.refresh .timeUnset 0 (State.post (.timeSet .host
        (pendingEvent old p.seconds).seconds) 0 (s.setTime { s.time with
          timeSet := true, offset := p.offset.getD s.time.offset, pendingSet := none }))))
    refine ⟨?_, ?_, ?_, ?_⟩
    · rw [p1]; simpa using h.base
    · rw [p2]; simpa using h.frac
    · rw [p3]; simpa using h.rem
    · rw [p4]; simp

/-- The time base right after a boundary is marked (R3, R13). -/
theorem markTime_law (t : TimeBase) (hb : t.base < Config.maxSeconds) (hr : t.rem < 1000000000000)
    (hp : ∀ p, t.pendingSet = some p → p.seconds ≤ Config.maxSeconds) : TimeLaw (markTime t) := by
  refine ⟨?_, (by decide : 0 < Config.second), hr, hp⟩
  show nextSecond t ≤ _
  unfold nextSecond
  split
  · rename_i p h; exact hp p h
  · omega

/-- The laws of the time base and of the action table together. -/
def TimeAndTable (s : State) : Prop := TimeLaw s.time ∧ TableLaw s

theorem Counts.both {s t : State} (h : Counts s t) (g : TimeAndTable s) : TimeAndTable t :=
  ⟨h.time g.1, (tableDue_false t).mp (h.table false g.1 ((tableDue_false s).mpr g.2))⟩

/-- A marked boundary keeps the laws of the time base and the table; `s` is the count at the end of
its second. -/
theorem markBoundary_both (order : List Block) (s : State) (hb : s.time.base < Config.maxSeconds)
    (hr : s.time.rem < 1000000000000)
    (hp : ∀ p, s.time.pendingSet = some p → p.seconds ≤ Config.maxSeconds) (w : TableLaw s) :
    TimeAndTable (markBoundary order s) := by
  have last (t : State) (g : TimeLaw t.time) (d : TableDue true t) :
      TimeAndTable (blocksAct (nextSecond s.time) order t) :=
    ⟨(Counts.foldl (blockActs_counts _) _ t).time g,
      (tableDue_false _).mp (blocks_table _ _ (scheduler_acts order) t g d)⟩
  unfold markBoundary
  dsimp only
  obtain ⟨u, hu, et, es⟩ : ∃ u, expiriesFirst (nextSecond s.time) order (markDue (nextSecond s.time)
      (countTimers s.time.counted (s.setTime (markTime s.time)))) = u ∧ u.time = markTime s.time
      ∧ u.scheduler = (markDue (nextSecond s.time) s).scheduler :=
    ⟨_, rfl, by simp, by simp; simp [markDue]⟩
  rw [hu]
  have tl : TimeLaw u.time := et ▸ markTime_law s.time hb hr hp
  have room : u.scheduler.table.length ≤ Config.tableSize := es ▸ w.room
  have ord : u.scheduler.table.Pairwise (fun a b => actionBefore a b = true) := es ▸ w.order
  have ids : (u.scheduler.table.map Action.id).Nodup := es ▸ w.ids
  have ahead : ∀ a ∈ u.scheduler.table, s.time.base < a.due := es ▸ w.ahead
  have marked : ∀ a ∈ u.scheduler.table, a.due = nextSecond s.time → isDue u.scheduler a = true :=
    es ▸ markDue_isDue _ s
  have base : u.time.base = nextSecond s.time := by rw [et]; rfl
  split
  · rename_i p h
    have hn : nextSecond s.time = p.seconds := by unfold nextSecond; rw [h]
    refine last _ (applyPending_time _ _ _ tl) ?_
    exact applyPending_table _ p _ (base.trans hn) room ord ids ahead (hn ▸ marked)
  · rename_i h
    have hn : nextSecond s.time = s.time.base + 1 := by unfold nextSecond; rw [h]
    refine last _ tl ⟨room, fun a ha => ?_, ord, ids⟩
    have := ahead a ha
    rw [base]
    by_cases e : a.due = nextSecond s.time
    · exact .inr ⟨rfl, marked a ha e⟩
    · exact .inl (by omega)

end Sys2Proof.Machine
end

