-- ==== Sys2Proof/Laws/TableRequests.lean ====
section
/-!
SUPPORT. The laws of the time base and of the action table are kept by requests, restarts, the link
and the events of the pins and the count.
-/

-- One proof at a time: elaborated side by side, so many small proofs reserve too many thread stacks.
set_option Elab.async false

namespace Sys2Proof.Machine

open Sys2Proof.Safety

/-! ## Requests -/

/-- An effect that keeps the laws of the time base and the table. -/
abbrev CountsAll (f : Request.Effect) : Prop := ∀ s, Counts s (f s).1

theorem hostStep_counts (n : Nat) (o : Option Nat) : CountsAll (hostStep n o) := by
  intro s
  have w (t : State) : Counts t (writeOffset o t) := .of_same rfl rfl rfl rfl rfl
  unfold hostStep
  dsimp only
  split
  · exact .refl s
  · exact (performStep_counts _ _ s).trans (w _)

/-- A pending set that lies within its range is written. -/
theorem pendingSet_counts (p : PendingSet) (hp : p.seconds ≤ Config.maxSeconds) (s : State) :
    Counts s (s.setTime { s.time with pendingSet := some p }) where
  time h := ⟨h.base, h.frac, h.rem, fun q e => by cases e; exact hp⟩
  table _ _ h := ⟨h.room, h.ahead, h.order, h.ids⟩

theorem requestSetTime_counts (n : Nat) (o : Option Nat) : CountsAll (requestSetTime n o) := by
  intro s
  unfold requestSetTime refuse
  (repeat' split) <;> first
    | with_reducible exact hostStep_counts n o s
    | (dsimp only; with_reducible exact .refl s)
    | (dsimp only; exact pendingSet_counts _ (by simp only []; omega) s)

theorem clampLoop_counts (p : Nat) (s : State) : Counts s (clampLoop p s) := by
  have w : Counts s ((s.setServo { s.servo with estimate := clampTo p s.servo.estimate }).setTime
      { s.time with correction := clampTo p s.time.correction }) := .of_same rfl rfl rfl rfl rfl
  have c (t : State) : Counts t (clearPullRuns t) := .of_blocks (by simp) (by simp)
  exact w.trans (c _)

theorem requestSetServo_counts (c : ServoConfig) : CountsAll (requestSetServo c) := by
  intro s
  have w (v : Servo) : Counts s (s.setServo v) := .of_blocks rfl rfl
  unfold requestSetServo configureServo
  dsimp only
  (repeat' split)
  · exact (w _).trans (clampLoop_counts _ _)
  · exact w _
  · exact .refl s

theorem requestSchedule_counts (k : Option ActionKind) (d : Nat) (a : Option Nat) :
    CountsAll (requestSchedule k d a) := by
  intro s
  unfold requestSchedule
  dsimp only
  split <;> exact enterAction_counts k d a .host s

theorem requestCancel_counts (n : Nat) : CountsAll (requestCancel n) := by
  intro s
  unfold requestCancel refuse
  (repeat' split) <;> first
    | (dsimp only; with_reducible exact removeAction_counts n s)
    | (dsimp only; with_reducible exact .refl s)

/-- A request that leaves the time base and the scheduler. -/
theorem countsAll_of_blocks {f : Request.Effect}
    (h : ∀ s, (f s).1.time = s.time ∧ (f s).1.scheduler = s.scheduler) : CountsAll f :=
  fun s => .of_blocks (h s).1 (h s).2

/-- Every request of the catalogue keeps the laws, whatever its body holds. -/
theorem requestEffect_counts {kind : Nat} {b : List Byte} {f : Request.Effect}
    (h : requestEffect kind b = some f) : CountsAll f := by
  unfold requestEffect reads readsNone reads at h
  split at h <;> simp only [Option.map_eq_some_iff, reduceCtorEq] at h <;>
    obtain ⟨x, -, rfl⟩ := h <;> first
    | with_reducible exact requestSetTime_counts _ _
    | with_reducible exact requestSetServo_counts _
    | with_reducible exact requestSchedule_counts _ _ _
    | with_reducible exact requestCancel_counts _
    | exact countsAll_of_blocks fun s => by simp

/-! ## Starts and restarts -/

theorem tableDue_of_nil (n : Bool) {s : State} (h : s.scheduler.table = []) : TableDue n s :=
  ⟨by rw [h]; exact Nat.zero_le _, by rw [h]; nofun, by rw [h]; exact .nil, by rw [h]; exact .nil⟩

/-- A time base at its pin-reset values apart from F, and an empty table (R18, R168). -/
theorem counts_of_fresh (s : State) {t : State} (f : Int)
    (h : t.time = { timeAtReset with correction := f }) (g : t.scheduler = schedulerAtReset) :
    Counts s t where
  time _ := by
    rw [h]
    exact ⟨Nat.zero_le _, (by decide : 0 < Config.second), (by decide : 0 < 1000000000000), nofun⟩
  table n _ _ := tableDue_of_nil n (by rw [g]; rfl)

theorem enterRunning_counts (p : Option Profile) (a : BitVec 3) (s : State) :
    Counts s (enterRunning p a s) :=
  counts_of_fresh s _ (by simp [enterRunning, startedBlocks]; rfl) (by simp [enterRunning, startedBlocks])

theorem pinReset_counts (m : LinkMode) (s : State) : Counts s (pinReset m s) :=
  counts_of_fresh s 0 rfl rfl

theorem softRestart_counts (s : State) : Counts s (softRestart s) where
  time h := by
    simp only [softRestart, declareAll_frame, restartedGrade_frame]
    exact ⟨h.base, h.frac, h.rem, h.pending⟩
  table n _ _ := tableDue_of_nil n (by simp [softRestart, restartedBlocks])

/-! ## The link -/

theorem setLink_counts (s : State) (k : Link) : Counts s (s.setLink k) := .of_blocks rfl rfl

theorem addReply_counts (k t : Byte) (x : State × Answer) : Counts x.1 (addReply k t x) :=
  .of_blocks rfl rfl

theorem takeRequest_counts (r : Request) (s : State) : Counts s (takeRequest r s) := by
  refine .trans ?_ (addReply_counts _ _ _)
  unfold judgeRequest
  (repeat' split)
  · exact .refl s
  · exact .refl s
  · rename_i f h; exact requestEffect_counts h s
  · exact .refl s

theorem serveNext_counts (s : State) : Counts s (serveNext s) := by
  unfold serveNext
  split
  · exact (setLink_counts s _).trans (takeRequest_counts _ _)
  · exact (setLink_counts s _).trans (addReply_counts _ _ (refuse .overrun _))
  · exact .refl s
  · exact .refl s

theorem restartActs_counts (s : State) : Counts s (restartActs s) := by
  unfold restartActs
  split
  · exact (softRestart_counts s).trans (serveNext_counts _)
  · exact .refl s

theorem takeTyped_counts (k t : Byte) {f : Request.Effect} (h : CountsAll f) (s : State) :
    Counts s (takeTyped k t f s) := by
  refine (restartActs_counts s).trans (.trans ?_ (addReply_counts _ _ _))
  unfold handOver
  split
  · exact .refl _
  · exact h _

theorem replyFinished_counts (s : State) : Counts s (replyFinished s) := by
  unfold replyFinished
  dsimp only
  (repeat' split)
  · exact .refl s
  · exact setLink_counts s _
  · exact (setLink_counts s _).trans (serveNext_counts _)

theorem acceptRequest_counts (r : Request) (s : State) : Counts s (acceptRequest r s) := by
  have q (t : State) : Counts t (queueRequest r t) := by
    unfold queueRequest
    dsimp only
    (repeat' split) <;> exact setLink_counts t _
  unfold acceptRequest
  dsimp only
  split
  · exact (restartActs_counts s).trans (takeRequest_counts _ _)
  · exact (restartActs_counts s).trans (q _)

theorem completeFrame_counts (l : List Byte) (n : Nat) (s : State) :
    Counts s (completeFrame l n s) := by
  unfold completeFrame
  split
  · exact acceptRequest_counts _ s
  · exact setLink_counts s _

theorem receiveOctets_counts (n : Nat) (l : List Byte) (s : State) :
    Counts s (receiveOctets n l s) := by
  induction n generalizing l s with
  | zero => exact .refl s
  | succ n ih =>
    cases l with
    | nil => exact .refl s
    | cons b l =>
      unfold receiveOctets
      dsimp only
      (repeat' split)
      · exact ih _ _
      · exact .refl s
      · exact (setLink_counts s _).trans (ih _ _)
      · exact .refl s
      · exact (completeFrame_counts _ _ s).trans (ih _ _)

/-! ## The count and the events -/

theorem settle_counts (s : State) : Counts s (settle s) :=
  (restartActs_counts s).trans (expiries_counts _)

theorem advanceTo_counts (n : Nat) (s : State) : Counts s (advanceTo n s) := by
  unfold advanceTo
  split
  · exact (settle_counts s).trans (runPast_counts _ _)
  · exact .refl s

/-- Base seconds stays below its greatest value, so a boundary can still be marked. -/
def StaysBelow (s t : State) : Prop :=
  s.time.frac < Config.second → s.time.base < Config.maxSeconds → t.time.base < Config.maxSeconds

theorem staysBelow_of_eq {s t : State} (h : t.time.base = s.time.base) : StaysBelow s t :=
  fun _ g => h ▸ g

theorem writeOffset_base (o : Option Nat) (s : State) :
    (writeOffset o s).time.base = s.time.base := rfl

theorem moveTime_base (a : Int) (s : State) :
    (moveTime a s).time.base = clampReading ((s.reading : Int) + a) / Config.second := rfl

theorem hostStep_below (n : Nat) (o : Option Nat) (s : State) (hn : n ≤ Config.maxSeconds) :
    StaysBelow s (hostStep n o s).1 := by
  intro hf hb
  unfold hostStep
  dsimp only
  split
  · exact hb
  · rename_i h0
    rw [writeOffset_base]
    unfold performStep
    dsimp only
    split
    · exact hb
    · rw [(presentStep_time _ _).1]
      simp only [State.post_frame, State.setServo_time, State.setTime_time]
      rw [moveTime_base]
      unfold clampReading State.reading
      simp only [Config.lastInstant, Config.second, Config.maxSeconds] at *
      omega

theorem requestEffect_below {kind : Nat} {b : List Byte} {f : Request.Effect}
    (h : requestEffect kind b = some f) (s : State) : StaysBelow s (f s).1 := by
  have same (t : State) (e : t.time.base = s.time.base) : StaysBelow s t := staysBelow_of_eq e
  have setTime (n : Nat) (o : Option Nat) : StaysBelow s (requestSetTime n o s).1 := by
    unfold requestSetTime refuse
    (repeat' split) <;> first
      | (with_reducible exact hostStep_below n o s (by omega))
      | (dsimp only; exact same _ rfl)
  have setServo (c : ServoConfig) : (requestSetServo c s).1.time.base = s.time.base := by
    unfold requestSetServo configureServo clampLoop refuse
    dsimp only
    (repeat' split) <;> simp
  have schedule (k : Option ActionKind) (d : Nat) (a : Option Nat) :
      (requestSchedule k d a s).1.time.base = s.time.base := by
    unfold requestSchedule enterAction
    dsimp only
    (repeat' split) <;> rfl
  have cancel (n : Nat) : (requestCancel n s).1.time.base = s.time.base := by
    unfold requestCancel refuse
    (repeat' split) <;> rfl
  unfold requestEffect reads readsNone reads at h
  split at h <;> simp only [Option.map_eq_some_iff, reduceCtorEq] at h <;>
    obtain ⟨x, -, rfl⟩ := h <;> first
    | with_reducible exact setTime _ _
    | with_reducible exact same _ (setServo _)
    | with_reducible exact same _ (schedule _ _ _)
    | with_reducible exact same _ (cancel _)
    | exact same _ (by simp)

theorem serveNext_below (s : State) : StaysBelow s (serveNext s) := by
  unfold serveNext
  split
  · rename_i r l _ _
    show StaysBelow s (addReply _ _ (judgeRequest r (s.setLink { s.link with waiting := l })))
    have w : (addReply r.kind r.tag (judgeRequest r (s.setLink { s.link with waiting := l }))).time
        = (judgeRequest r (s.setLink { s.link with waiting := l })).1.time := rfl
    intro hf hb
    rw [w]
    unfold judgeRequest refuse
    (repeat' split)
    · exact staysBelow_of_eq rfl hf hb
    · exact staysBelow_of_eq rfl hf hb
    · rename_i f h
      exact requestEffect_below h _ hf hb
    · exact staysBelow_of_eq rfl hf hb
  · exact staysBelow_of_eq rfl
  · exact staysBelow_of_eq rfl
  · exact staysBelow_of_eq rfl

theorem softRestart_time (s : State) : (softRestart s).time = { s.time with leap := none } := by
  simp [softRestart, restartedBlocks]

theorem restartActs_below (s : State) : StaysBelow s (restartActs s) := by
  have e := softRestart_time s
  have e1 : (softRestart s).time.frac = s.time.frac := by rw [e]
  have e2 : (softRestart s).time.base = s.time.base := by rw [e]
  unfold restartActs
  split
  · exact fun hf hb => serveNext_below _ (e1.trans_lt hf) (e2.trans_lt hb)
  · exact staysBelow_of_eq rfl

theorem settle_below (s : State) : StaysBelow s (settle s) := by
  have e : (settle s).time = (restartActs s).time := by simp [settle]
  intro hf hb
  rw [e]
  exact restartActs_below s hf hb

/-- The count run out to the end of its second. -/
theorem runOut_same (s : State) : (runOut s).time.base = s.time.base ∧
    (runOut s).time.rem = s.time.rem ∧ (runOut s).time.pendingSet = s.time.pendingSet ∧
    (TableLaw s → TableLaw (runOut s)) :=
  ⟨rfl, rfl, rfl, fun h => ⟨h.room, h.ahead, h.order, h.ids⟩⟩

theorem runTo_base (n : Nat) (s : State) : (runTo n s).time.base = s.time.base := by
  unfold runTo
  split <;> rfl

theorem passHalf_base (n : Nat) (s : State) : (passHalf n s).time.base = s.time.base := by
  unfold passHalf
  split <;> simp [runTo_base]

/-- A marked boundary keeps both laws; no action of its second waits after it (R3, R163). -/
theorem nextBoundary_both (order : List Block) (s : State) (h : TimeAndTable s) :
    TimeAndTable (nextBoundary order s) := by
  unfold nextBoundary
  split
  · rename_i hc
    simp only [canMark, Bool.and_eq_true, decide_eq_true_eq] at hc
    have g := ((settle_counts s).trans (passHalf_counts Config.second _)).both h
    obtain ⟨e1, e2, e3, w⟩ := runOut_same (passHalf Config.second (settle s))
    have b := (passHalf_base Config.second (settle s)).trans_lt (settle_below s h.1.frac hc.2)
    exact markBoundary_both order _ (e1.trans_lt b) (e2.trans_lt g.1.rem)
      (fun p hp => g.1.pending p (e3.symm.trans hp)) (w g.2)
  · exact h

theorem reachEnd_counts (s : State) : Counts s (reachEnd s) := by
  unfold reachEnd
  dsimp only
  (repeat' split)
  · exact (settle_counts s).trans (runToEnd_counts _)
  · exact settle_counts s
  · exact .refl s

/-- The time base advanced by one picosecond keeps both laws, over a boundary too (R2 to R4). -/
theorem onePico_both (s : State) (h : TimeAndTable s) : TimeAndTable (onePico s) := by
  unfold onePico
  (repeat' split)
  · rename_i hf
    exact ⟨⟨h.1.base, hf, h.1.rem, h.1.pending⟩, h.2.room, h.2.ahead, h.2.order, h.2.ids⟩
  · rename_i hb
    exact (settle_counts _).both (markBoundary_both _ _ hb h.1.rem h.1.pending
      ⟨h.2.room, h.2.ahead, h.2.order, h.2.ids⟩)
  · exact (Counts.of_same rfl rfl rfl rfl rfl : Counts s (s.setTime (holdAtEnd s.time))).both h
  · exact h

theorem picos_both (n : Nat) (s : State) (h : TimeAndTable s) : TimeAndTable (picos n s) := by
  induction n generalizing s with
  | zero => exact h
  | succ n ih => exact ih _ (onePico_both s h)

theorem oscillatorTick_both (s : State) (h : TimeAndTable s) : TimeAndTable (oscillatorTick s) := by
  unfold oscillatorTick
  dsimp only
  split
  · exact picos_both _ _ ⟨⟨h.1.base, h.1.frac, Nat.mod_lt _ (by decide), h.1.pending⟩, h.2.room,
      h.2.ahead, h.2.order, h.2.ids⟩
  · exact h

theorem idle_both (s : State) (h : TimeAndTable s) : TimeAndTable (idle s) :=
  oscillatorTick_both _ ((settle_counts s).both h)

theorem satPulse_counts (k : SatSlot) (t : Nat) (s : State) : Counts s (satPulse k t s) := by
  unfold satPulse
  split
  · exact (advanceTo_counts t s).trans (satPulseArrives_counts _ _)
  · exact .refl s

theorem satWindowClose_counts (k : SatSlot) (s : State) : Counts s (satWindowClose k s) := by
  have c (t : State) : Counts t (closeWindow k t) := .of_blocks (by simp) (by simp)
  unfold satWindowClose
  split
  · exact (advanceTo_counts _ s).trans (c _)
  · exact .refl s

theorem lineEdge_counts (k : LineSlot) (t n : Nat) (s : State) : Counts s (lineEdge k t n s) := by
  have c (t : State) : Counts t (lineEdgeArrives k n t) := .of_blocks (by simp) (by simp)
  unfold lineEdge
  split
  · exact (advanceTo_counts t s).trans (c _)
  · exact .refl s

theorem lineLoss_counts (k : LineSlot) (s : State) : Counts s (lineLoss k s) := by
  have c (t : State) : Counts t (lineLossTaken k t) := .of_blocks (by simp) (by simp)
  unfold lineLoss
  dsimp only
  split
  · exact (advanceTo_counts _ s).trans (c _)
  · exact .refl s

theorem chainMarker_counts (p : ChainPort) (t : Nat) (s : State) : Counts s (chainMarker p t s) := by
  have c (t : State) : Counts t (captureMarker p t) := .of_blocks (by simp) (by simp)
  unfold chainMarker
  split
  · exact (advanceTo_counts _ s).trans (c _)
  · exact .refl s

theorem chainFrame_counts (p : ChainPort) (t : Nat) (l : List Byte) (b : Bool) (s : State) :
    Counts s (chainFrame p t l b s) := by
  unfold chainFrame
  split
  · exact (advanceTo_counts _ s).trans (receiveFrame_counts _ _ _ _)
  · exact .refl s

theorem settleBefore_counts (n : Nat) (s : State) : Counts s (settleBefore n s) := by
  unfold settleBefore
  split
  · exact settle_counts s
  · exact .refl s

theorem portEmission_counts (p : Fin 12) (s : State) : Counts s (portEmission p s) := by
  have c (i : Nat × Nat) (t : State) : Counts t (runToInstant p i t) := by
    unfold runToInstant
    dsimp only
    split
    · exact (runPast_counts i.2 t).trans (.of_blocks (by simp) (by simp))
    · exact runPast_counts _ t
  unfold portEmission
  dsimp only
  (repeat' split)
  · exact (settleBefore_counts _ s).trans (c _ _)
  · exact settleBefore_counts _ s
  · exact .refl s
  · exact .refl s

theorem clockEdge_counts (p : Fin 12) (k : Nat) (b : Bool) (s : State) :
    Counts s (clockEdge p k b s) := by
  have c (t : State) (x : Port) : Counts t (t.setPort p x) := .of_blocks (by simp) (by simp)
  unfold clockEdge
  dsimp only
  (repeat' split)
  · exact (settleBefore_counts _ s).trans ((runPast_counts _ _).trans (c _ _))
  · exact settleBefore_counts _ s
  · exact .refl s
  · exact .refl s

end Sys2Proof.Machine
end

