-- ==== Sys2Proof/Tests/Slice0.lean ====
section
/-!
SUPPORT. Tests: the checks of WellFormed refuse an ill-formed command each, a few results taken from
the spec's worked examples and tables, and for every statement with hypotheses a state and operands
that meet them.
-/

-- the elaborator's worker threads have too small a stack for this file
set_option Elab.async false

namespace Sys2Proof.Tests

open Sys2Proof Sys2Proof.Machine Sys2Proof.Safety

/-! ## States -/

/-- The part after pin reset, once loading has ended with the defaults, address straps 3. -/
def up : State := enterRunning none 3#3 State.reset

/-- The same with time set, in second 5, a quarter of a second on. -/
def timed : State :=
  { up with time := { up.time with timeSet := true, base := 5, frac := 250000000000 } }

/-- The servo in a state. -/
def inServo (v : ServoState) (s : State) : State := s.setServo { s.servo with state := v }

/-- The part state. -/
def inPart (p : PartState) (s : State) : State := s.setPart p

/-- A monitor changed. -/
def slotWith (k : Slot) (f : Monitor → Monitor) (s : State) : State := modRef k f s

/-- Port 0 changed. -/
def portWith (f : Port → Port) (s : State) : State := s.setPort 0 (f (s.port 0))

/-- The chain unit changed. -/
def chainWith (f : ChainUnit → ChainUnit) (s : State) : State := s.setChain (f s.chain)

/-- The link changed. -/
def linkWith (f : Link → Link) (s : State) : State := s.setLink (f s.link)

/-- A command waits. -/
def waiting (c : Instr) (s : State) : State := s.setPending [c]

/-- Entry 0 of a kind in a state, its expiry due. -/
def entryOf (k : AlarmKind) (v : EntryState) (s : State) : State :=
  s.setAlarms
    (refreshOutputs (s.alarms.setEntry k 0
      { condition := false, state := v, acknowledged := false, timer := { left := 0, due := true },
        raisedAt := none, clearedAt := none, raiseCount := 0 }))

/-- Entry 0 of HOLDOVER in a state, its expiry due. -/
def entryIn (v : EntryState) (s : State) : State := entryOf .holdover v s

/-- A reply that the transmitter is sending. -/
def sending (restart : Bool) : Reply :=
  { kind := 0x02, tag := 1, answer := { status := .ok, contents := [], restart := restart } }

/-- An expiry that is due. -/
def due : Timer := { left := 0, due := true }

theorem takes_up : Takes up := by
  show up.part ≠ .loading ∧ up.link.restartDue = false
  decide +kernel

theorem takes_timed : Takes timed := by
  show timed.part ≠ .loading ∧ timed.link.restartDue = false
  decide +kernel

/-! ## Well-formed commands: each check refuses an ill-formed one -/

theorem test_refuses_empty_frame : wellFormed (.frameReceived []) = false := by decide
theorem test_refuses_known_kind_as_unknown : wellFormed (.unknownKind 0 0x3C) = false := by decide
theorem test_refuses_set_time_beyond_its_octets :
    wellFormed (.setTime 0 281474976710656 none) = false
    ∧ wellFormed (.setTime 0 0 (some 256)) = false := by decide +kernel
theorem test_refuses_reference_beyond_its_octets :
    wellFormed (.setReference 0 256 (defaultReference .satA)) = false
    ∧ wellFormed (.setReference 0 0 { defaultReference .satA with floor := 4294967296 }) = false := by
  decide +kernel
theorem test_refuses_slot_beyond_its_octet :
    wellFormed (.getReference 0 256) = false ∧ wellFormed (.lockout 0 256 true) = false
    ∧ wellFormed (.clearCounts 0 (some 255)) = false ∧ wellFormed (.label 0 256 0) = false
    ∧ wellFormed (.label 0 0 281474976710656) = false := by decide +kernel
theorem test_refuses_sample_beyond_its_octets :
    wellFormed (.sample 0 65536 0 0 .A) = false
    ∧ wellFormed (.sample 0 0 9223372036854775808 0 .A) = false
    ∧ wellFormed (.sample 0 0 0 4294967296 .A) = false := by decide +kernel
theorem test_refuses_records_beyond_their_octets :
    wellFormed (.setFilter 0 { defaultFilter with length := 256 }) = false
    ∧ wellFormed (.setSelection 0 { defaultSelection with minDwell := 65536 }) = false
    ∧ wellFormed (.setServo 0 { defaultServo with kp := 256 }) = false
    ∧ wellFormed (.setHoldover 0 { defaultHoldover with drift := 32768 }) = false
    ∧ wellFormed (.setPort 0 0 { defaultPort with rearm := 65536 }) = false
    ∧ wellFormed (.setPort 0 256 defaultPort) = false
    ∧ wellFormed (.setChain 0 { defaultChain with hop := 16777216 }) = false
    ∧ wellFormed (.setAlarm 0 none
        { severity := .minor, raiseDelay := 256, clearDelay := 0, latch := false }) = false := by
  decide +kernel
theorem test_refuses_numbers_beyond_their_octets :
    wellFormed (.getHistory 0 256 1) = false ∧ wellFormed (.enablePort 0 256) = false
    ∧ wellFormed (.disablePort 0 256) = false ∧ wellFormed (.getPort 0 256) = false
    ∧ wellFormed (.adjustPort 0 0 2147483648) = false
    ∧ wellFormed (.chainCommand 0 none 256 none) = false
    ∧ wellFormed (.chainCommand 0 none 0 (some { dir := .insert, due := 281474976710656 })) = false
    ∧ wellFormed (.schedule 0 none 281474976710656 none) = false
    ∧ wellFormed (.schedule 0 none 0 (some 256)) = false ∧ wellFormed (.cancel 0 65536) = false
    ∧ wellFormed (.ackAlarm 0 (.entry .holdover 256)) = false
    ∧ wellFormed (.getNotices 0 256) = false := by decide +kernel
theorem test_refuses_a_block_named_twice : wellFormed (.secondBoundary [.servo, .servo]) = false := by
  decide
theorem test_refuses_no_edges_at_a_boundary :
    wellFormed (.secondBoundary [.edges .lineA 0]) = false
    ∧ wellFormed (.secondBoundary [.edges .lineA 1]) = true := by decide
theorem test_refuses_an_instant_outside_its_second :
    wellFormed (.satPulse .satA 1000000000000) = false
    ∧ wellFormed (.lineEdge .lineA 1000000000000 1) = false ∧ wellFormed (.lineEdge .lineA 0 0) = false
    ∧ wellFormed (.chainMarker .a 1000000000000) = false
    ∧ wellFormed (.chainFrame .a 1000000000000 [] false) = false := by decide +kernel
theorem test_refuses_an_entry_that_does_not_exist :
    wellFormed (.raiseDelayExpiry .refLoss 6) = false
    ∧ wellFormed (.clearDelayExpiry .holdover 1) = false := by decide
theorem test_refuses_a_body_length_that_fits : wellFormed (.overlongBodyLength 512) = false := by
  decide

/-! ## Results from the spec's worked examples and tables -/

/-- The state after a command. -/
def after (c : Instr) (s : State) : State :=
  match exec c s with
  | .next t => t
  | .fault _ => s
  | .refused _ => s

/-- R5's table. -/
theorem test_phase_error_table :
    phaseSeconds 2500 = 0 ∧ phaseFraction 2500 = 2500
    ∧ phaseSeconds 500000000001 = 1 ∧ phaseFraction 500000000001 = -499999999999
    ∧ phaseSeconds (-1000000000250) = -1 ∧ phaseFraction (-1000000000250) = -250
    ∧ phaseSeconds 3000000000000 = 3 ∧ phaseFraction 3000000000000 = 0 := by decide +kernel

/-- The worked update of 5.13: shifts 4 and 10, P 156, ΔI 2, I 12,347 and F 12,503. -/
theorem test_worked_update :
    let m := phaseMove defaultServo .locked 1 2500 12345 12400
    m.terms.shiftP = some 4 ∧ m.terms.shiftI = 10 ∧ m.terms.p = some 156 ∧ m.terms.deltaI = 2
    ∧ m.estimate = 12347 ∧ m.correction = 12503 ∧ m.terms.rampLimited = false := by decide +kernel

/-- Ties of 5.13 round away from zero. -/
theorem test_ties_round_away : shiftTerm (-24) 4 = -2 ∧ shiftTerm 24 4 = 2 := by decide +kernel

/-- Row 9,005 of "From holdover to lock" (5.13): the ramp limits F to 39,022. -/
theorem test_ramp_limited_update :
    let m := phaseMove defaultServo .locked 0 6000 36522 44022
    m.estimate = 36545 ∧ m.terms.target = 37295 ∧ m.correction = 39022
    ∧ m.terms.rampLimited = true := by decide +kernel

/-- R46's example and the worked sequence of 3.6. -/
theorem test_sequence_wraps :
    newerSequence (some 65534) 3 = true ∧ newerSequence (some 65534) 65533 = false
    ∧ skippedSequences (some 65534) 3 = 4 := by decide +kernel

/-- Event E2 of 1.9: the boundary that a pending SET_TIME gives its second. -/
theorem test_pending_set_time :
    let s := after (.secondBoundary []) (after (.setTime 1 1700000000 (some 37))
      { up with time := { up.time with base := 41, frac := 600000000000 } })
    s.time.base = 1700000000 ∧ s.time.frac = 0 ∧ s.time.timeSet = true ∧ s.time.offset = 37
    ∧ s.time.pendingSet = none ∧ s.time.stepCount = 0 ∧ utcSeconds s.time = some 1699999963
    ∧ s.servo.token = true := by decide +kernel

/-- Event E4 of 1.9: the phase step carries the count into the next second and moves a capture. -/
theorem test_phase_step_carries :
    let s := performStep .phase 1500000
      (chainWith (fun c => { c with portA := { c.portA with capture := some 5 } })
        { up with
          time := { up.time with timeSet := true, base := 1700000300, frac := 999999000000 } })
    s.time.base = 1700000301 ∧ s.time.frac = 500000 ∧ s.time.stepCount = 1 ∧ s.servo.token = false
    ∧ s.chain.portA.capture = some 1500005 := by decide +kernel

/-- The adjustments of 7.9 at the emission instants of seconds 011 and 013. -/
theorem test_adjustment_served_in_parts :
    moveHead 2000000 (some 10000) { requested := 25000, remainder := 25000 }
      = { delay := 2010000, stays := some { requested := 25000, remainder := 15000 }, done := none }
    ∧ moveHead 2020000 (some 10000) { requested := 25000, remainder := 5000 }
      = { delay := 2025000, stays := none, done := some (25000, false) } := by decide +kernel

/-- Event E1 of 11.8: in LOADING GET_STATUS is answered OK and SET_TIME NOT_READY. -/
theorem test_requests_while_loading :
    (after (.getStatus 1) State.reset).link.replies.map (fun r => r.answer.status) = [.ok]
    ∧ (after (.setTime 2 5 none) State.reset).link.replies.map (fun r => r.answer.status)
      = [.notReady]
    ∧ (after (.setTime 2 5 none) State.reset).time.pendingSet = none := by decide +kernel

/-- Event E3 of 11.8: of four requests one is taken, two are buffered and one is an overrun. -/
theorem test_four_requests_without_reading :
    let send (tag : Byte) (kind : Byte) := Instr.frameReceived (encodeControl kind tag [])
    let s := after (send 13 0x3C) (after (send 12 0x3E) (after (send 11 0x02) (after (send 10 0x3D) up)))
    s.part = .saving ∧ s.link.overruns = 1 ∧ bufferedCount s.link.waiting = 2
    ∧ overrunCount s.link.waiting = 1 ∧ s.link.replies.map Reply.tag = [10] := by decide +kernel

/-- R183's frame: the sync octet, the length, the kind, the tag, the body and two check octets. -/
theorem test_control_frame_layout :
    (encodeControl 0x09 7 [3]).take 6 = [0xA5, 0x00, 0x01, 0x09, 7, 3]
    ∧ (encodeControl 0x09 7 [3]).length = 8 := by decide +kernel

/-- R191: slots and ports use their numbers, and none is 0xFF; R169: chain port A is 0, B is 1. -/
theorem test_upstream_codes :
    putUpstream (some .a) = [0x00] ∧ putUpstream (some .b) = [0x01] ∧ putUpstream none = [0xFF]
    ∧ putDetail (.chainPathSwitch none (some .b) .attach) = [0xFF, 0x01, 0x00] := by decide +kernel

/-- The published check value of this CRC-16 over the nine ASCII digits 1 to 9. -/
theorem test_check_sequence :
    checkOctets [0x31, 0x32, 0x33, 0x34, 0x35, 0x36, 0x37, 0x38, 0x39] = [0x29, 0xB1] := by
  decide +kernel

/-! ## States and operands that meet the hypotheses of each statement -/

theorem witness_StepRunsFrontCommand :
    (waiting (.getTime 1) up).pending = .getTime 1 :: [] := rfl

/-- The time base in this second, at this fraction. -/
def standing (base frac : Nat) (s : State) : State :=
  s.setTime { s.time with base := base, frac := frac }

theorem witness_EmptyQueueCountsOneNominalPicosecond :
    let edge := standing 5 999999999999 timed
    let last := standing 281474976710655 999999999998 up
    up.pending = [] ∧ settle up = up ∧ up.part ≠ .loading ∧ up.time.endOfRange = false
    ∧ up.time.rem < 1000000000000 ∧ up.time.correction.natAbs < 1000000000000
    ∧ up.time.frac + 1 < 1000000000000 ∧ settle edge = edge ∧ edge.time.frac + 1 = 1000000000000
    ∧ edge.time.base < Config.maxSeconds ∧ settle last = last ∧ last.time.base = Config.maxSeconds
    ∧ (idle edge).time.base = 6 ∧ (idle edge).time.frac = 0 ∧ (idle last).time.endOfRange = true := by
  decide +kernel

theorem up_lawful : Lawful up :=
  enterRunning_lawful none 3#3 State.reset (fun q h => by cases h)

theorem up_timeLaw : TimeLaw up.time where
  base := by decide +kernel
  frac := by decide +kernel
  rem := by decide +kernel
  pending := fun p h => by
    have e : up.time.pendingSet = none := by decide +kernel
    rw [e] at h; cases h

theorem up_tableLaw : TableLaw up := by
  have e : up.scheduler.table = [] := by decide +kernel
  exact ⟨by rw [e]; decide, by rw [e]; simp, by rw [e]; exact .nil, by rw [e]; exact .nil⟩

theorem up_linkLaw : LinkLaw up.link :=
  ⟨by decide +kernel, by decide +kernel, fun _ _ => by decide +kernel⟩

theorem waiting_lawful (c : Instr) (s : State) (h : Lawful s) : Lawful (waiting c s) :=
  ⟨h.alarms, ⟨h.frequency.estimate, h.frequency.correction⟩, h.delays, h.ports, h.history, h.levels⟩

theorem waiting_steps (s : State) : ∃ t, step (waiting (.getTime 1) s) = .next t := ⟨_, rfl⟩

theorem witness_StepsKeepTheAlarmLaw :
    AlarmLaw (waiting (.getTime 1) up).alarms ∧ ∃ t, step (waiting (.getTime 1) up) = .next t :=
  ⟨(waiting_lawful _ _ up_lawful).alarms, waiting_steps up⟩

theorem witness_StepsKeepFrequencyWithinThePullRange :
    FrequencyLaw (waiting (.getTime 1) up) ∧ ∃ t, step (waiting (.getTime 1) up) = .next t :=
  ⟨(waiting_lawful _ _ up_lawful).frequency, waiting_steps up⟩

theorem witness_StepsKeepTheSelection :
    Tracks up ∧ SelectionLaw up
    ∧ ∃ t, step up = .next t :=
  ⟨(enterRunning_selection none 3#3 State.reset).1, (enterRunning_selection none 3#3 State.reset).2,
   _, rfl⟩

theorem witness_StepsKeepLevelsHistoryAndDelays :
    LevelLaw up ∧ HistoryLaw up ∧ DelayLaw up ∧ ∃ t, step up = .next t :=
  ⟨up_lawful.levels, up_lawful.history, up_lawful.delays, _, rfl⟩

theorem witness_StepsKeepPortsUnderTheGrade :
    (GradeLaw up ∧ SquelchLaw up) ∧ ∃ t, step up = .next t := ⟨up_lawful.ports, _, rfl⟩

theorem witness_StepsKeepTheTimeBaseAndTheTable :
    (TimeLaw up.time ∧ TableLaw up) ∧ ∃ t, step up = .next t := ⟨⟨up_timeLaw, up_tableLaw⟩, _, rfl⟩

theorem witness_StepsKeepTheLinkAndLoading :
    LinkLaw up.link ∧ LoadingLaw State.reset ∧ State.reset.part = .loading
    ∧ (∃ t, step up = .next t) ∧ ∃ t, step State.reset = .next t :=
  ⟨up_linkLaw,
   ⟨fun _ => rfl, fun _ => rfl, fun _ r h => by cases h⟩, rfl, ⟨_, rfl⟩, _, rfl⟩

/-- A part whose time is set and whose port 0 and chain have sent second 5. -/
def sent : State :=
  chainWith (fun c => { c with lastSent := some 5 }) (portWith (fun x => { x with lastEmitted := some 5 }) timed)

theorem witness_OnlyPinResetUndoesWhatIsSetOrSent :
    sent.part ≠ .loading ∧ (∀ m rest, sent.pending ≠ .pinReset m :: rest)
    ∧ (∀ m rest, (waiting (.getTime 1) sent).pending ≠ .pinReset m :: rest)
    ∧ (∃ t, step sent = .next t) ∧ (∃ t, step (waiting (.getTime 1) sent) = .next t)
    ∧ sent.time.timeSet = true ∧ (sent.port 0).lastEmitted = some 5 ∧ sent.chain.lastSent = some 5
    ∧ (after (.pinReset .uart) sent).time.timeSet = false :=
  ⟨by decide +kernel, nofun, fun _ _ h => by simp [waiting] at h, ⟨_, rfl⟩, ⟨_, rfl⟩, by decide +kernel⟩

theorem getTime_next (s : State) : exec (.getTime 1) s = .next (after (.getTime 1) s) := rfl

/-- A word waits in the inbox, and a request behind the reply being sent. -/
def holdingWord (q : Request) : State :=
  linkWith (fun k => { k with replies := [sending false], waiting := [.request q] })
    (chainWith (fun c => { c with inbox := some { word := 1, origin := 0, second := 5 } }) timed)

theorem witness_InboxKeepsItsWord :
    let s := holdingWord { kind := 0x02, tag := 1, body := [] }
    let f := waiting (.frameReceived (encodeControl 0x02 0x2D [])) s
    s.part ≠ .loading ∧ s.link.restartDue = false ∧ s.pending = []
    ∧ (∃ t, step s = .next t) ∧ (∃ t, step f = .next t)
    ∧ (∃ t, step (waiting (.getTime 1) s) = .next t) ∧ (∃ t, step (waiting .replySent s) = .next t)
    ∧ s.chain.inbox = some { word := 1, origin := 0, second := 5 }
    ∧ s.link.waiting = .request { kind := 0x02, tag := 1, body := [] } :: [] ∧ (0x02 : Byte) ≠ 0x2D
    ∧ ([] : List Byte).length ≤ 512 ∧ (0x2D : Byte) ∉ encodeControl 0x02 1 []
    ∧ (after .replySent (holdingWord { kind := 0x2D, tag := 1, body := [] })).chain.inbox = none
    ∧ (after .replySent s).chain.inbox = s.chain.inbox :=
  ⟨by decide +kernel, by decide +kernel, by decide +kernel, ⟨_, rfl⟩, ⟨_, rfl⟩, ⟨_, rfl⟩, ⟨_, rfl⟩,
   by decide +kernel⟩

/-- A frame with every field at the end of its range. -/
def fullFrame : TimeFrame :=
  { path := [6, 5, 4, 3, 2, 1, 0], second := 281474976710655, sequence := 15, grade := .F,
    offset := 255, leap := some { dir := .delete, due := 281474976710655 }, allowance := 1000000000,
    word := some 0xFFFFFFFF,
    command := some { kind := .leap, target := 7, sequence := 255,
                      arg := some { dir := .insert, due := 281474976710655 } } }

theorem witness_ChainFramesReadBackAsSent :
    1 ≤ fullFrame.path.length ∧ fullFrame.path.length ≤ 7 ∧ (∀ a ∈ fullFrame.path, a ≤ 6)
    ∧ fullFrame.path.Nodup ∧ fullFrame.second ≤ Config.maxSeconds ∧ fullFrame.sequence ≤ 15
    ∧ fullFrame.offset ≤ 255 ∧ fullFrame.leap = some { dir := .delete, due := Config.maxSeconds }
    ∧ fullFrame.allowance ≤ Config.maxAllowance
    ∧ fullFrame.command = some { kind := .leap, target := 7, sequence := 255,
                                 arg := some { dir := .insert, due := Config.maxSeconds } }
    ∧ decodeFrame (encodeFrame fullFrame) = some fullFrame := by decide +kernel

theorem witness_PhaseErrorsSplitAtHalfASecond :
    (0 : Int) - 500000000000 ≤ 0 * 1000000000000 ∧ 499999999999 < 1000000000000
    ∧ 500000000000 < 1000000000000 ∧ nearestSecond 1499999999999 = 1
    ∧ nearestSecond 1500000000000 = 2 := by decide +kernel

theorem witness_SequenceNumbersCompareWithWrap :
    65534 ≤ 65535 ∧ 3 ≤ 65535 ∧ 5 ≤ 65535 ∧ (65534 + 5) % 65536 = 3
    ∧ (1 + 32767) % 65536 = 32768 ∧ (1 + 32768) % 65536 = 32769 := by decide

/-- A holdover one boundary below the end of its count. -/
def heldOver : State :=
  let s := inServo .holdover timed
  s.setHoldover
    { s.holdover with fh := some 7, e0 := some 20, u := some 3, n := 4294967294, tee := some 20 }

/-- A ring of entries with these averages, newest first. -/
def ringed (l : List Int) (s : State) : State :=
  s.setHoldover
    { s.holdover with
      history := l.map fun x => { average := x, stamp := 0, slot := .satA, state := .locked, level := 0 } }

/-- LINE-A followed in FREQ_LOCKED, the estimate 1 ps below its end. -/
def drifting : State :=
  let s := slotWith .lineA (fun m => { m with config := { m.config with uLine := some 7 } }) timed
  let s := s.setServo { s.servo with state := .freqLocked, followed := some .lineA }
  s.setHoldover { s.holdover with tee := some 999999999999 }

theorem witness_HoldoverFollowsItsClosedForm :
    let s := inServo .locked (ringed [1, 2, 9, 4] timed)
    heldOver.servo.state = .holdover ∧ heldOver.holdover.fh = some 7
    ∧ heldOver.holdover.e0 = some 20 ∧ heldOver.holdover.u = some 3
    ∧ heldOver.holdover.n < 4294967295 ∧ s.servo.state = .locked
    ∧ s.holdover.config.guard < s.holdover.history.length
    ∧ (inServo .acquiring (ringed [1, 2] timed)).holdover.history.length
      ≤ s.holdover.config.guard
    ∧ (inServo .freqLocked timed).servo.state = .freqLocked
    ∧ drifting.servo.followed = some .lineA ∧ (drifting.ref .lineA).config.uLine = some 7
    ∧ drifting.servo.state = .freqLocked ∧ drifting.holdover.tee = some 999999999999
    ∧ (estimateSecond drifting).holdover.tee = some 1000000000000
    ∧ (servoSwitch none s).holdover.fh = some 7 ∧ (servoSwitch none s).holdover.u = some 5
    ∧ (servoSwitch none s).holdover.used = 2 := by decide +kernel

theorem witness_UpdatesMoveTheLoop :
    let s := inServo .locked timed
    (inServo .acquiring up).servo.state = .acquiring
    ∧ (inServo .acquiring up).servo.replacement = false
    ∧ ¬ ((inServo .acquiring up).servo.config.stepThreshold < (1000000 : Int).natAbs
        ∧ (inServo .acquiring up).servo.token = true)
    ∧ (inServo .locked up).servo.state = .locked ∧ (inServo .locked up).servo.replacement = false
    ∧ (inServo .freqLocked up).servo.state = .freqLocked ∧ up.servo.state = .freerun
    ∧ s.servo.state = .locked ∧ s.servo.replacement = false
    ∧ s.servo.config.stepThreshold < (-2000000 : Int).natAbs ∧ s.servo.token = true
    ∧ ((5249998000000 : Nat) : Int)
      = max 0 (min 281474976710655999999999999 ((s.reading : Int) + -2000000))
    ∧ s.scheduler.table = []
    ∧ ((0 : Nat) : Int) = max 0 (min 281474976710655999999999999
        (((standing 0 0 s).reading : Int) + -2000000))
    ∧ (standing 0 0 s).reading = 0 := by decide +kernel

/-- Where an update leaves the servo: its state, the lock run and the unlock run. -/
def runsAfter (e : Int) (s : State) : Option (ServoState × Nat × Nat) :=
  (servoUpdate e 0 s).map fun u =>
    (u.result.servo.state, u.result.servo.lockRun, u.result.servo.unlockRun)

theorem witness_UpdatesMoveTheLoop_judgement :
    let run (v : ServoState) (n m : Nat) : State :=
      (inServo v up).setServo
        { (inServo v up).servo with lockRun := n, unlockRun := m, token := false }
    let c := up.servo.config
    (run .acquiring 0 0).servo.replacement = false ∧ min 255 (0 + 1) < c.lockCount
    ∧ c.lockCount ≤ min 255 (c.lockCount - 1 + 1)
    ∧ runsAfter (c.lockThreshold + 1) (run .acquiring 5 2) = some (.acquiring, 0, 2)
    ∧ runsAfter c.lockThreshold (run .acquiring 0 2) = some (.acquiring, 1, 2)
    ∧ runsAfter (-(c.lockThreshold : Int)) (run .acquiring (c.lockCount - 1) 2) = some (.locked, 0, 0)
    ∧ runsAfter c.unlockThreshold (run .locked 7 2) = some (.locked, 7, 0)
    ∧ runsAfter (c.unlockThreshold + 1) (run .locked 7 1) = some (.locked, 7, 2)
    ∧ runsAfter (-(c.unlockThreshold : Int) - 1) (run .locked 7 2) = some (.acquiring, 0, 0) := by
  decide +kernel

/-- A clean report of SAT-A at the boundary of second `n`. -/
def report (v : ServoState) (n : Nat) : UpdateReport × Nat :=
  ({ state := v, slot := .satA, level := 1, estimate := 12510, step := none },
   n * Config.second)

theorem witness_MinutesFormHistoryEntries :
    let l := (List.range 60).map (report .locked)
    let mixed := report .freqLocked 0 :: (List.range 59).map (report .locked)
    (holdoverAtReset defaultHoldover).openPart = emptyPart 0 false
    ∧ (emptyPart 0 false).start = 0 ∧ (emptyPart 0 true).spoiled = true
    ∧ (∀ x ∈ l, (0 : Int) ≤ nearestSecond x.2 ∧ nearestSecond x.2 ≤ 0 + 59)
    ∧ (∀ x ∈ l, x.1.state = .locked ∧ x.1.slot = .satA ∧ x.1.step = none) ∧ l.length = 60
    ∧ (l.take 59).length ≠ 60 ∧ mixed.length = 60
    ∧ (∃ x ∈ mixed, ∃ y ∈ mixed, x.1.state ≠ y.1.state ∨ x.1.slot ≠ y.1.slot)
    ∧ (∃ x ∈ [report .acquiring 59], x.1.state = .acquiring ∨ x.1.step.isSome = true)
    ∧ (closeMinute 60
        (l.foldl (fun h x => fileReport x.1 x.2 h) (holdoverAtReset defaultHoldover))).history
      = [{ average := 12510, stamp := 0, slot := .satA, state := .locked, level := 1 }] := by
  decide +kernel

theorem witness_ReadsAnswerAndChangeNothing :
    Takes up ∧ State.reset.link.restartDue = false ∧ 5 < 6 ∧ 11 < 12
    ∧ (63 ≤ 63 ∧ 1 ≤ 16 ∧ 16 ≤ 16) := ⟨takes_up, by decide +kernel⟩

theorem witness_LoadingAnswersNotReady :
    requestOf (.getTime 9) = some (0x02, 9) ∧ (0x02 : Byte) ≠ 0x3C ∧ State.reset.part = .loading
    ∧ State.reset.link.restartDue = false := by decide +kernel

theorem timed_timeLaw : TimeLaw timed.time where
  base := by decide +kernel
  frac := by decide +kernel
  rem := by decide +kernel
  pending := fun p h => by
    have e : timed.time.pendingSet = none := by decide +kernel
    rw [e] at h; cases h

/-- A measurement of a satellite slot that carries so many seconds. -/
def carrying (d : Int) : Measurement := { value := 40, ds := some d, grade := none, allowance := some 0 }

/-- SAT-A qualified and followed, in a servo state. -/
def followingA (v : ServoState) (s : State) : State :=
  let s := inServo v (slotWith .satA (fun m => { m with state := .qualified, signal := true }) s)
  (s.setSelector { s.selector with selected := some .satA }).setServo
    { s.servo with followed := some .satA }

theorem witness_SetTimeWithoutAStep :
    Takes up ∧ up.time.timeSet = false ∧ (some 255 : Option Nat).getD 0 ≤ 255
    ∧ Config.maxSeconds < 281474976710656 ∧ 255 < (some 256 : Option Nat).getD 0
    ∧ timed.time.timeSet = true ∧ timed.servo.state ≠ .acquiring ∧ timed.servo.state ≠ .locked
    ∧ (inServo .acquiring timed).servo.state = .acquiring
    ∧ (inServo .locked timed).servo.state = .locked ∧ 6 = timed.time.base + 1
    ∧ ((8250000000000 : Nat) : Int)
      = max 0 (min 281474976710655999999999999 ((timed.reading : Int) + 3 * 1000000000000))
    ∧ ((0 : Nat) : Int)
      = max 0 (min 281474976710655999999999999 ((up.reading : Int) + -1 * 1000000000000))
    ∧ (followingA .acquiring up).servo.followed = some .satA
    ∧ (followingA .acquiring up).time.timeSet = false ∧ (carrying 3).ds = some 3
    ∧ up.servo.followed ≠ some .satA :=
  ⟨takes_up, by decide +kernel⟩

theorem witness_UpdatesMoveTheLoop_seconds :
    let s := followingA .locked timed
    isLine .satA = false ∧ s.servo.followed = some .satA ∧ s.time.timeSet = true
    ∧ s.scheduler.table = [] ∧ (carrying 3).ds = some 3 ∧ (carrying 0).ds = some 0
    ∧ ((8250000000000 : Nat) : Int)
      = max 0 (min 281474976710655999999999999 ((s.reading : Int) + 3 * 1000000000000))
    ∧ 8250000000000 ≠ s.reading
    ∧ ((5250000000000 : Nat) : Int)
      = max 0 (min 281474976710655999999999999 ((s.reading : Int) + 0 * 1000000000000))
    ∧ 5250000000000 = s.reading
    ∧ (handoff .satA (carrying 3) true s).time.base = 8
    ∧ ((handoff .satA (carrying 3) true s).servo.lastUpdate.map UpdateRecord.step)
      = some (some .seconds) := by decide +kernel

/-- An action of this kind. -/
def pendingAction (id due : Nat) (k : ActionKind) : Action :=
  { id := id, kind := k, due := due, arg := none, source := .host }

/-- Two leaps wait, a minute and a day and a second ahead. -/
def leaping : State :=
  refreshLeap (timed.setScheduler
    { table := [pendingAction 2 65 .leapInsert, pendingAction 1 86406 .leapDelete], dueIds := []
      nextId := 3, wrapped := false })

theorem leaping_tableLaw : TableLaw leaping :=
  ⟨by decide +kernel, by decide +kernel, by decide +kernel, by decide +kernel⟩

theorem witness_SetTimeStepsAtOnce :
    TimeLaw timed.time ∧ Takes timed ∧ timed.time.timeSet = true ∧ timed.servo.state ≠ .acquiring
    ∧ timed.servo.state ≠ .locked ∧ 1 ≤ 281474976710655 ∧ 281474976710655 ≤ Config.maxSeconds
    ∧ (some 255 : Option Nat).getD 0 ≤ 255 ∧ 281474976710655 ≠ timed.time.base + 1
    ∧ 1 ≠ timed.time.base + 1 ∧ TableLaw leaping
    ∧ leaping.time.leap = earliestLeap leaping.scheduler.table
    ∧ (after (.setTime 1 66 none) leaping).scheduler.table = [pendingAction 1 86406 .leapDelete]
    ∧ (after (.setTime 1 66 none) leaping).time.offset = 1 :=
  ⟨timed_timeLaw, takes_timed, by decide +kernel, by decide +kernel, by decide +kernel,
   by decide +kernel, by decide +kernel, by decide +kernel, by decide +kernel, by decide +kernel,
   leaping_tableLaw, by decide +kernel⟩

theorem witness_SetReferenceConfiguresTheSlot :
    let c := defaultReference .satA
    Takes up ∧ 5 < 6
    ∧ referenceOk .satA (normalizeReference .satA { c with floor := 0 }) = false
    ∧ referenceOk .satA (normalizeReference .satA { c with enabled := false }) = true
    ∧ referenceOk .satA (normalizeReference .satA c) = true ∧ c.enabled = true
    ∧ (up.ref .satA).config = normalizeReference .satA c
    ∧ (up.ref .satA).config.enabled = true
    ∧ (up.ref .satA).config ≠ normalizeReference .satA { c with priority := 2 }
    ∧ referenceOk .satA (normalizeReference .satA { c with priority := 2 }) = true
    ∧ (up.ref .pkt).config.enabled = false
    ∧ referenceOk .pkt (normalizeReference .pkt { defaultReference .pkt with enabled := true })
      = true := ⟨takes_up, by decide +kernel⟩

theorem witness_LockoutWritesTheFlag :
    Takes up ∧ (up.ref .satA).lockedOut = false ∧ (up.ref .satA).lockedOut ≠ true ∧ 5 < 6 :=
  ⟨takes_up, by decide +kernel⟩

theorem witness_CountsAreClearedAndLabelsPend :
    Takes up ∧ 5 < 6 ∧ 281474976710655 ≤ Config.maxSeconds
    ∧ (up.ref (satSlot .satA)).state ≠ .disabled
    ∧ ((slotWith .satA (fun m => { m with state := .disabled }) up).ref (satSlot .satA)).state
      = .disabled
    ∧ 2 ≤ 2 ∧ Config.maxSeconds < 281474976710656 := ⟨takes_up, by decide +kernel⟩

/-- The PKT slot enabled, with the last sequence of R46's example. -/
def sampled : State :=
  let s := slotWith .pkt (fun m => { m with state := .absent }) timed
  s.setFilter { s.filter with lastSequence := some 65534 }

theorem witness_SampleIsJudgedInOrder :
    Takes sampled ∧ 65535 < 65536
    ∧ ¬ (65535 < 3 ∨ 9000000000000000000 < (-9000000000000000000 : Int).natAbs
        ∨ 1000000000 < 1000000000)
    ∧ (timed.ref .pkt).state = .disabled ∧ (sampled.ref .pkt).state ≠ .disabled
    ∧ newerSequence sampled.filter.lastSequence 65533 = false
    ∧ newerSequence sampled.filter.lastSequence 3 = true
    ∧ sampled.filter.config.ceiling < 5000001 ∧ 5000000 ≤ sampled.filter.config.ceiling
    ∧ sampled.filter.window.length ≤ 64 ∧ (sampled.ref .pkt).state = .absent
    ∧ (sampled.ref .pkt).signal = false :=
  ⟨⟨by decide +kernel, by decide +kernel⟩, by decide +kernel⟩

theorem witness_FilterIsConfiguredAndRead :
    Takes up ∧ filterOk { length := 64, ceiling := 1000000000 } = true
    ∧ filterOk { length := 65, ceiling := 0 } = false := ⟨takes_up, by decide +kernel⟩

/-- The PKT monitor with so many epochs missing, and samples of path delay 7, 5, 5 and 9 in the window of
length 2; the first arrived in second 3. -/
def windowedPkt (v : MonitorState) (signal : Bool) (missing : Nat) : State :=
  let x (q d n : Nat) : Sample := { sequence := q, offset := 40, delay := d, grade := .B, arrival := n }
  let s := slotWith .pkt (fun m => { m with state := v, signal := signal, missing := missing }) timed
  s.setFilter
    { s.filter with
      config := { s.filter.config with length := 2 }, window := [x 1 3 3, x 2 5 4, x 3 5 5, x 4 9 5] }

theorem witness_FilterIsConfiguredAndRead_boundary :
    let s (b : Bool) (n : Nat) := windowedPkt .qualified b n
    let aged (n : Nat) := (s true 0).filter.window.filter fun x =>
      decide (n ≤ x.arrival + (s true 0).filter.config.length)
    (timed.ref .pkt).state = .disabled ∧ ((s true 0).ref .pkt).state = .qualified
    ∧ (aged 6).length = 3 ∧ (aged 7).length = 2 ∧ aged 8 = [] ∧ ((s true 6).ref .pkt).missing < 7
    ∧ ((s false 9).ref .pkt).signal = false ∧ 7 ≤ ((s true 7).ref .pkt).missing
    ∧ ((s true 7).ref .pkt).signal = true ∧ aged 6 ≠ []
    ∧ ((blockActs 6 (s true 0) .filter).filter.copy.map FilterCopy.sequence) = some 3
    ∧ ((blockActs 6 (s true 0) .filter).ref .pkt).state = .qualified
    ∧ ((blockActs 8 (s true 7) .filter).ref .pkt).state = .failed
    ∧ ((blockActs 8 (s true 6) .filter).ref .pkt).state = .qualified := by decide +kernel

theorem witness_SetSelectionEvaluatesAtOnce :
    Takes up ∧ 600 < ({ defaultSelection with minDwell := 601 } : SelectionConfig).minDwell
    ∧ ({ defaultSelection with minDwell := 600 } : SelectionConfig).minDwell ≤ 600
    ∧ candidate (slotWith .satA (fun m => { m with state := .qualified }) up) .satA = true :=
  ⟨takes_up, by decide +kernel⟩

theorem witness_ServoIsConfiguredAndAllowedAStep :
    Takes up ∧ servoOk { defaultServo with ki := 3 } = false ∧ servoOk defaultServo = true
    ∧ up.servo.config.pullRange = defaultServo.pullRange
    ∧ servoOk { defaultServo with pullRange := 1000 } = true
    ∧ up.servo.config.pullRange ≠ 1000 := ⟨takes_up, by decide +kernel⟩

theorem witness_HoldoverIsConfiguredAndItsHistoryCleared :
    let tee (n : Nat) := inServo .holdover
      (timed.setHoldover { timed.holdover with tee := some n })
    Takes up ∧ holdoverOk { defaultHoldover with guard := 9 } = false
    ∧ holdoverOk { defaultHoldover with guard := 8 } = true ∧ up.time.timeSet = false
    ∧ timed.time.timeSet = true ∧ (followingA .locked timed).servo.followed = some .satA
    ∧ ((followingA .locked timed).ref .satA).config.declaredGrade = some .A
    ∧ (inServo .locked timed).servo.followed = none
    ∧ (inServo .acquiring timed).servo.state = .acquiring
    ∧ (tee 750000).holdover.tee = some 750000
    ∧ gradeNow (tee 750000) = .B ∧ gradeNow (tee 750001) = .C ∧ gradeNow (tee 1000000) = .C
    ∧ gradeNow (tee 1000001) = .D ∧ timed.servo.state = .freerun := ⟨takes_up, by decide +kernel⟩

theorem witness_SetPortHoldsThePort :
    Takes up ∧ 11 < 12 ∧ portOk { defaultPort with delayComp := 10000001 } = false
    ∧ portOk { defaultPort with delayComp := 10000000 } = true ∧ (up.port 0).state = .off
    ∧ ((portWith (fun x => { x with state := .active }) up).port 0).state ≠ .off
    ∧ ((portWith (fun x => { x with state := .active }) up).port 0).state ≠ .held :=
  ⟨takes_up, by decide +kernel⟩

theorem witness_PortsAreEnabledDisabledAndAdjusted :
    let full := portWith
      (fun x => { x with queue := List.replicate 8 { requested := 1, remainder := 1 } }) up
    Takes up ∧ 11 < 12 ∧ (up.port 0).state = .off
    ∧ ((portWith (fun x => { x with state := .armed }) up).port 0).state ≠ .off
    ∧ ((portWith (fun x => { x with state := .armed }) up).port 0).state ≠ .held
    ∧ 10000000 < (10000001 : Int).natAbs ∧ (-10000000 : Int).natAbs ≤ 10000000
    ∧ (up.port 0).queue.length < 8 ∧ 8 ≤ (full.port 0).queue.length := ⟨takes_up, by decide +kernel⟩

theorem witness_SetChainAppliesTheRole :
    let attached := chainWith (fun c => { c with role := .member, upstream := some .a }) up
    Takes up ∧ chainOk { defaultChain with hop := 1000001 } = false ∧ chainOk defaultChain = true
    ∧ (if up.chain.address = 7 then ChainRole.off else defaultChain.role) = up.chain.role
    ∧ up.chain.upstream = none
    ∧ (if attached.chain.address = 7 then ChainRole.off else .member) = attached.chain.role
    ∧ attached.chain.upstream = some .a
    ∧ (if up.chain.address = 7 then ChainRole.off else .leader) ≠ up.chain.role :=
  ⟨takes_up, by decide +kernel⟩

/-- The part as leader, its command slot and outbox filled. -/
def leading : State :=
  chainWith
    (fun c =>
      { c with
        role := .leader, outbox := some 1
        commandSlot := some { kind := .hold, target := 7, sequence := 0, arg := none } }) up

theorem witness_ChainCommandsWaitInTheSlot :
    Takes up ∧ 7 < 8 ∧ 3 = up.chain.address ∧ up.chain.role ≠ .leader
    ∧ ¬ (7 < 7 ∨ 7 = up.chain.address
        ∨ ((none : Option Leap).isSome = true ↔ ChainCommandKind.hold ≠ .leap)
        ∨ ∃ l, (none : Option Leap) = some l ∧ Config.maxSeconds < l.due)
    ∧ leading.chain.role = .leader ∧ leading.chain.commandSlot.isSome = true
    ∧ (chainWith (fun c => { c with commandSlot := none }) leading).chain.commandSlot = none
    ∧ leading.chain.commandSlot = some { kind := .hold, target := 7, sequence := 0, arg := none } := by
  refine ⟨takes_up, by decide +kernel, by decide +kernel, by decide +kernel, ?_, by decide +kernel⟩
  have h : up.chain.address = 3 := by decide +kernel
  rw [h]
  simp

theorem witness_WordsArePostedAndFetched :
    Takes up ∧ up.chain.role ≠ .leader ∧ leading.chain.role = .leader
    ∧ leading.chain.outbox.isSome = true
    ∧ (chainWith (fun c => { c with outbox := none }) leading).chain.outbox = none :=
  ⟨takes_up, by decide +kernel⟩

/-- A pending action. -/
def action (id due : Nat) : Action :=
  { id := id, kind := .hold, due := due, arg := none, source := .host }

theorem witness_ScheduleEntersTheTable :
    let full := timed.setScheduler
      { table := (List.range 8).map (fun n => action (n + 1) (n + 7)), dueIds := [], nextId := 9, wrapped := false }
    Takes timed ∧ Config.maxSeconds < 281474976710656 ∧ argumentOk .select (some 6) = false
    ∧ argumentOk .select (some 5) = true ∧ 6 ≤ timed.time.base + 1 ∧ timed.time.base + 1 < 7
    ∧ 281474976710655 ≤ Config.maxSeconds ∧ 8 ≤ full.scheduler.table.length
    ∧ timed.scheduler.table.length < 8
    ∧ (∀ a ∈ timed.scheduler.table, a.id ≠ timed.scheduler.nextId)
    ∧ timed.scheduler.table.Pairwise (fun a b => actionBefore a b = true) :=
  ⟨takes_timed, by decide +kernel⟩

/-- R162: the counter passes the pending ids 65535 and 1, and comes round. -/
theorem test_ids_come_round :
    let s := timed.setScheduler
      { table := [action 65535 7, action 1 8], dueIds := [], nextId := 65535, wrapped := false }
    let t := after (.schedule 1 (some .hold) 9 none) s
    t.scheduler.table.map Action.id = [65535, 1, 2] ∧ t.scheduler.nextId = 3
    ∧ t.scheduler.wrapped = true := by decide +kernel

/-- One action waits. -/
def planned : State :=
  timed.setScheduler { table := [action 65535 7], dueIds := [], nextId := 1, wrapped := true }

theorem witness_CancelRemovesTheAction :
    Takes planned ∧ TableLaw planned ∧ 65535 < 65536 ∧ (∀ a ∈ planned.scheduler.table, a.id ≠ 1)
    ∧ action 65535 7 ∈ planned.scheduler.table ∧ (action 65535 7).id = 65535
    ∧ 0 < 65535 ∧ 65535 ≤ 65535 ∧ 65535 ∉ planned.scheduler.dueIds
    ∧ 65535 ∈ (markDue 7 planned).scheduler.dueIds ∧ (markDue 7 planned).part ≠ .loading
    ∧ (markDue 7 planned).link.restartDue = false
    ∧ action 65535 7 ∈ (markDue 7 planned).scheduler.table := by
  refine ⟨⟨by decide +kernel, by decide +kernel⟩, ⟨by decide +kernel, ?_, ?_, ?_⟩, by decide +kernel⟩
  · decide +kernel
  · decide +kernel
  · decide +kernel

/-- R163: an action that enters after the marking of the boundary of its second is not due there. -/
theorem test_action_entered_after_the_marking_waits :
    let s := markDue 7 (planned.setTime { planned.time with base := 7 })
    let back := s.setTime { s.time with base := 5 }
    let late := (enterAction (some .hold) 7 none .chain back).1
    late.scheduler.table.length = 2 ∧ (boundaryActions late).scheduler.table.map Action.id = [1]
    ∧ (boundaryActions late).scheduler.dueIds = [] := by decide +kernel

theorem witness_AlarmSettingsActAtOnce :
    Takes up ∧ AlarmLaw up.alarms
    ∧ alarmOk { severity := .minor, raiseDelay := 61, clearDelay := 0, latch := false } = false
    ∧ alarmOk { severity := .minor, raiseDelay := 60, clearDelay := 600, latch := true } = true :=
  ⟨takes_up, up_lawful.alarms, by decide +kernel⟩

theorem witness_AcknowledgingMovesEntriesByTheirState :
    Takes up ∧ alarmCount .refLoss ≤ 6 ∧ 5 < alarmCount .refLoss
    ∧ 0 < alarmCount .holdover ∧ 0 < alarmCount .noticeOverflow
    ∧ ((entryIn .raised up).alarms.entry? .holdover 0).map AlarmEntry.state = some .raised
    ∧ ((entryIn .pendingClear up).alarms.entry? .holdover 0).map AlarmEntry.state
      = some .pendingClear
    ∧ ((entryIn .latched up).alarms.entry? .holdover 0).map AlarmEntry.state = some .latched
    ∧ (up.alarms.entry? .holdover 0).map AlarmEntry.state = some .clear
    ∧ AlarmKind.holdover ≠ .noticeOverflow ∧ up.alarms.queue.length < 32
    ∧ (entryIn .latched up).alarms.queue.length + 1 ≤ 32 := ⟨takes_up, by decide +kernel⟩

/-- The notice queue has overflowed. -/
def dropping : State := up.setAlarms { up.alarms with dropped := 3 }

theorem dropping_lawful (s : State) (n : Nat) (h : AlarmLaw s.alarms) :
    AlarmLaw (s.setAlarms { s.alarms with dropped := n }).alarms :=
  ⟨h.queue, h.crit, h.maj, h.attention⟩

theorem witness_NoticesAreReadOldestFirst :
    Takes up ∧ AlarmLaw up.alarms ∧ AlarmLaw dropping.alarms ∧ 8 < 9 ∧ 1 ≤ 8 ∧ 8 ≤ 8
    ∧ up.alarms.dropped = 0 ∧ dropping.alarms.dropped ≠ 0 ∧ dropping.alarms.queue ≠ [] :=
  ⟨takes_up, up_lawful.alarms, dropping_lawful up 3 up_lawful.alarms, by decide +kernel⟩

/-- An overflowed queue, with the entry of NOTICE_OVERFLOW in a state. -/
def overflownUnit (v : EntryState) (present : Bool) (u : AlarmUnit) : AlarmUnit :=
  refreshOutputs ({ u with dropped := 3 }.setEntry .noticeOverflow 0
    { condition := present, state := v, acknowledged := false, timer := Timer.stopped,
      raisedAt := none, clearedAt := none, raiseCount := 0 })

theorem overflownUnit_lawful (v : EntryState) (b : Bool) (u : AlarmUnit) (h : AlarmLaw u) :
    AlarmLaw (overflownUnit v b u) := refreshOutputs_law h.queue

/-- The same in the whole part. -/
def overflown (v : EntryState) (present : Bool) : State :=
  up.setAlarms (overflownUnit v present up.alarms)

theorem overflown_lawful (v : EntryState) (b : Bool) : AlarmLaw (overflown v b).alarms :=
  overflownUnit_lawful v b _ up_lawful.alarms

theorem witness_NoticesAreReadOldestFirst_overflow :
    let read (s : State) := ((after (.getNotices 1 8) s).alarms.entry? .noticeOverflow 0).map
      fun e => (e.condition, e.state)
    (overflown .raised true).alarms.dropped ≠ 0 ∧ (overflown .raised true).alarms.queue ≠ []
    ∧ ((overflown .raised true).alarms.group .noticeOverflow).config.clearDelay ≠ 0
    ∧ read (overflown .raised true) = some (false, .pendingClear)
    ∧ read (overflown .pendingRaise true) = some (false, .clear)
    ∧ read (overflown .clear false) = some (false, .clear)
    ∧ read (after (.setAlarm 1 (some .noticeOverflow)
          { severity := .minor, raiseDelay := 0, clearDelay := 0, latch := true }) (overflown .raised true))
      = some (false, .latched) := by decide +kernel

/-- A save is running. -/
def saving : State := after (.saveProfile 1) up

theorem witness_ProfileIsSaved :
    Takes up ∧ Takes saving ∧ saving.part = .saving ∧ up.part = .running
    ∧ saving.link.saving = some (snapshot up) ∧ up.part ≠ .saving :=
  ⟨takes_up, ⟨by decide +kernel, by decide +kernel⟩, by decide +kernel⟩

theorem witness_RestartWaitsForItsReply :
    let q : Request := { kind := 0x02, tag := 2, body := [] }
    up.link.restartDue = false ∧ up.part = .running ∧ saving.part = .saving ∧ up.link.replies = []
    ∧ (linkWith (fun k => { k with replies := [sending true] }) up).link.replies = sending true :: []
    ∧ (sending true).answer.restart = true ∧ (sending false).answer.restart = false
    ∧ (linkWith (fun k => { k with replies := [sending false], waiting := [.overrun 2 2] }) up).link.waiting
      = .overrun 2 2 :: []
    ∧ (linkWith (fun k => { k with replies := [sending false], waiting := [.request q] }) up).link.waiting
      = .request q :: [] := by decide +kernel

theorem witness_SoftRestartKeepsWhatItsChaptersSay :
    let q : Request := { kind := 0x02, tag := 2, body := [] }
    let due (r : List Reply) (w : List Waiting) :=
      linkWith (fun k => { k with restartDue := true, replies := r, waiting := w }) timed
    (due [] []).link.restartDue = true ∧ (due [] []).link.waiting = []
    ∧ (due [sending false] [.request q]).link.replies ≠ []
    ∧ (due [] [.request q]).link.replies = []
    ∧ (due [] [.request q]).link.waiting = .request q :: []
    ∧ (due [] [.overrun 2 2]).link.waiting = .overrun 2 2 :: []
    ∧ conditionPresent (after .softRestart (due [] [])) .refLoss 0 = true
    ∧ (after .softRestart ((due [] []).setScheduler
        { table := [action 1 7], dueIds := [1], nextId := 2, wrapped := true })).scheduler
      = { table := [], dueIds := [], nextId := 2, wrapped := true }
    ∧ conditionPresent (after .softRestart (due [] [])) .holdover 0 = false := by decide +kernel

/-- An image of the defaults. -/
def image : FlashImage :=
  { markerCorrect := true, checkMatches := true, profile := defaultProfile }

theorem witness_LoadingStartsAndEnds :
    let k := (linkWith (fun k => { k with replies := [sending false] }) up).link
    State.reset.part = .loading ∧ imageGood image = true
    ∧ (State.reset.setFlash (some image)).flash = some image ∧ State.reset.flash = none
    ∧ imageGood { image with checkMatches := false } = false ∧ up.part ≠ .loading
    ∧ (State.reset.setFlash (some { image with checkMatches := false })).flash
      = some { image with checkMatches := false }
    ∧ k.replies = sending false :: [] ∧ (encodeReply (sending false))[0]? = some 0xA5
    ∧ (encodeReply (sending false)).length ≤ 1000 ∧ k.mode = .spi
    ∧ octetOut 0 up.link = some 0x00 := by decide +kernel

theorem witness_FramesAreTakenBufferedOrOverrun :
    let q : Request := { kind := 0x02, tag := 2, body := [] }
    let busy (l : List Waiting) := linkWith (fun k => { k with replies := [sending false], waiting := l }) up
    (List.replicate 512 (0 : Byte)).length ≤ 512 ∧ up.link.restartDue = false
    ∧ up.link.replies = [] ∧ up.link.waiting = [] ∧ (busy []).link.replies ≠ []
    ∧ bufferedCount (busy [.request q]).link.waiting < 2
    ∧ 2 ≤ bufferedCount (busy [.request q, .request q]).link.waiting
    ∧ overrunCount (busy [.request q, .request q]).link.waiting < 8
    ∧ 8 ≤ overrunCount
        (busy (.request q :: .request q :: List.replicate 8 (.overrun 2 2))).link.waiting
    ∧ [0, 0] ≠ checkOctets (putU 2 0 ++ [0x02, 2] ++ [])
    ∧ knownKind 0x3F = false ∧ knownKind 0x02 = true ∧ State.reset.part = .loading
    ∧ (requestEffect 0x02 [0]).isNone = true ∧ (requestEffect 0x02 []).isSome = true := by
  decide +kernel

theorem witness_FramesAreTakenBufferedOrOverrun_judged :
    let s := linkWith (fun k => { k with restartDue := true }) timed
    let leap : Leap := { dir := .delete, due := 281474976710655 }
    let taken (c : Instr) (kind : Byte) (body : List Byte) : Bool :=
      decide (after c timed = takeRequest { kind := kind, tag := 1, body := body } timed)
    s.link.restartDue = true ∧ (serveNext (softRestart s)).link.restartDue = false
    ∧ ((takeRequest { kind := 0x3C, tag := 1, body := [] } State.reset).link.replies.map
        fun r => r.answer.status) = [.ok]
    ∧ ((takeRequest { kind := 0x3C, tag := 1, body := [0] } State.reset).link.replies.map
        fun r => r.answer.status) = [.invalid]
    ∧ taken (.setTime 1 281474976710655 (some 37)) 0x01 [0xFF, 0xFF, 0xFF, 0xFF, 0xFF, 0xFF, 1, 37]
    ∧ taken (.chainCommand 1 (some .leap) 7 (some leap)) 0x2A
        (putCommandKind .leap ++ [7] ++ putOpt 7 putLeap (some leap))
    ∧ taken (.setReference 1 0 (defaultReference .satA)) 0x08
        ([0] ++ putReference (defaultReference .satA))
    ∧ slotOfNumber 0 = some .satA
    ∧ normalizeReference .satA (defaultReference .satA) = defaultReference .satA
    ∧ Takes timed := by
  refine ⟨by decide +kernel, by decide +kernel, by decide +kernel, by decide +kernel, ?_, ?_, ?_,
    by decide +kernel, by decide +kernel, takes_timed⟩
  · decide +kernel
  · decide +kernel
  · decide +kernel

theorem witness_DiscardedFramesAreCounted :
    up.link.restartDue = false ∧ knownKind 0x00 = false := by decide +kernel

/-- Time set, the step token spent, half a second on. -/
def spent : State :=
  { timed with
    servo := { timed.servo with token := false }
    time := { timed.time with frac := 500000000000 } }

theorem witness_BoundaryBeginsTheNextSecond :
    let pend := spent.setTime
      { spent.time with timeSet := false, pendingSet := some { seconds := 66, offset := some 9 } }
    spent.part ≠ .loading ∧ spent.time.endOfRange = false ∧ spent.time.base < Config.maxSeconds
    ∧ settle spent = spent ∧ spent.servo.token = false ∧ spent.time.timeSet = true
    ∧ settle pend = pend ∧ pend.time.pendingSet ≠ none ∧ TableLaw spent
    ∧ labelLeap 6 leaping = some { dir := .insert, due := 65 } ∧ labelLeap 5 planned = none
    ∧ leaping.scheduler.table.Pairwise (fun a b => actionBefore a b = true)
    ∧ (5 : Nat) < 65 ∧ (65 : Nat) ≤ 70
    ∧ (∀ p l b, Block.frame p l b ∉ [Block.pulse .satA, .instant 0]) := by
  refine ⟨by decide +kernel, by decide +kernel, by decide +kernel, by decide +kernel,
    by decide +kernel, by decide +kernel, by decide +kernel, by decide +kernel,
    ⟨by decide +kernel, by decide +kernel, by decide +kernel, by decide +kernel⟩, by decide +kernel,
    by decide +kernel, by decide +kernel, by decide +kernel, by decide +kernel, fun p l b => by simp⟩

/-- Port 0 with a delay of so much, its last emitted second that of the count. -/
def emitting (delay : Nat) (v : PortState) (suppress : Bool) : State :=
  portWith
    (fun x =>
      { x with state := v, delay := delay, lastEmitted := some 5, suppressNext := suppress }) timed

theorem witness_BoundaryBeginsTheNextSecond_instant :
    let s (b : Bool) := standing 6 0 (emitting 0 .active b)
    ((s false).port 0).delay = 0 ∧ (s false).time.base = 6 ∧ (s false).time.frac = 0
    ∧ (s false).time.landed = false ∧ ((s false).port 0).activated = false
    ∧ ((s false).port 0).state = .active ∧ ((s false).port 0).lastEmitted = some 5 ∧ 5 < 6
    ∧ ((s false).port 0).config.type = .pulseTod ∧ (s false).holdover.recorded = none
    ∧ ((s false).port 0).suppressNext = false ∧ ((s true).port 0).suppressNext = true
    ∧ ((blockActs 6 (s false) (.instant 0)).port 0).pendingMessage = some 6
    ∧ ((blockActs 6 (s true) (.instant 0)).port 0).pin = false
    ∧ ¬ (((emitting 1 .active false).port 0).delay = 0) := by decide +kernel

/-- SAT-B is followed with SAT-A better, the dwell ends and a HOLD falls due at the next boundary. -/
def dwelling : State :=
  let f (m : Monitor) : Monitor := { m with state := .qualified, signal := true }
  let s := slotWith .satA f (slotWith .satB f timed)
  (s.setSelector
    { s.selector with
      selected := some .satB, dwell := Timer.start 1, pendingSwitch := some .satA }).setScheduler
    { table := [action 1 6], dueIds := [], nextId := 2, wrapped := false }

/-- R65: at one instant the expiry comes first, and the pending switch is made before the other event, or
after it. -/
theorem test_dwell_expiry_in_either_order :
    let ending (order : List Block) := (after (.secondBoundary order) dwelling).selector
    (ending [.dwell]).switchCount = 2 ∧ (ending [.dwell]).selected = none
    ∧ (ending [.scheduler, .dwell]).switchCount = 1 ∧ (ending []).switchCount = 1
    ∧ (ending []).selected = none := by decide +kernel

/-- A SQUELCHED port's re-arm ends at the boundary at which the estimate lowers the grade below its
minimum. -/
def rearming : State :=
  let s := inServo .holdover timed
  let s := s.setHoldover
    { s.holdover with
      grade := .C, fh := some 7, e0 := some 1000000, u := some 3, n := 0, tee := some 1000000 }
  portWith
    (fun x =>
      { x with
        state := .squelched, rearm := Timer.start 1
        config := { x.config with minGrade := .C, policy := .squelch } }) s

/-- R123: the grade change first stops the timer; the boundary first makes the port ACTIVE, and the grade
change squelches it again. -/
theorem test_rearm_at_a_grade_change_in_either_order :
    let moves (order : List Block) :=
      (after (.secondBoundary order) rearming).alarms.queue.filterMap fun x =>
        match x.detail with
        | .portState old new _ => some (old, new)
        | _ => none
    let port (order : List Block) := (after (.secondBoundary order) rearming).port 0
    moves [] = [] ∧ (port []).state = .squelched ∧ (port []).rearm = Timer.stopped
    ∧ moves [.ports, .rearm 0] = [(.squelched, .active), (.active, .squelched)]
    ∧ (port [.ports, .rearm 0]).state = .squelched := by decide +kernel

/-- A QUALIFIED slot whose e and disagreement run stand so. -/
def disagreeingBy (k : Slot) (n : Nat) (e : Int) (s : State) : State :=
  slotWith k
    (fun m =>
      { m with
        state := .qualified, signal := true, disagree := n, lastE := some e
        config := { m.config with agreement := some 100 } }) s

/-- SAT-A is followed, two others disagree with it and agree with each other, and a PKT sample waits. -/
def outvoting : State :=
  let s := disagreeingBy .pkt 5 1000 (disagreeingBy .satB 5 1100 (followingA .locked timed))
  let s := slotWith .pkt (fun m => { m with config := { m.config with priority := 1 } }) s
  let s := slotWith .satB (fun m => { m with config := { m.config with priority := 9 } }) s
  s.setFilter
    { s.filter with
      window := [{ sequence := 1, offset := 1050, delay := 5, grade := .A, arrival := 5 }] }

/-- R71: the switch that the agreement judgement or a HOLD makes comes before a measurement at the same
instant, or after it. -/
theorem test_switch_at_a_measurement_in_either_order :
    let updated (order : List Block) (s : State) :=
      (after (.secondBoundary order) s).servo.lastUpdate.map UpdateRecord.slot
    let holding := (followingA .locked timed).setScheduler
      { table := [action 1 6], dueIds := [], nextId := 2, wrapped := false }
    (after (.secondBoundary []) outvoting).selector.selected = some .pkt
    ∧ updated [] outvoting = none ∧ updated [.agreement, .filter] outvoting = some .pkt
    ∧ updated [.pulse .satA] holding = some .satA
    ∧ updated [.scheduler, .pulse .satA] holding = none := by decide +kernel

/-- R122 and R128: at delay 0 the emission instant comes before a grade change or a step made at its
boundary, and the pulse is emitted, or after it, and none is. -/
theorem test_instant_at_a_grade_change_or_a_step_in_either_order :
    let low := portWith
      (fun x => { x with state := .active, rearm := Timer.stopped, lastEmitted := some 5 }) rearming
    let s := inServo .locked
      (slotWith .pkt (fun m => { m with state := .qualified, signal := true }) (emitting 0 .active false))
    let s := (s.setSelector { s.selector with selected := some .pkt }).setServo
      { s.servo with followed := some .pkt }
    let stepped := s.setFilter
      { s.filter with
        window := [{ sequence := 1, offset := 400000000000, delay := 5, grade := .A, arrival := 5 }] }
    let port (order : List Block) (s : State) := (after (.secondBoundary order) s).port 0
    (port [] low).pin = false ∧ (port [] low).state = .squelched
    ∧ (port [.instant 0] low).pin = true ∧ (port [.instant 0] low).state = .squelched
    ∧ (port [.instant 0] low).pendingMessage = none ∧ (port [.instant 0] low).message = none
    ∧ (port [] stepped).pin = false ∧ (port [] stepped).suppressNext = true
    ∧ (port [.instant 0] stepped).pin = true ∧ (port [.instant 0] stepped).suppressNext = true := by
  decide +kernel

/-- The last second of the range. -/
def lastSecond : State :=
  { up with time := { up.time with base := 281474976710655, frac := 999999999998 } }

/-- Nothing comes between the count and a fraction ahead of it where nothing is due and no satellite
window is open. -/
theorem undisturbed_of_settled (t : Nat) (s : State) (h : settle s = s)
    (ha : (s.ref .satA).window = none) (hb : (s.ref .satB).window = none) : Undisturbed t s :=
  ⟨h, fun k w e => by
    cases k
    · exact nomatch ha.symm.trans e
    · exact nomatch hb.symm.trans e⟩

theorem witness_CountHoldsAtTheEndOfItsRange :
    lastSecond.part ≠ .loading ∧ lastSecond.time.endOfRange = false
    ∧ lastSecond.time.base = Config.maxSeconds ∧ lastSecond.time.frac ≤ 999999999999
    ∧ Undisturbed 999999999999 lastSecond ∧ (after .endOfRange lastSecond).time.endOfRange = true :=
  ⟨by decide +kernel, by decide +kernel, by decide +kernel, by decide +kernel,
   undisturbed_of_settled _ _ (by decide +kernel) (by decide +kernel) (by decide +kernel),
   by decide +kernel⟩

theorem timed_undisturbed (t : Nat) : Undisturbed t timed :=
  undisturbed_of_settled t _ (by decide +kernel) (by decide +kernel) (by decide +kernel)

theorem witness_PinEventsFindTheCountAtTheirInstant :
    timed.part ≠ .loading ∧ timed.time.endOfRange = false ∧ timed.time.frac < 999999999999
    ∧ 999999999999 < 1000000000000 ∧ Undisturbed 999999999999 timed :=
  ⟨by decide +kernel, by decide +kernel, by decide +kernel, by decide +kernel, timed_undisturbed _⟩

/-- SAT-A in a state, with a window. -/
def windowed (v : MonitorState) (n missing : Nat) (s : State) : State :=
  slotWith .satA
    (fun m =>
      { m with
        state := v, signal := true, missing := missing
        window := some { second := 5, pulses := n } }) s

/-- SAT-A carries time, its mismatch run so long. -/
def mismatched (n : Nat) (s : State) : State :=
  slotWith .satA (fun m => { m with carriesTime := true, mismatch := { count := n, value := 3 } }) s

theorem witness_SatellitePulsesAreMeasured :
    timed.part ≠ .loading
    ∧ ((slotWith .satA (fun m => { m with state := .disabled }) timed).ref (satSlot .satA)).state
      = .disabled
    ∧ ((windowed .checking 1 0 timed).ref (satSlot .satA)).signal = true
    ∧ windowReached (windowed .checking 1 0 timed) (satSlot .satA) = none
    ∧ (nearestSecond (windowed .checking 1 0 timed).reading).toNat = 5
    ∧ ((timed.ref (satSlot .satA)).state = .absent → (timed.ref (satSlot .satA)).signal = false)
    ∧ (timed.ref (satSlot .satA)).state ≠ .disabled
    ∧ windowReached timed (satSlot .satA) = none ∧ (timed.ref (satSlot .satA)).window = none := by
  decide +kernel

theorem witness_SatellitePulsesAreMeasured_checks :
    let s := mismatched 2 (followingA .locked timed)
    let two := disagreeingBy .satB 5 1000 (disagreeingBy .pkt 5 1100 (followingA .locked timed))
    let one := disagreeingBy .satB 5 1000 (followingA .locked timed)
    (carrying 3).ds = some 3 ∧ s.time.timeSet = true ∧ (s.ref .satA).carriesTime = true
    ∧ (s.ref .satA).mismatch.count ≠ 0 ∧ (s.ref .satA).mismatch.value = 3
    ∧ min 3 ((s.ref .satA).mismatch.count + 1) = 3 ∧ s.selector.selected = some .satA
    ∧ s.servo.token = true ∧ spent.servo.token = false ∧ (s.ref .satA).state = .qualified
    ∧ (timeCheck .satA (carrying 3) s).2 = true
    ∧ ((timeCheck .satA (carrying 4) s).1.ref .satA).mismatch = { count := 1, value := 4 }
    ∧ one.servo.state = .locked ∧ (one.ref .satB).state = .qualified
    ∧ one.selector.selected ≠ some .satB ∧ (one.ref .satB).config.agreement = some 100
    ∧ 5 ≤ (one.ref .satB).disagree ∧ (two.ref .pkt).lastE = some 1100
    ∧ ((1000 : Int) - 1100).natAbs ≤ min 100 100
    ∧ ((agreementJudge two).ref .satA).failCause = some .outvoted
    ∧ ((agreementJudge one).ref .satB).failCause = some .disagree := by decide +kernel

theorem witness_SatelliteWindowsAreJudged :
    let s := windowed .qualified 1 0 spent
    let z := windowed .checking 0 2 spent
    s.part ≠ .loading ∧ (s.ref (satSlot .satA)).window = some { second := 5, pulses := 1 }
    ∧ 5 = s.time.base ∧ 500000000000 ≤ s.time.frac ∧ (s.ref (satSlot .satA)).state = .qualified
    ∧ ((windowed .failed 0 1 spent).ref (satSlot .satA)).missing < 2
    ∧ (z.ref (satSlot .satA)).window = some { second := 5, pulses := 0 }
    ∧ 2 ≤ (z.ref (satSlot .satA)).missing ∧ (z.ref (satSlot .satA)).signal = true
    ∧ (z.ref (satSlot .satA)).state = .checking := by decide +kernel

/-- LINE-A with a signal, its newest edge so many picoseconds back. -/
def lined (v : MonitorState) (signal : Bool) (back : Nat) : State :=
  slotWith .lineA
    (fun m => { m with state := v, signal := signal, line := { m.line with sinceEdge := back } }) timed

theorem witness_LineClocksAreTimed :
    timed.part ≠ .loading
    ∧ ((lined .disabled false 0).ref (lineSlot .lineA)).state = .disabled
    ∧ ((lined .checking true 0).ref (lineSlot .lineA)).state ≠ .disabled
    ∧ ((lined .checking true 0).ref (lineSlot .lineA)).signal = true
    ∧ (timed.ref (lineSlot .lineA)).state = .absent ∧ (timed.ref (lineSlot .lineA)).signal = false
    ∧ ((lined .qualified true 1000000000).ref (lineSlot .lineA)).signal = true
    ∧ 1000000000 ≤ ((lined .qualified true 1000000000).ref (lineSlot .lineA)).line.sinceEdge
    ∧ ((lined .qualified true 1000000000).ref (lineSlot .lineA)).state = .qualified := by decide +kernel

/-- LINE-A at an interval's end: so many edges at 10 MHz, the newest 3 ns back, 2 ns at its beginning. -/
def ended (edges : Nat) (stepped fresh : Bool) (ring : List Int) : State :=
  slotWith .lineA
    (fun m =>
      { m with
        config := { m.config with nominal := some 10000000 }, ring := ring
        line := { sinceEdge := 3000, edges := edges, reference := some 2000, stepped := stepped
                  fresh := fresh } })
    (lined .checking true 3000)

/-- R27: a clock 1 ppt fast against the count gives the accumulation 1 ps in a second, and 16 of them fe. -/
theorem witness_LineClocksAreTimed_boundary :
    let s := ended 10000000 false false (List.replicate 15 1)
    let y := (countTimers 1000000000999 s).ref (lineSlot .lineA)
    (s.ref .lineA).config.nominal = some 10000000 ∧ (s.ref .lineA).line.reference = some 2000
    ∧ (s.ref .lineA).signal = true ∧ (s.ref .lineA).state = .checking
    ∧ y.ring = List.replicate 16 1 ∧ y.line.fresh = true
    ∧ ((ended 10000000 true false []).ref .lineA).line.stepped = true
    ∧ ((lined .absent false 0).ref .lineA).state ≠ .disabled
    ∧ ((lined .absent false 0).ref .lineA).signal = false
    ∧ ((lined .absent false 0).ref .lineA).line.reference = none
    ∧ ((ended 1 false true (List.replicate 16 1)).ref .lineA).line.fresh = true
    ∧ ((blockActs 6 (ended 1 false true (List.replicate 16 1)) (.line .lineA)).ref .lineA).lastFe = some 1 := by
  decide +kernel

/-- LINE_LOSS 0.4 ms after the newest edge runs the count 0.6 ms on. -/
theorem witness_LineClocksAreTimed_ahead :
    let s := lined .qualified true 400000000
    (s.ref .lineA).signal = true ∧ (s.ref .lineA).line.sinceEdge < 1000000000
    ∧ s.time.frac + (1000000000 - (s.ref .lineA).line.sinceEdge) = 250600000000
    ∧ s.time.endOfRange = false ∧ Undisturbed 250600000000 s
    ∧ (after (.lineLoss .lineA) s).time.frac = 250600000000
    ∧ ((after (.lineLoss .lineA) s).ref .lineA).state = .failed
    ∧ (1000000000000 : Nat) ≤ (standing 5 999999999999 s).time.frac + (1000000000 - 400000000) :=
  ⟨by decide +kernel, by decide +kernel, by decide +kernel, by decide +kernel,
   undisturbed_of_settled _ _ (by decide +kernel) (by decide +kernel) (by decide +kernel), by decide +kernel⟩

theorem witness_MonitorTimersExpire :
    (up.ref .satA).qualify.due = false ∧ (up.ref .satA).wait.due = false
    ∧ ((slotWith .satA (fun m => { m with state := .checking, qualify := due }) up).ref .satA).qualify.due
      = true
    ∧ ((slotWith .satA (fun m => { m with state := .checking, qualify := due }) up).ref .satA).state
      = .checking
    ∧ ((slotWith .satA (fun m => { m with state := .failed, wait := due }) up).ref .satA).wait.due = true
    ∧ ((slotWith .satA (fun m => { m with state := .failed, wait := due }) up).ref .satA).state
      = .failed := by decide +kernel

/-- SAT-A at the end of its observation period, after so many violations at a level. -/
def observed (n level : Nat) : Monitor :=
  { up.ref .satA with state := .checking, period := due, periodCount := n, level := level }

theorem witness_ObservationPeriodsMoveTheLevel :
    (up.ref .satA).period.due = false ∧ (observed 1 0).period.due = true
    ∧ (observed 1 0).state = .checking ∧ (observed 1 0).periodCount < (observed 1 0).config.delayed
    ∧ 0 < (observed 1 0).periodCount ∧ (observed 0 3).periodCount = 0
    ∧ (observed 2 4).config.delayed ≤ (observed 2 4).periodCount
    ∧ (observed 2 4).level < levelMax (observed 2 4).config
    ∧ levelMax (observed 2 5).config ≤ (observed 2 5).level
    ∧ ((slotWith .satA (fun _ => observed 1 0) up).ref .satA) = observed 1 0 := by decide +kernel

theorem witness_ObservationPeriodsMoveTheLevel_violations :
    let m (n level : Nat) : Monitor := { observed n level with lastE := some 0 }
    let c := (observed 0 0).config
    (m 0 0).lastE = some 0 ∧ (m 0 0).skipNext = false ∧ (observed 0 0).lastE = none
    ∧ ((c.floor : Int) - 0).natAbs ≤ c.floor * 2 ^ (m 0 0).level
    ∧ (m 0 0).config.floor * 2 ^ (m 0 0).level < ((c.floor : Int) + 1 - 0).natAbs
    ∧ min 15 ((m 0 0).periodCount + 1) < c.immediate
    ∧ c.immediate ≤ min 15 ((m 15 0).periodCount + 1) ∧ (m 15 0).level < levelMax c
    ∧ levelMax c ≤ (m 15 5).level ∧ (m 15 5).state = .checking := by decide +kernel

/-- The part as a member attached to port A. -/
def attached : State := chainWith (fun c => { c with role := .member, upstream := some .a }) timed

/-- A frame with this path. -/
def frameOn (path : List Nat) : TimeFrame :=
  { fullFrame with path := path, second := 5, command := none }

theorem witness_ChainInputsAreJudged :
    let led := chainWith (fun c => { c with role := .leader }) timed
    timed.part ≠ .loading ∧ advanceTo 0 timed = timed ∧ timed.chain.role = .off
    ∧ advanceTo 0 attached = attached ∧ attached.part ≠ .loading ∧ attached.chain.role = .member
    ∧ attached.chain.role ≠ .off ∧ attached.chain.address = 3 ∧ decodeFrame [] = none
    ∧ attached.chain.upstream = some .a ∧ attached.chain.upstream ≠ some .b
    ∧ decodeFrame (encodeFrame (frameOn [0, 1, 2, 4, 5, 6])) = some (frameOn [0, 1, 2, 4, 5, 6])
    ∧ 3 ∉ (frameOn [0, 1, 2, 4, 5, 6]).path ∧ (frameOn [0, 1, 2, 4, 5, 6]).path.length < 7
    ∧ decodeFrame (encodeFrame (frameOn [3])) = some (frameOn [3]) ∧ 3 ∈ (frameOn [3]).path
    ∧ decodeFrame (encodeFrame fullFrame) = some fullFrame ∧ fullFrame.path.length = 7
    ∧ attached.chain.inbox = none ∧ (frameOn [3]).word.isSome = true
    ∧ ((slotWith .chain (fun m => { m with state := .absent }) attached).ref .chain).state ≠ .disabled
    ∧ advanceTo 0 led = led ∧ led.chain.role = .leader ∧ (frameOn [3]).path.head? = some 3
    ∧ ((after (.chainFrame .a 0 (encodeFrame fullFrame) false) attached).chain.record .a).tooLong = 1
    ∧ (after (.chainFrame .a 0 (encodeFrame fullFrame) false) led).chain.conflict
      = Timer.start 3 := by decide +kernel

theorem witness_ChainInputsAreJudged_words :
    let held : InboxWord := { word := 1, origin := 0, second := 2 }
    let full := chainWith (fun c => { c with inbox := some held, lostWords := 254 }) attached
    let t := after (.chainFrame .a 0 (encodeFrame (frameOn [0, 1])) false) full
    advanceTo 0 full = full ∧ full.part ≠ .loading ∧ full.chain.role = .member
    ∧ decodeFrame (encodeFrame (frameOn [0, 1])) = some (frameOn [0, 1]) ∧ 3 ∉ (frameOn [0, 1]).path
    ∧ full.chain.upstream = some .a ∧ (frameOn [0, 1]).word = some 0xFFFFFFFF
    ∧ full.chain.inbox = some held ∧ t.chain.inbox = some held ∧ t.chain.lostWords = 255
    ∧ (t.alarms.queue.getLast?).map Notice.detail = some (.wordLost 255)
    ∧ { frameOn [0, 1] with word := none }.word = none
    ∧ decodeFrame (encodeFrame { frameOn [0, 1] with word := none })
      = some { frameOn [0, 1] with word := none } := by decide +kernel

theorem witness_ChainInputsAreJudged_commands :
    let x (k : ChainCommandKind) (l : Option Leap) : ChainCommand :=
      { kind := k, target := 7, sequence := 9, arg := l }
    let leap (n : Nat) : Leap := { dir := .insert, due := n }
    let held := (takeCommand (x .hold none) attached)
    let results (s : State) := s.alarms.queue.filterMap fun x =>
      match x.detail with
      | .chainCommandTaken _ _ _ r => some r
      | _ => none
    let result (c : ChainCommand) (s : State) : Option CommandResult := (results (takeCommand c s))[0]?
    let full := attached.setScheduler
      { table := (List.range 8).map (fun n => action (n + 1) (n + 7)), dueIds := [], nextId := 9, wrapped := false }
    attached.chain.lastCommand = none ∧ attached.chain.config.ignoreCommands = false
    ∧ attached.selector.config.mode ≠ .hold ∧ held.selector.config.mode = .hold
    ∧ held.selector.saved = some attached.selector.config.mode
    ∧ result (x .hold none) attached = some .applied
    ∧ (takeCommand (x .hold none) held) = held
    ∧ (takeCommand { x .hold none with target := 6 } attached) = attached
    ∧ (takeCommand (x .hold none)
        (chainWith (fun c => { c with config := { c.config with ignoreCommands := true } })
          attached)).selector = attached.selector
    ∧ results (takeCommand { x .hold none with sequence := 10 } held) = [.applied, .alreadyHeld]
    ∧ results (takeCommand { x .release none with sequence := 10 } held) = [.applied, .applied]
    ∧ result (x .release none) attached = some .notHeld
    ∧ result (x .stepPermit none) (attached.setServo { attached.servo with token := false })
      = some .granted
    ∧ result (x .leap none) attached = some .invalid
    ∧ result (x .leap (some (leap 281474976710656))) attached = some .invalid
    ∧ result (x .leap (some (leap 6))) attached = some .tooLate
    ∧ result (x .leap (some (leap 7))) attached = some (.entered 1)
    ∧ result (x .leap (some (leap 7))) full = some .full := by decide +kernel

theorem witness_ChainInputsAreJudged_sending :
    let led := chainWith (fun c => { c with role := .leader, lastSent := some 5 }) leading
    let held := { led with
      chain := { led.chain with frameDue := some { second := 6, onA := true, onB := true } }
      holdover := { led.holdover with recorded := some (secondRecord 6 led) } }
    let lone := chainWith (fun c => { c with upstream := none, unattached := 3 }) attached
    let relaying := chainWith
      (fun c => { c with lastUpstream := some { path := [0], allowance := 5, offset := 0, leap := none } })
      attached
    led.chain.role = .leader ∧ led.chain.lastSent = some 5 ∧ (5 : Nat) < 6
    ∧ held.chain.frameDue = some { second := 6, onA := true, onB := true }
    ∧ held.holdover.recorded = some (secondRecord 6 led) ∧ (secondRecord 6 led).second = 6
    ∧ held.alarms.queue.length + 2 ≤ 32
    ∧ (composeDue held).chain.outA.frame.map TimeFrame.path = some [3]
    ∧ lone.chain.role ≠ .leader ∧ lone.chain.upstream = none ∧ lone.chain.unattached = 3
    ∧ relaying.chain.role ≠ .leader ∧ relaying.chain.unattached ≠ 3
    ∧ (relaying.chain.record .a).silence < 3 ∧ relaying.chain.lastUpstream.isSome = true
    ∧ timed.holdover.recorded = none ∧ timed.chain.lastSent = none := by decide +kernel

theorem witness_ChainTimersExpire :
    let s := chainWith
      (fun c =>
        { c with
          conflict := due, tooLong := due, swap := some { timer := due, reason := .loss } }) attached
    timed.chain.conflict.due = false ∧ timed.chain.tooLong.due = false ∧ timed.chain.swap = none
    ∧ s.chain.conflict.due = true ∧ s.chain.tooLong.due = true
    ∧ s.chain.swap = some { timer := due, reason := .loss } ∧ due.due = true
    ∧ s.chain.upstream = some .a ∧ portLive (s.chain.record (otherPort .a)) = false := by decide +kernel

theorem witness_ChainTimersExpire_epochs :
    let s (v : MonitorState) (n : Nat) (arrived : Bool) := slotWith .chain
      (fun m => { m with state := v, signal := true, missing := n })
      (chainWith (fun c => { c with portA := { c.portA with validThisSecond := arrived } }) attached)
    let now (t : State) := let m := (chainBoundary 6 t).ref .chain
      (m.missing, m.totalMissing, m.state, m.signal)
    attached.chain.upstream = some .a ∧ (s .checking 1 true).chain.portA.validThisSecond = true
    ∧ now (s .absent 1 false) = (1, 0, .absent, true) ∧ now (s .qualified 1 true) = (0, 0, .qualified, true)
    ∧ now (s .qualified 1 false) = (2, 1, .qualified, true)
    ∧ now (s .qualified 2 false) = (3, 1, .failed, false) ∧ now (s .failed 2 false) = (3, 1, .failed, false)
    ∧ now (chainWith (fun c => { c with role := .leader }) (s .checking 2 true)) = (3, 1, .failed, false)
    ∧ now (chainWith (fun c => { c with role := .off }) (s .checking 0 true))
      = (1, 1, .checking, true) := by decide +kernel

/-- A live port whose latest frame has this grade and path. -/
def heard (g : Grade) (path : List Nat) : ChainRecord :=
  { chainRecordAtReset with
    seen := true, summary := some { frameOn path with grade := g } }

/-- A member with these records, hold-off and upstream. -/
def member (a b : ChainRecord) (holdOff : Nat) (up : Option ChainPort) : State :=
  chainWith
    (fun c =>
      { c with
        role := .member, portA := a, portB := b, upstream := up
        config := { c.config with holdOff := holdOff } }) timed

theorem witness_ChainTimersExpire_unattached :
    let lone (n : Nat) (a b : ChainRecord) := chainWith (fun c => { c with unattached := n }) (member a b 0 none)
    let chosen (s : State) := ((judgeUpstream s).chain.upstream, (judgeUpstream s).chain.unattached)
    (lone 0 chainRecordAtReset chainRecordAtReset).chain.upstream = none
    ∧ chosen (lone 0 chainRecordAtReset chainRecordAtReset) = (none, 1)
    ∧ chosen (lone 0 (heard .B [0, 1]) (heard .B [2, 1])) = (some .a, 0)
    ∧ chosen (lone 0 (heard .B [0, 1]) (heard .B [2])) = (some .b, 0)
    ∧ chosen (lone 0 (heard .C [0]) (heard .B [2, 1])) = (some .b, 0)
    ∧ timed.holdover.grade = .F ∧ attached.chain.address = 3
    ∧ chosen (lone 2 (heard .F [4]) chainRecordAtReset) = (none, 3)
    ∧ chosen (lone 2 (heard .F [2]) chainRecordAtReset) = (some .a, 0)
    ∧ chosen (lone 1 (heard .F [4]) chainRecordAtReset) = (some .a, 0) := by decide +kernel

theorem witness_ChainTimersExpire_attached :
    let silent (n : Nat) (g : Grade) : ChainRecord := { heard g [0] with silence := n }
    let s (n holdOff : Nat) (b : ChainRecord) (w : Option SwapTimer) : State :=
      chainWith (fun c => { c with swap := w }) (member (silent n .C) b holdOff (some .a))
    let now (n holdOff : Nat) (b : ChainRecord) (w : Option SwapTimer) :=
      ((judgeUpstream (s n holdOff b w)).chain.upstream, (judgeUpstream (s n holdOff b w)).chain.swap)
    let timer (k : Nat) (r : PathReason) : Option SwapTimer := some { timer := Timer.start k, reason := r }
    let good := heard .B [1]
    now 2 0 good none = (some .b, none) ∧ now 2 4 good none = (some .a, timer 4 .grade)
    ∧ now 0 4 (heard .C [1]) none = (some .a, none)
    ∧ now 0 4 good (timer 2 .grade) = (some .a, timer 1 .grade)
    ∧ now 0 4 (heard .C [1]) (timer 2 .grade) = (some .a, none)
    ∧ now 0 4 good (timer 2 .loss) = (some .a, timer 4 .grade)
    ∧ now 0 0 good (timer 2 .loss) = (some .a, none)
    ∧ now 3 0 good none = (some .b, none) ∧ now 3 4 good none = (some .a, timer 4 .loss)
    ∧ now 3 4 chainRecordAtReset none = (none, none)
    ∧ (judgeUpstream (s 3 4 chainRecordAtReset none)).chain.unattached = 3
    ∧ now 4 4 good (timer 2 .loss) = (some .a, timer 1 .loss)
    ∧ (s 2 4 good none).chain.role = .member
    ∧ ((chainBoundary 6 (s 2 4 good none)).chain.record .a).loss = true
    ∧ ((chainBoundary 6 (s 2 4 good none)).chain.record .b).silence = 1 := by decide +kernel

/-- The dwell has ended, with a better candidate than the slot selected. -/
def dwelt : State :=
  let f (m : Monitor) : Monitor := { m with state := .qualified, signal := true }
  let s := slotWith .satA f (slotWith .satB f up)
  s.setSelector { s.selector with selected := some .satB, dwell := due, pendingSwitch := some .satA }

theorem witness_SelectorPortAndAlarmTimersExpire :
    up.selector.dwell.due = false ∧ dwelt.selector.dwell.due = true
    ∧ dwelt.selector.config.revertive = true ∧ dwelt.selector.config.mode = .auto
    ∧ dwelt.selector.selected = some .satB ∧ bestCandidate dwelt = some .satA
    ∧ ranksAbove dwelt .satA .satB = true ∧ (up.port 0).rearm.due = false
    ∧ ((portWith (fun x => { x with state := .squelched, rearm := due }) up).port 0).rearm.due = true
    ∧ ((portWith (fun x => { x with state := .squelched, rearm := due }) up).port 0).state = .squelched
    ∧ ((entryOf .noticeOverflow .pendingRaise up).alarms.entry? .noticeOverflow 0).map
        (fun e => (e.state, e.timer.due)) = some (.pendingRaise, true)
    ∧ ((entryOf .noticeOverflow .pendingClear up).alarms.entry? .noticeOverflow 0).map
        (fun e => (e.state, e.timer.due)) = some (.pendingClear, true)
    ∧ (after (.raiseDelayExpiry .noticeOverflow 0) (entryOf .noticeOverflow .pendingRaise up)).alarms.queue
      = up.alarms.queue
    ∧ ((entryIn .pendingRaise up).alarms.entry? .holdover 0).map (fun e => (e.state, e.timer.due))
      = some (.pendingRaise, true)
    ∧ ((entryIn .pendingClear up).alarms.entry? .holdover 0).map (fun e => (e.state, e.timer.due))
      = some (.pendingClear, true)
    ∧ (up.alarms.entry? .holdover 0).map AlarmEntry.state = some .clear := by decide +kernel

theorem witness_PortsEmitAtTheirInstant :
    let s := emitting 10000000 .active true
    let u := emitting 1 .active false
    let z := { standing 5 0 (emitting 0 .active false) with
      holdover := { timed.holdover with recorded := some (secondRecord 5 timed) } }
    s.part ≠ .loading ∧ s.time.endOfRange = false ∧ s.time.base < Config.maxSeconds
    ∧ Undisturbed (1000000000000 - 10000000) s
    ∧ 0 < (s.port 0).delay ∧ (s.port 0).delay ≤ 10000000
    ∧ s.time.frac < 1000000000000 - (s.port 0).delay ∧ (s.port 0).queue = []
    ∧ (s.port 0).state = .active ∧ (s.port 0).suppressNext = true ∧ (s.port 0).lastEmitted = some 5
    ∧ 5 < s.time.base + 1 ∧ Undisturbed (1000000000000 - 1) u ∧ (u.port 0).suppressNext = false
    ∧ u.time.frac < 1000000000000 - (u.port 0).delay
    ∧ ((emitting 1 .armed false).port 0).state ≠ .active
    ∧ (z.port 0).delay = 0 ∧ z.time.frac = 0 ∧ z.time.landed = false ∧ (z.port 0).activated = false
    ∧ z.holdover.recorded = some (secondRecord 5 timed) ∧ (secondRecord 5 timed).second = 5
    ∧ (z.port 0).config.type = .pulseTod :=
  ⟨by decide +kernel, by decide +kernel, by decide +kernel,
   undisturbed_of_settled _ _ (by decide +kernel) (by decide +kernel) (by decide +kernel), by decide +kernel, by decide +kernel,
   by decide +kernel, by decide +kernel, by decide +kernel, by decide +kernel, by decide +kernel,
   by decide +kernel, undisturbed_of_settled _ _ (by decide +kernel) (by decide +kernel) (by decide +kernel), by decide +kernel⟩

theorem witness_PortsEmitAtTheirInstant_queue :
    let s := portWith
      (fun x => { x with queue := [{ requested := 25000, remainder := 25000 }] }) (emitting 5 .active false)
    let w := portWith (fun x => { x with state := .armed, config := { x.config with policy := .mark } }) s
    let low := portWith
      (fun x => { x with queue := [{ requested := -9, remainder := -9 }] }) (emitting 5 .active false)
    (s.port 0).queue = { requested := 25000, remainder := 25000 } :: []
    ∧ clampTo (s.port 0).config.stepLimit 25000 = 10000
    ∧ (low.port 0).queue = { requested := -9, remainder := -9 } :: []
    ∧ ((low.port 0).delay : Int) + clampTo (low.port 0).config.stepLimit (-9) < 0
    ∧ (w.port 0).state = .armed ∧ (w.port 0).state ≠ .active ∧ w.time.timeSet = true
    ∧ ((portBoundary 0 w).port 0).delay = 25005 ∧ ((portBoundary 0 w).port 0).state = .active := by
  decide +kernel

/-- A clock's last fall lies half-way to the next second's aligning edge, at the delay that the service
leaves (R127, R132). -/
theorem witness_PortsEmitAtTheirInstant_clock :
    let s (f : Nat) := portWith
      (fun x =>
        { x with
          queue := [{ requested := 25000, remainder := 25000 }]
          config := { x.config with type := .clock, frequency := f } }) (emitting 5 .active false)
    let y (f : Nat) := (after (.portEmission 0) (s f)).port 0
    ((s 1).port 0).config.type = .clock ∧ (y 1).delay = 10005 ∧ (y 2).delay = 10005
    ∧ (y 1).clock.map ClockRun.falls
      = some (some (5999999999995 + (1000000000000 - 10000) / 2))
    ∧ (y 2).clock.map ClockRun.falls = some (some (5999999999995 + 500000000000 / 2)) := by
  decide +kernel

/-- A clock of 2 Hz in second 5, without a delay. -/
def clocked : State :=
  portWith
    (fun x =>
      { x with
        state := .active, pulseWidth := some 1000, pin := true
        clock := some { second := 5, delay := 0, frequency := 2, last := 0, falls := some 5260000000000 } }) timed

theorem clocked_undisturbed (t : Nat) : Undisturbed t clocked :=
  undisturbed_of_settled t _ (by decide +kernel) (by decide +kernel) (by decide +kernel)

/-- A clock of 1 MHz in second 5 without a delay, the delay then `d`: edges past the next second's aligning
edge are not given (R127). -/
def retimed (d : Nat) : State :=
  portWith
    (fun x =>
      { x with
        state := .active, delay := d
        clock := some { second := 5, delay := 0, frequency := 1000000, last := 0, falls := none } }) timed

theorem witness_PinsFollowTheirEdges_aligning :
    let edge (k : Nat) : Int := 5 * 1000000000000 - 0 + roundDiv ((k : Int) * 1000000000000) 1000000
    let aligning : Int := ((5 : Int) + 1) * 1000000000000 - 2000000
    ((retimed 2000000).port 0).delay = 2000000 ∧ edge 999997 < aligning ∧ aligning ≤ edge 999998
    ∧ aligning ≤ edge 999999
    ∧ (after (.clockEdge 0 999997 true) (retimed 2000000)).time.frac = 999997000000
    ∧ (after (.clockEdge 0 999998 true) (retimed 2000000)).time.frac = 250000000000
    ∧ (after (.clockEdge 0 999998 true) (retimed 0)).time.frac = 999998000000 := by decide +kernel

theorem witness_PinsFollowTheirEdges :
    clocked.part ≠ .loading
    ∧ (portWith (fun x => { x with pulseWidth := none }) timed).part ≠ .loading
    ∧ (clocked.port 0).pulseWidth = some 1000
    ∧ (clocked.port 0).clock
      = some { second := 5, delay := 0, frequency := 2, last := 0, falls := some 5260000000000 }
    ∧ (5 : Int) * 1000000000000 + 500000000000
      = 5 * 1000000000000 - 0 + roundDiv (1 * 1000000000000) 2
    ∧ (5 : Int) * 1000000000000 - 0 + roundDiv (1 * 1000000000000) 2
      < (5 + 1) * 1000000000000 - (clocked.port 0).delay
    ∧ 1 < 2 ∧ clocked.time.endOfRange = false ∧ Undisturbed 500000000000 clocked
    ∧ clocked.time.frac < 500000000000
    ∧ ((clocked.time.base : Nat) : Int) * 1000000000000 + 260000000000 = 5260000000000
    ∧ (5260000000000 : Int) ≤ (standing 5 270000000000 clocked).reading
    ∧ (after (.clockEdge 0 1 true) clocked).time.frac = 500000000000
    ∧ (((after (.clockEdge 0 1 true) clocked).port 0).clock.map ClockRun.falls)
      = some (some 5750000000000)
    ∧ ((after (.clockEdge 0 0 false) clocked).port 0).pin = false :=
  ⟨by decide +kernel, by decide +kernel, by decide +kernel, by decide +kernel, by decide +kernel,
   by decide +kernel, by decide +kernel, by decide +kernel, clocked_undisturbed _, by decide +kernel⟩

theorem witness_PinsFollowTheirEdges_messages :
    let s (v : PortState) := portWith (fun x => { x with state := v, pendingMessage := some 6 }) timed
    let ev : StepEvent :=
      { kind := .host, seconds := 3, picos := 0, before := 5, after := 8, forward := true
        pending := false }
    (secondRecord 6 timed).second = 6 ∧ ((s .active).port 0).pendingMessage = some 6
    ∧ ((s .active).port 0).state = .active ∧ ((s .held).port 0).state ≠ .active
    ∧ (timed.port 0).pendingMessage ≠ some 6 ∧ ev.forward = true ∧ ev.before < 6 ∧ 6 ≤ ev.after
    ∧ ((portStep ev 0 (s .active)).port 0).message.map TimeMessage.step = some true
    ∧ ((composeRecorded (secondRecord 6 timed) (s .held)).port 0).pendingMessage = none := by
  decide +kernel

end Sys2Proof.Tests
end

section
set_option Elab.async false

namespace Sys2Proof.Machine

open Sys2Proof.Safety

/-! ## What one step can be

A step is PIN_RESET, or one of the transitions below: the taking of a request, an event, or the idle
count.  What every step keeps is shown over them. -/

/-- The effects of the catalogue's requests, each with whatever operands it carries (11.3). -/
inductive CatalogueEffect : Request.Effect → Prop
  | setTime (n : Nat) (o : Option Nat) : CatalogueEffect (requestSetTime n o)
  | getTime : CatalogueEffect requestGetTime
  | setReference (n : Nat) (c : ReferenceConfig) : CatalogueEffect (requestSetReference n c)
  | getReference (n : Nat) : CatalogueEffect (requestGetReference n)
  | lockout (n : Nat) (b : Bool) : CatalogueEffect (requestLockout n b)
  | clearCounts (n : Option Nat) : CatalogueEffect (requestClearCounts n)
  | label (n k : Nat) : CatalogueEffect (requestLabel n k)
  | sample (q : Nat) (o : Int) (d : Nat) (g : Grade) : CatalogueEffect (requestSample q o d g)
  | setFilter (c : FilterConfig) : CatalogueEffect (requestSetFilter c)
  | getFilter (b : Bool) : CatalogueEffect (requestGetFilter b)
  | setSelection (c : SelectionConfig) : CatalogueEffect (requestSetSelection c)
  | getSelection : CatalogueEffect requestGetSelection
  | setServo (c : ServoConfig) : CatalogueEffect (requestSetServo c)
  | getServo : CatalogueEffect requestGetServo
  | allowStep : CatalogueEffect requestAllowStep
  | setHoldover (c : HoldoverConfig) : CatalogueEffect (requestSetHoldover c)
  | getHoldover : CatalogueEffect requestGetHoldover
  | getHistory (n k : Nat) : CatalogueEffect (requestGetHistory n k)
  | clearHistory : CatalogueEffect requestClearHistory
  | setPort (n : Nat) (c : PortConfig) : CatalogueEffect (requestSetPort n c)
  | enablePort (n : Nat) : CatalogueEffect (requestEnablePort n)
  | disablePort (n : Nat) : CatalogueEffect (requestDisablePort n)
  | adjustPort (n : Nat) (a : Int) : CatalogueEffect (requestAdjustPort n a)
  | getPort (n : Nat) : CatalogueEffect (requestGetPort n)
  | setChain (c : ChainConfig) : CatalogueEffect (requestSetChain c)
  | getChain : CatalogueEffect requestGetChain
  | chainCommand (k : Option ChainCommandKind) (t : Nat) (a : Option Leap) :
      CatalogueEffect (requestChainCommand k t a)
  | chainCancel : CatalogueEffect requestChainCancel
  | postWord (w : Word32) : CatalogueEffect (requestPostWord w)
  | fetchWord : CatalogueEffect requestFetchWord
  | schedule (k : Option ActionKind) (d : Nat) (a : Option Nat) : CatalogueEffect (requestSchedule k d a)
  | cancel (n : Nat) : CatalogueEffect (requestCancel n)
  | getActions : CatalogueEffect requestGetActions
  | setAlarm (k : Option AlarmKind) (c : AlarmConfig) : CatalogueEffect (requestSetAlarm k c)
  | getAlarms (q : AlarmQuery) : CatalogueEffect (requestGetAlarms q)
  | ackAlarm (t : AckTarget) : CatalogueEffect (requestAckAlarm t)
  | getNotices (n : Nat) : CatalogueEffect (requestGetNotices n)
  | setAttention (b : Bool) : CatalogueEffect (requestSetAttention b)
  | getStatus : CatalogueEffect requestGetStatus
  | saveProfile : CatalogueEffect requestSaveProfile
  | restart : CatalogueEffect requestRestart

/-- A body read whole gives an effect of the catalogue. -/
theorem requestEffect_catalogue {kind : Nat} {b : List Byte} {f : Request.Effect}
    (h : requestEffect kind b = some f) : CatalogueEffect f := by
  unfold requestEffect reads readsNone reads at h
  split at h <;> simp only [Option.map_eq_some_iff, reduceCtorEq] at h <;>
    obtain ⟨x, -, rfl⟩ := h <;> with_reducible constructor

/-- What a step other than PIN_RESET can do to the state, the commands that wait apart. -/
inductive Transition : State → State → Prop
  | stays (s : State) : Transition s s
  | starts (p : Option Profile) (a : BitVec 3) (f : Option FlashImage) (s : State)
      (h : s.part = .loading) (hp : ∀ q, p = some q → goodProfile f = some q) :
      Transition s (enterRunning p a (s.setFlash f))
  | saveSucceeds (s : State) : Transition s (saveSucceeds s)
  | saveFails (s : State) : Transition s (saveFails s)
  | octets (l : List Byte) (s : State) : Transition s (receiveOctets l.length l s)
  | linkError (s : State) : Transition s (linkError s)
  | replySent (s : State) : Transition s (replyFinished (restartActs s))
  | unknownKind (q : Request) (s : State) : Transition s (takeRequest q (restartActs s))
  | request (kind tag : Byte) {f : Request.Effect} (hf : CatalogueEffect f) (s : State) :
      Transition s (takeTyped kind tag f s)
  | restarts (s : State) : Transition s (restartActs s)
  | boundary (order : List Block) (s : State) : Transition s (nextBoundary order s)
  | endOfRange (s : State) : Transition s (reachEnd s)
  | satPulse (k : SatSlot) (t : Nat) (s : State) : Transition s (satPulse k t s)
  | satWindowClose (k : SatSlot) (s : State) : Transition s (satWindowClose k s)
  | lineEdge (k : LineSlot) (t n : Nat) (s : State) : Transition s (lineEdge k t n s)
  | lineLoss (k : LineSlot) (s : State) : Transition s (lineLoss k s)
  | chainMarker (p : ChainPort) (t : Nat) (s : State) : Transition s (chainMarker p t s)
  | chainFrame (p : ChainPort) (t : Nat) (l : List Byte) (b : Bool) (s : State) :
      Transition s (chainFrame p t l b s)
  | qualifies (k : Slot) (s : State) : Transition s (qualifies k s)
  | waitEnds (k : Slot) (s : State) : Transition s (waitEnds k s)
  | periodEnds (k : Slot) (s : State) : Transition s (periodEnds k s)
  | dwellExpires (s : State) : Transition s (dwellExpires s)
  | rearmExpires (p : Fin 12) (s : State) : Transition s (rearmExpires p s)
  | emission (p : Fin 12) (s : State) : Transition s (portEmission p s)
  | pulseEnd (p : Fin 12) (s : State) : Transition s (pulseEnd p s)
  | swapExpires (s : State) : Transition s (swapExpires s)
  | conflictExpires (s : State) : Transition s (conflictExpires s)
  | tooLongExpires (s : State) : Transition s (tooLongExpires s)
  | alarmDelay (f : AlarmConfig → Nat → AlarmEntry → EntryStep) (k : AlarmKind) (n : Nat) (s : State) :
      Transition s (s.moveAlarm f k n)
  | clockEdge (p : Fin 12) (k : Nat) (b : Bool) (s : State) : Transition s (clockEdge p k b s)
  | idle (s : State) : Transition s (idle s)

theorem Transition.ite {s t : State} {c : Prop} [Decidable c] (h : Transition s t) :
    Transition s (if c then t else s) := by
  split
  · exact h
  · exact .stays s

theorem setFlash_flash (s : State) : s.setFlash s.flash = s := rfl

theorem loadDone_transition (r : FlashRead) (a : BitVec 3) (s : State) :
    Transition s (loadDone r a s) := by
  unfold loadDone
  split
  · rename_i h
    cases r with
    | stored =>
      have g := Transition.starts (goodProfile s.flash) a s.flash s h fun _ e => e
      rwa [setFlash_flash] at g
    | image i => exact .starts _ a _ s h fun _ e => e
  · exact .stays s

theorem loadTimeout_transition (a : BitVec 3) (s : State) : Transition s (loadTimeout a s) := by
  unfold loadTimeout
  split
  · rename_i h
    have g := Transition.starts none a s.flash s h (by simp)
    rwa [setFlash_flash] at g
  · exact .stays s

theorem saveDone_transition (r : SaveResult) (s : State) : Transition s (saveDone r s) := by
  unfold saveDone
  split
  · cases r with
    | readBackMatches => exact .saveSucceeds s
    | refused => exact .saveFails s
    | readBackDiffers => exact .saveFails s
  · exact .stays s

/-- Every command but PIN_RESET makes one of the transitions. -/
theorem exec_transition {c : Instr} {s t : State} (h : exec c s = .next t) :
    (∃ m, c = .pinReset m ∧ t = pinReset m s) ∨ Transition s t := by
  cases c <;> cases h
  case pinReset m => exact .inl ⟨m, rfl, rfl⟩
  all_goals right
  case profileLoadDone r a => exact loadDone_transition r a s
  case profileLoadTimeout a => exact loadTimeout_transition a s
  case profileSaveDone r => exact saveDone_transition r s
  case profileSaveTimeout => exact .ite (.saveFails s)
  case frameReceived l => exact .octets l s
  case selectReleased => exact .ite (.linkError s)
  case frameTimeout => exact .ite (.linkError s)
  case overlongBodyLength => exact .ite (.linkError s)
  case replySent => exact .replySent s
  case unknownKind tag kind =>
    split
    · exact .stays s
    · exact .unknownKind _ s
  case softRestart => exact .restarts s
  case secondBoundary order => exact .boundary order s
  case endOfRange => exact .endOfRange s
  case satPulse k t => exact .satPulse k t s
  case satWindowClose k => exact .satWindowClose k s
  case lineEdge k t n => exact .lineEdge k t n s
  case lineLoss k => exact .lineLoss k s
  case chainMarker p t => exact .chainMarker p t s
  case chainFrame p t l b => exact .chainFrame p t l b s
  case qualifyTimerExpiry k => exact .qualifies k s
  case waitTimerExpiry k => exact .waitEnds k s
  case observationPeriodEnd k => exact .periodEnds k s
  case dwellExpiry => exact .dwellExpires s
  case rearmTimerExpiry p => exact .rearmExpires p s
  case portEmission p => exact .emission p s
  case pulseEnd p => exact .pulseEnd p s
  case swapTimerExpiry => exact .swapExpires s
  case conflictTimerExpiry => exact .conflictExpires s
  case tooLongTimerExpiry => exact .tooLongExpires s
  case raiseDelayExpiry k n => exact .alarmDelay _ k n s
  case clearDelayExpiry k n => exact .alarmDelay _ k n s
  case clockEdge p k b => exact .clockEdge p k b s
  all_goals exact .request _ _ (by with_reducible constructor) s

/-- A step is PIN_RESET or a transition, from the state without the command it takes. -/
theorem step_transition {s t : State} (h : step s = .next t) :
    ∃ rest, (∃ m, s.pending = .pinReset m :: rest ∧ t = pinReset m (s.setPending rest))
      ∨ Transition (s.setPending rest) t := by
  unfold step at h
  split at h
  · obtain rfl := Host.Outcome.next.inj h
    exact ⟨s.pending, .inr (.idle s)⟩
  · rename_i c rest hp
    obtain ⟨m, rfl, rfl⟩ | g := exec_transition h
    · exact ⟨rest, .inl ⟨m, hp, rfl⟩⟩
    · exact ⟨rest, .inr g⟩

end Sys2Proof.Machine
end

section
set_option Elab.async false

namespace Sys2Proof.Machine

open Sys2Proof.Safety

/-! ## I and F within the pull range (R1, R84, R89, R95) -/

/-- Every request keeps the laws of the shared operations. -/
theorem CatalogueEffect.keeps {f : Request.Effect} (h : CatalogueEffect f) : KeepsAll f := by
  cases h with
  | setTime n o => exact requestSetTime_keeps n o
  | setReference n c => exact requestSetReference_keeps n c
  | getReference n => exact requestGetReference_keeps n
  | lockout n b => exact requestLockout_keeps n b
  | clearCounts n => exact requestClearCounts_keeps n
  | label n k => exact requestLabel_keeps n k
  | sample q o d g => exact requestSample_keeps q o d g
  | setFilter c => exact requestSetFilter_keeps c
  | getFilter b => exact requestGetFilter_keeps b
  | setSelection c => exact requestSetSelection_keeps c
  | setServo c => exact requestSetServo_keeps c
  | allowStep => exact requestAllowStep_keeps
  | setHoldover c => exact requestSetHoldover_keeps c
  | getHistory n k => exact requestGetHistory_keeps n k
  | clearHistory => exact requestClearHistory_keeps
  | setPort n c => exact requestSetPort_keeps n c
  | enablePort n => exact requestEnablePort_keeps n
  | disablePort n => exact requestDisablePort_keeps n
  | adjustPort n a => exact requestAdjustPort_keeps n a
  | getPort n => exact requestGetPort_keeps n
  | setChain c => exact requestSetChain_keeps c
  | chainCommand k t a => exact requestChainCommand_keeps k t a
  | chainCancel => exact requestChainCancel_keeps
  | postWord w => exact requestPostWord_keeps w
  | fetchWord => exact requestFetchWord_keeps
  | schedule k d a => exact requestSchedule_keeps k d a
  | cancel n => exact requestCancel_keeps n
  | setAlarm k c => exact requestSetAlarm_keeps k c
  | getAlarms q => exact requestGetAlarms_keeps q
  | ackAlarm t => exact requestAckAlarm_keeps t
  | getNotices n => exact requestGetNotices_keeps n
  | setAttention b => exact requestSetAttention_keeps b
  | saveProfile => exact requestSaveProfile_keeps
  | restart => exact requestRestart_keeps
  | getTime | getSelection | getServo | getHoldover | getChain | getActions | getStatus =>
    exact fun s => .refl s

/-- Every transition but a start keeps the laws; a start makes them hold. -/
theorem Transition.keeps {s t : State} (h : Transition s t) :
    Keeps s t ∨ s.part = .loading ∧ Lawful t := by
  cases h with
  | starts p a f s h hp =>
    exact .inr ⟨h, enterRunning_lawful p a _ fun q e => goodProfile_ports (hp q e)⟩
  | stays s => exact .inl (.refl s)
  | saveSucceeds s => exact .inl (saveSucceeds_keeps s)
  | saveFails s => exact .inl (saveFails_keeps s)
  | octets l s => exact .inl (receiveOctets_keeps _ l s)
  | linkError s => exact .inl (linkError_keeps s)
  | replySent s => exact .inl ((restartActs_keeps s).trans (replyFinished_keeps _))
  | unknownKind q s => exact .inl ((restartActs_keeps s).trans (takeRequest_keeps q _))
  | request kind tag hf s => exact .inl (takeTyped_keeps kind tag hf.keeps s)
  | restarts s => exact .inl (restartActs_keeps s)
  | boundary order s => exact .inl (nextBoundary_keeps order s)
  | endOfRange s => exact .inl (reachEnd_keeps s)
  | satPulse k t s => exact .inl (satPulse_keeps k t s)
  | satWindowClose k s => exact .inl (satWindowClose_keeps k s)
  | lineEdge k t n s => exact .inl (lineEdge_keeps k t n s)
  | lineLoss k s => exact .inl (lineLoss_keeps k s)
  | chainMarker p t s => exact .inl (chainMarker_keeps p t s)
  | chainFrame p t l b s => exact .inl (chainFrame_keeps p t l b s)
  | qualifies k s => exact .inl (qualifies_keeps k s)
  | waitEnds k s => exact .inl (waitEnds_keeps k s)
  | periodEnds k s => exact .inl (periodEnds_keeps k s)
  | dwellExpires s => exact .inl (dwellExpires_keeps s)
  | rearmExpires p s => exact .inl (rearmExpires_keeps p s)
  | emission p s => exact .inl (portEmission_keeps p s)
  | pulseEnd p s => exact .inl (pulseEnd_keeps p s)
  | swapExpires s => exact .inl (swapExpires_keeps s)
  | conflictExpires s => exact .inl (conflictExpires_keeps s)
  | tooLongExpires s => exact .inl (tooLongExpires_keeps s)
  | alarmDelay f k n s => exact .inl (moveAlarm_keeps f k n s)
  | clockEdge p k b s => exact .inl (clockEdge_keeps p k b s)
  | idle s => exact .inl (idle_keeps s)

/-- Settles O6: a step but a start and PIN_RESET keeps the law, and those two write I and F at a value
clamped to the pull range. -/
theorem stepsKeepFrequencyWithinThePullRange :
    Obligations.StepsKeepFrequencyWithinThePullRange := by
  intro s t h law
  obtain ⟨rest, ⟨m, -, rfl⟩ | g⟩ := step_transition h
  · exact (pinReset_lawful m _).frequency
  · obtain k | ⟨-, l⟩ := g.keeps
    · exact k.frequency ⟨law.estimate, law.correction⟩
    · exact l.frequency

end Sys2Proof.Machine
end

section
set_option Elab.async false

namespace Sys2Proof.Machine

open Sys2Proof.Safety

/-! ## The time base and the action table (R1, R4, R9, R160 to R164) -/

/-- Only SET_TIME, SET_SERVO, SCHEDULE and CANCEL touch the time base or the scheduler. -/
theorem CatalogueEffect.counts {f : Request.Effect} (h : CatalogueEffect f) : CountsAll f := by
  cases h with
  | setTime n o => exact requestSetTime_counts n o
  | setServo c => exact requestSetServo_counts c
  | schedule k d a => exact requestSchedule_counts k d a
  | cancel n => exact requestCancel_counts n
  | _ => exact countsAll_of_blocks fun s => by simp

/-- Every transition keeps the laws of the time base and of the action table. -/
theorem Transition.both {s t : State} (h : Transition s t) (g : TimeAndTable s) : TimeAndTable t := by
  cases h with
  | boundary order s => exact nextBoundary_both order s g
  | idle s => exact idle_both s g
  | stays s => exact g
  | starts p a f s => 
    have w : Counts s (s.setFlash f) := .of_blocks rfl rfl
    exact (w.trans (enterRunning_counts p a _)).both g
  | octets l s => exact (receiveOctets_counts _ l s).both g
  | replySent s => exact ((restartActs_counts s).trans (replyFinished_counts _)).both g
  | unknownKind q s => exact ((restartActs_counts s).trans (takeRequest_counts q _)).both g
  | request kind tag hf s => exact (takeTyped_counts kind tag hf.counts s).both g
  | restarts s => exact (restartActs_counts s).both g
  | endOfRange s => exact (reachEnd_counts s).both g
  | satPulse k t s => exact (satPulse_counts k t s).both g
  | satWindowClose k s => exact (satWindowClose_counts k s).both g
  | lineEdge k t n s => exact (lineEdge_counts k t n s).both g
  | lineLoss k s => exact (lineLoss_counts k s).both g
  | chainMarker p t s => exact (chainMarker_counts p t s).both g
  | chainFrame p t l b s => exact (chainFrame_counts p t l b s).both g
  | emission p s => exact (portEmission_counts p s).both g
  | clockEdge p k b s => exact (clockEdge_counts p k b s).both g
  | linkError s => exact (setLink_counts s _).both g
  | saveSucceeds | saveFails | qualifies | waitEnds | periodEnds | dwellExpires
  | rearmExpires | pulseEnd | swapExpires | conflictExpires | tooLongExpires | alarmDelay =>
    exact (Counts.of_blocks (by simp) (by simp)).both g

/-- Settles O10: PIN_RESET empties the table and sets the time base to 0; every other step keeps both
laws, the boundary because the scheduler then takes what was due at its second. -/
theorem stepsKeepTheTimeBaseAndTheTable : Obligations.StepsKeepTheTimeBaseAndTheTable := by
  intro s t h law
  obtain ⟨rest, ⟨m, -, rfl⟩ | g⟩ := step_transition h
  · exact (pinReset_counts m (s.setPending rest)).both ⟨law.1, law.2.room, law.2.ahead, law.2.order, law.2.ids⟩
  · exact g.both ⟨law.1, law.2.room, law.2.ahead, law.2.order, law.2.ids⟩

end Sys2Proof.Machine
end

section
set_option Elab.async false

namespace Sys2Proof.Machine

open Sys2Proof.Safety

/-! ## The last emitted seconds

Only the use of an emission instant writes a port's last emitted second (R125); what judges, moves,
serves or disables a port leaves it. -/

/-- The last emitted second of each port. -/
def emissions (v : Vector Port 12) (p : Fin 12) : Option Nat := v[p].lastEmitted

@[simp] theorem emissions_setPort (s : State) (p : Fin 12) (x : Port)
    (h : x.lastEmitted = (s.port p).lastEmitted) : emissions (s.setPort p x).ports = emissions s.ports := by
  funext q
  show ((s.setPort p x).port q).lastEmitted = (s.port q).lastEmitted
  rw [State.setPort_port_eq]
  split
  · rename_i e; rw [h, e]
  · rfl

@[simp] theorem emissions_map (f : Port → Port) (v : Vector Port 12)
    (h : ∀ x, (f x).lastEmitted = x.lastEmitted) : emissions (v.map f) = emissions v := by
  funext p
  simp [emissions, h]

@[simp] theorem portCleared_lastEmitted (x : Port) : (portCleared x).lastEmitted = x.lastEmitted := by
  unfold portCleared
  rfl

@[simp] theorem portStepped_lastEmitted (ev : StepEvent) (x : Port) :
    (portStepped ev x).lastEmitted = x.lastEmitted := by
  dsimp only [portStepped]
  (repeat' split) <;> rfl

@[simp] theorem edgedPort_lastEmitted (k : Nat) (b : Bool) (x : Port) :
    (edgedPort k b x).lastEmitted = x.lastEmitted := by
  unfold edgedPort
  (repeat' split) <;> rfl

@[simp] theorem portMove_emissions (p : Fin 12) (new : PortState) (c : PortCause) (s : State) :
    emissions (portMove p new c s).ports = emissions s.ports := by
  dsimp only [portMove]
  (repeat' split) <;> simp

@[simp] theorem portRearm_emissions (p : Fin 12) (t : Timer) (s : State) :
    emissions (portRearm p t s).ports = emissions s.ports := by
  simp [portRearm]

@[simp] theorem portEnable_emissions (p : Fin 12) (c : PortCause) (s : State) :
    emissions ((portEnable p c s).1).ports = emissions s.ports := by
  dsimp only [portEnable]
  (repeat' split) <;> simp

@[simp] theorem portDisable_emissions (p : Fin 12) (c : PortCause) (s : State) :
    emissions ((portDisable p c s).1).ports = emissions s.ports := by
  dsimp only [portDisable]
  (repeat' split) <;> simp

@[simp] theorem portJudge_emissions (g : Grade) (p : Fin 12) (s : State) :
    emissions (portJudge g p s).ports = emissions s.ports := by
  dsimp only [portJudge]
  (repeat' split) <;> simp

@[simp] theorem presentGrade_emissions (g : Grade) (s : State) :
    emissions (presentGrade g s).ports = emissions s.ports := by
  unfold presentGrade
  exact foldl_keeps (fun s => emissions s.ports) (fun s x => by simp) _ s

@[simp] theorem rearmExpires_emissions (p : Fin 12) (s : State) :
    emissions (rearmExpires p s).ports = emissions s.ports := by
  dsimp only [rearmExpires]
  (repeat' split) <;> simp

@[simp] theorem composeMessage_emissions (p : Fin 12) (r : SecondRecord) (o : Nat) (s : State) :
    emissions (composeMessage p r o s).ports = emissions s.ports := by
  dsimp only [composeMessage]
  (repeat' split) <;> simp

@[simp] theorem composeRecorded_emissions (r : SecondRecord) (s : State) :
    emissions (composeRecorded r s).ports = emissions s.ports := by
  unfold composeRecorded
  exact foldl_keeps (fun s => emissions s.ports) (fun s x => by split <;> simp) _ s

@[simp] theorem serveHead_emissions (l : Option Nat) (p : Fin 12) (s : State) :
    emissions (serveHead l p s).ports = emissions s.ports := by
  dsimp only [serveHead]
  (repeat' split) <;> simp

@[simp] theorem portBoundary_emissions (p : Fin 12) (s : State) :
    emissions (portBoundary p s).ports = emissions s.ports := by
  dsimp only [portBoundary]
  (repeat' split) <;> simp

@[simp] theorem portsBoundary_emissions (s : State) :
    emissions (portsBoundary s).ports = emissions s.ports := by
  unfold portsBoundary
  exact foldl_keeps (fun s => emissions s.ports) (fun s x => by simp) _ s

@[simp] theorem portStep_emissions (ev : StepEvent) (p : Fin 12) (s : State) :
    emissions (portStep ev p s).ports = emissions s.ports := by
  dsimp only [portStep]
  (repeat' split) <;> simp

@[simp] theorem portsStep_emissions (ev : StepEvent) (s : State) :
    emissions (portsStep ev s).ports = emissions s.ports := by
  unfold portsStep
  exact foldl_keeps (fun s => emissions s.ports) (fun s x => by simp) _ s

@[simp] theorem recomputeGrade_emissions (s : State) :
    emissions (recomputeGrade s).ports = emissions s.ports := by
  dsimp only [recomputeGrade]
  (repeat' split) <;> simp

@[simp] theorem judgeEstimate_emissions (s : State) :
    emissions (judgeEstimate s).ports = emissions s.ports := by
  simp [judgeEstimate]

@[simp] theorem holdoverSecond_emissions (s : State) :
    emissions (holdoverSecond s).ports = emissions s.ports := by
  simp [holdoverSecond]

@[simp] theorem freqLockedSecond_emissions (s : State) :
    emissions (freqLockedSecond s).ports = emissions s.ports := by
  simp [freqLockedSecond]

@[simp] theorem estimateSecond_emissions (s : State) :
    emissions (estimateSecond s).ports = emissions s.ports := by
  dsimp only [estimateSecond]
  (repeat' split) <;> simp

@[simp] theorem takeReport_emissions (r : UpdateReport) (s : State) :
    emissions (takeReport r s).ports = emissions s.ports := by
  dsimp only [takeReport]
  (repeat' split) <;> simp

@[simp] theorem servoEntered_emissions (o n : ServoState) (s : State) :
    emissions (servoEntered o n s).ports = emissions s.ports := by
  simp [servoEntered]

@[simp] theorem servoEnter_emissions (n : ServoState) (c : ServoCause) (s : State) :
    emissions (servoEnter n c s).ports = emissions s.ports := by
  dsimp only [servoEnter]
  (repeat' split) <;> simp

@[simp] theorem servoDeselected_emissions (s : State) :
    emissions (servoDeselected s).ports = emissions s.ports := by
  dsimp only [servoDeselected]
  (repeat' split) <;> simp

@[simp] theorem servoToPhase_emissions (s : State) :
    emissions (servoToPhase s).ports = emissions s.ports := by
  dsimp only [servoToPhase]
  (repeat' split) <;> simp

@[simp] theorem servoToLine_emissions (s : State) :
    emissions (servoToLine s).ports = emissions s.ports := by
  dsimp only [servoToLine]
  (repeat' split) <;> simp

@[simp] theorem servoSwitch_emissions (k : Option Slot) (s : State) :
    emissions (servoSwitch k s).ports = emissions s.ports := by
  dsimp only [servoSwitch]
  (repeat' split) <;> simp

@[simp] theorem switchTo_emissions (k : Option Slot) (c : EvalCause) (s : State) :
    emissions (switchTo k c s).ports = emissions s.ports := by
  simp [switchTo]

@[simp] theorem choose_emissions (k : Option Slot) (c : EvalCause) (s : State) :
    emissions (choose k c s).ports = emissions s.ports := by
  dsimp only [choose]
  (repeat' split) <;> simp

@[simp] theorem evaluateAuto_emissions (c : EvalCause) (s : State) :
    emissions (evaluateAuto c s).ports = emissions s.ports := by
  dsimp only [evaluateAuto]
  (repeat' split) <;> simp

@[simp] theorem evaluate_emissions (c : EvalCause) (s : State) :
    emissions (evaluate c s).ports = emissions s.ports := by
  dsimp only [evaluate]
  (repeat' split) <;> simp

@[simp] theorem reportToSelector_emissions (s : State) :
    emissions (reportToSelector s).ports = emissions s.ports := by
  simp [reportToSelector]

@[simp] theorem dwellExpires_emissions (s : State) :
    emissions (dwellExpires s).ports = emissions s.ports := by
  dsimp only [dwellExpires]
  (repeat' split) <;> simp

@[simp] theorem writeMode_emissions (m : SelMode) (v : Option SelMode) (s : State) :
    emissions (writeMode m v s).ports = emissions s.ports := by
  simp [writeMode]

@[simp] theorem modeHold_emissions (s : State) :
    emissions ((modeHold s).1).ports = emissions s.ports := by
  dsimp only [modeHold]
  (repeat' split) <;> simp

@[simp] theorem modeRelease_emissions (s : State) :
    emissions ((modeRelease s).1).ports = emissions s.ports := by
  dsimp only [modeRelease]
  (repeat' split) <;> simp

@[simp] theorem modeSelect_emissions (k : Slot) (s : State) :
    emissions (modeSelect k s).ports = emissions s.ports := by
  simp [modeSelect]

@[simp] theorem modeAuto_emissions (s : State) :
    emissions (modeAuto s).ports = emissions s.ports := by
  simp [modeAuto]

@[simp] theorem enterChecking_emissions (k : Slot) (s : State) :
    emissions (enterChecking k s).ports = emissions s.ports := by
  simp [enterChecking]

@[simp] theorem enterAbsent_emissions (k : Slot) (s : State) :
    emissions (enterAbsent k s).ports = emissions s.ports := by
  simp [enterAbsent]

@[simp] theorem enterDisabled_emissions (k : Slot) (c : ReferenceConfig) (s : State) :
    emissions (enterDisabled k c s).ports = emissions s.ports := by
  simp [enterDisabled]

@[simp] theorem failSlot_emissions (c : FailCause) (k : Slot) (s : State) :
    emissions (failSlot c k s).ports = emissions s.ports := by
  dsimp only [failSlot]
  (repeat' split) <;> simp

@[simp] theorem signalAppears_emissions (k : Slot) (s : State) :
    emissions (signalAppears k s).ports = emissions s.ports := by
  dsimp only [signalAppears]
  (repeat' split) <;> simp

@[simp] theorem declareLoss_emissions (k : Slot) (s : State) :
    emissions (declareLoss k s).ports = emissions s.ports := by
  dsimp only [declareLoss]
  (repeat' split) <;> simp

@[simp] theorem missEpoch_emissions (l : Nat) (k : Slot) (s : State) :
    emissions (missEpoch l k s).ports = emissions s.ports := by
  dsimp only [missEpoch]
  (repeat' split) <;> simp

@[simp] theorem demandRaise_emissions (b : Bool) (k : Slot) (s : State) :
    emissions (demandRaise b k s).ports = emissions s.ports := by
  dsimp only [demandRaise]
  (repeat' split) <;> simp

@[simp] theorem periodEnds_emissions (k : Slot) (s : State) :
    emissions (periodEnds k s).ports = emissions s.ports := by
  dsimp only [periodEnds]
  (repeat' split) <;> simp

@[simp] theorem qualifies_emissions (k : Slot) (s : State) :
    emissions (qualifies k s).ports = emissions s.ports := by
  dsimp only [qualifies]
  (repeat' split) <;> simp

@[simp] theorem waitEnds_emissions (k : Slot) (s : State) :
    emissions (waitEnds k s).ports = emissions s.ports := by
  dsimp only [waitEnds]
  (repeat' split) <;> simp

@[simp] theorem agreementJudge_emissions (s : State) :
    emissions (agreementJudge s).ports = emissions s.ports := by
  unfold agreementJudge
  dsimp only
  (repeat' split) <;> simp [foldl_keeps (fun s => emissions s.ports)]

@[simp] theorem takeEffect_emissions (a : Action) (s : State) :
    emissions ((takeEffect a s).1).ports = emissions s.ports := by
  unfold takeEffect byPort byMode
  (repeat' split) <;> simp

@[simp] theorem takeAction_emissions (l : Bool) (s : State) (a : Action) :
    emissions (takeAction l s a).ports = emissions s.ports := by
  dsimp only [takeAction]
  (repeat' split) <;> simp

@[simp] theorem boundaryActions_emissions (s : State) :
    emissions (boundaryActions s).ports = emissions s.ports := by
  unfold boundaryActions
  exact foldl_keeps (fun s => emissions s.ports) (fun s x => by simp) _ s

@[simp] theorem schedulerStep_emissions (ev : StepEvent) (s : State) :
    emissions (schedulerStep ev s).ports = emissions s.ports := by
  unfold schedulerStep
  exact foldl_keeps (fun s => emissions s.ports) (fun s x => by simp) _ s

@[simp] theorem timeGiven_emissions (s : State) :
    emissions (timeGiven s).ports = emissions s.ports := by
  simp [timeGiven]

@[simp] theorem judgeAcquiring_emissions (e : Int) (s : State) :
    emissions (judgeAcquiring e s).ports = emissions s.ports := by
  dsimp only [judgeAcquiring]
  (repeat' split) <;> simp

@[simp] theorem judgeLocked_emissions (e : Int) (s : State) :
    emissions (judgeLocked e s).ports = emissions s.ports := by
  dsimp only [judgeLocked]
  (repeat' split) <;> simp

@[simp] theorem firstUpdate_emissions (e : Int) (s : State) :
    emissions (firstUpdate e s).ports = emissions s.ports := by
  dsimp only [firstUpdate]
  (repeat' split) <;> simp

@[simp] theorem slewUpdate_emissions (e : Int) (l : Nat) (s : State) :
    emissions ((slewUpdate e l s).result).ports = emissions s.ports := by
  unfold slewUpdate
  dsimp only
  split <;> simp

@[simp] theorem wanderJudge_emissions (k : Slot) (v : Int) (s : State) :
    emissions (wanderJudge k v s).ports = emissions s.ports := by
  dsimp only [wanderJudge]
  (repeat' split) <;> simp

@[simp] theorem recordMeasurement_emissions (k : Slot) (x : Measurement) (s : State) :
    emissions (recordMeasurement k x s).ports = emissions s.ports := by
  dsimp only [recordMeasurement]
  (repeat' split) <;> simp

@[simp] theorem timeCheck_emissions (k : Slot) (x : Measurement) (s : State) :
    emissions ((timeCheck k x s).1).ports = emissions s.ports := by
  dsimp only [timeCheck]
  (repeat' split) <;> simp

@[simp] theorem judgeSample_emissions (x : Sample) (s : State) :
    emissions ((judgeSample x s).1).ports = emissions s.ports := by
  dsimp only [judgeSample]
  (repeat' split) <;> simp

@[simp] theorem actOnCommand_emissions (c : ChainCommand) (s : State) :
    emissions ((actOnCommand c s).1).ports = emissions s.ports := by
  dsimp only [actOnCommand]
  (repeat' split) <;> simp

@[simp] theorem slotExpiries_emissions (s : State) (k : Slot) :
    emissions (slotExpiries s k).ports = emissions s.ports := by
  simp [slotExpiries]

@[simp] theorem closeWindow_emissions (k : SatSlot) (s : State) :
    emissions (closeWindow k s).ports = emissions s.ports := by
  dsimp only [closeWindow]
  (repeat' split) <;> simp

@[simp] theorem closeWindows_emissions (s : State) :
    emissions (closeWindows s).ports = emissions s.ports := by
  simp [closeWindows]

@[simp] theorem countTimers_emissions (n : Nat) (s : State) :
    emissions (countTimers n s).ports = emissions s.ports := by
  simp [countTimers]

@[simp] theorem lineEdgeTaken_emissions (k : LineSlot) (n : Nat) (s : State) :
    emissions (lineEdgeTaken k n s).ports = emissions s.ports := by
  dsimp only [lineEdgeTaken]
  (repeat' split) <;> simp

@[simp] theorem lineLossTaken_emissions (k : LineSlot) (s : State) :
    emissions (lineLossTaken k s).ports = emissions s.ports := by
  dsimp only [lineLossTaken]
  (repeat' split) <;> simp

@[simp] theorem composeAtPulse_emissions (p : Fin 12) (n : Nat) (s : State) :
    emissions (composeAtPulse p n s).ports = emissions s.ports := by
  dsimp only [composeAtPulse]
  (repeat' split) <;> simp

@[simp] theorem lineEdgeArrives_emissions (k : LineSlot) (n : Nat) (s : State) :
    emissions (lineEdgeArrives k n s).ports = emissions s.ports := by
  dsimp only [lineEdgeArrives]
  split <;> simp

@[simp] theorem edgeArrives_emissions (p : Fin 12) (k : Nat) (b : Bool) (s : State) :
    emissions (edgeArrives p k b s).ports = emissions s.ports := by
  dsimp only [edgeArrives]
  split <;> simp

@[simp] theorem pulseEnd_emissions (p : Fin 12) (s : State) :
    emissions (pulseEnd p s).ports = emissions s.ports := by
  dsimp only [pulseEnd]
  (repeat' split) <;> simp

@[simp] theorem enableSlot_emissions (k : Slot) (c : ReferenceConfig) (s : State) :
    emissions (enableSlot k c s).ports = emissions s.ports := by
  simp [enableSlot]

@[simp] theorem restartSlot_emissions (k : Slot) (c : ReferenceConfig) (s : State) :
    emissions (restartSlot k c s).ports = emissions s.ports := by
  dsimp only [restartSlot]
  (repeat' split) <;> simp

@[simp] theorem configureSlot_emissions (k : Slot) (c : ReferenceConfig) (s : State) :
    emissions (configureSlot k c s).ports = emissions s.ports := by
  dsimp only [configureSlot]
  (repeat' split) <;> simp

@[simp] theorem lockSlot_emissions (k : Slot) (b : Bool) (s : State) :
    emissions (lockSlot k b s).ports = emissions s.ports := by
  dsimp only [lockSlot]
  (repeat' split) <;> simp

@[simp] theorem configureSelection_emissions (c : SelectionConfig) (s : State) :
    emissions (configureSelection c s).ports = emissions s.ports := by
  simp [configureSelection]

@[simp] theorem configurePort_emissions (c : PortConfig) (p : Fin 12) (s : State) :
    emissions (configurePort c p s).ports = emissions s.ports := by
  dsimp only [configurePort]
  (repeat' split) <;> simp

end Sys2Proof.Machine
end

section
set_option Elab.async false

namespace Sys2Proof.Machine

open Sys2Proof.Safety

/-! ## What only PIN_RESET takes back (R12, R13, R18, R125, R142) -/

/-- A last second that stands, if there was one, has not gone back. -/
def NotBack (a b : Option Nat) : Prop := ∀ n, a = some n → ∃ m, b = some m ∧ n ≤ m

theorem NotBack.refl (a : Option Nat) : NotBack a a := fun n h => ⟨n, h, le_refl n⟩

theorem NotBack.of_eq {a b : Option Nat} (h : b = a) : NotBack a b := h ▸ .refl a

theorem NotBack.trans {a b c : Option Nat} (h : NotBack a b) (g : NotBack b c) : NotBack a c := by
  intro n e
  obtain ⟨m, e', hm⟩ := h n e
  obtain ⟨k, e'', hk⟩ := g m e'
  exact ⟨k, e'', hm.trans hk⟩

/-- Time that is set stays set, and no last emitted or last sent second goes back. -/
structure Retains (s t : State) : Prop where
  set : s.time.timeSet = true → t.time.timeSet = true
  emitted : ∀ p, NotBack (emissions s.ports p) (emissions t.ports p)
  sent : NotBack s.chain.lastSent t.chain.lastSent

theorem Retains.of_same {s t : State} (set : t.time.timeSet = s.time.timeSet)
    (emitted : emissions t.ports = emissions s.ports) (sent : t.chain.lastSent = s.chain.lastSent) :
    Retains s t := ⟨fun h => set ▸ h, fun _ => emitted ▸ .refl _, .of_eq sent⟩

theorem Retains.refl (s : State) : Retains s s := .of_same rfl rfl rfl

theorem Retains.trans {s t u : State} (h : Retains s t) (g : Retains t u) : Retains s u :=
  ⟨g.set ∘ h.set, fun p => (h.emitted p).trans (g.emitted p), h.sent.trans g.sent⟩

theorem Retains.foldl {α : Type} {f : State → α → State} (h : ∀ s x, Retains s (f s x)) (l : List α)
    (s : State) : Retains s (l.foldl f s) := by
  induction l generalizing s with
  | nil => exact .refl s
  | cons x l ih => exact (h s x).trans (ih _)

/-- A step that leaves the time base, the chain unit and every last emitted second. -/
theorem Retains.of_blocks {s t : State} (time : t.time = s.time)
    (emitted : emissions t.ports = emissions s.ports) (chain : t.chain = s.chain) : Retains s t :=
  .of_same (by rw [time]) emitted (by rw [chain])

/-! ### Scheduler and steps -/

theorem takeEffect_timeSet (a : Action) (s : State) :
    (takeEffect a s).1.time.timeSet = s.time.timeSet := by
  unfold takeEffect byPort byMode byOffset
  (repeat' split) <;> simp

theorem takeAction_retains (l : Bool) (s : State) (a : Action) : Retains s (takeAction l s a) := by
  unfold takeAction
  dsimp only
  split <;>
  exact .of_same (by simp [takeEffect_timeSet, removeAction, refreshLeap]) (by simp) (by simp)

theorem schedulerStep_retains (ev : StepEvent) (s : State) : Retains s (schedulerStep ev s) :=
  .foldl (takeAction_retains true) _ s

theorem presentStep_retains (ev : StepEvent) (s : State) : Retains s (presentStep ev s) := by
  refine .trans ?_ (schedulerStep_retains ev _)
  exact .of_same (by simp) (by simp) (by simp [chainStep])

theorem performStep_retains (k : StepKind) (a : Int) (s : State) : Retains s (performStep k a s) := by
  unfold performStep
  dsimp only
  split
  · exact .refl s
  · refine .trans ?_ (presentStep_retains _ _)
    exact .of_same (by simp [moveTime, timeAt]) (by simp) (by simp)

theorem timeSetting_retains (k : Slot) (d : Int) (s : State) : Retains s (timeSetting k d s) := by
  have w (t : State) (e : emissions t.ports = emissions s.ports) (c : t.chain = s.chain)
      (h : t.time.timeSet = true) : Retains s t :=
    ⟨fun _ => h, fun _ => .of_eq (by rw [e]), .of_eq (by rw [c])⟩
  unfold timeSetting
  dsimp only
  split
  · exact w _ (by simp) (by simp) (by simp)
  · exact (w _ (by simp) (by simp) (by simp)).trans (presentStep_retains _ _)

/-! ### Updates and measurements -/

theorem slewUpdate_retains (e : Int) (l : Nat) (s : State) : Retains s (slewUpdate e l s).result := by
  unfold slewUpdate
  dsimp only
  split <;> exact .of_same (by simp [writeMove]) (by simp) (by simp)

theorem phaseUpdate_retains (e : Int) (l : Nat) (s : State) : Retains s (phaseUpdate e l s).result := by
  have f : Retains s (firstUpdate e s) := .of_blocks (by simp) (by simp) (by simp)
  have w (t : State) : Retains t (t.setServo (clearLockRuns t.servo)) := .of_blocks rfl rfl rfl
  unfold phaseUpdate
  dsimp only
  split
  · exact f.trans ((w _).trans (performStep_retains _ _ _))
  · exact f.trans (slewUpdate_retains _ _ _)

theorem servoUpdate_retains {v : Int} {l : Nat} {s : State} {u : Update}
    (h : servoUpdate v l s = some u) : Retains s u.result := by
  unfold servoUpdate at h
  split at h <;> cases h
  · exact phaseUpdate_retains v l s
  · exact phaseUpdate_retains v l s
  · exact .of_same (by simp [freqUpdate, writeMove]) (by simp) (by simp)

theorem reportUpdate_retains (k : Slot) (v : Int) (l : Nat) (b : State) (u : Update) :
    Retains u.result (reportUpdate k v l b u) := by
  unfold reportUpdate
  exact .of_blocks (by simp) (by simp) (by simp)

theorem handoffUpdate_retains (k : Slot) (m : Measurement) (l : Nat) (b : Bool) (s : State) :
    Retains s (handoffUpdate k m l b s) := by
  have r : Retains s (recordHandoff k m s) := .of_blocks (by simp) (by simp) (by simp)
  unfold handoffUpdate
  dsimp only
  split
  · rename_i u hu
    refine r.trans (.trans ?_ (reportUpdate_retains k _ l _ u))
    split at hu
    · cases hu; exact performStep_retains _ _ _
    · exact servoUpdate_retains hu
  · exact r

theorem handoff_retains (k : Slot) (m : Measurement) (b : Bool) (s : State) :
    Retains s (handoff k m b s) := by
  unfold handoff
  dsimp only
  (repeat' split) <;> first
    | with_reducible exact .refl s
    | with_reducible exact handoffUpdate_retains _ _ _ _ s
    | with_reducible exact timeSetting_retains _ _ s
    | with_reducible exact (timeSetting_retains _ _ s).trans (handoffUpdate_retains _ _ _ _ _)

theorem checkMeasurement_retains (k : Slot) (x : Measurement) (s : State) :
    Retains s (checkMeasurement k x s) := by
  have t : Retains s (timeCheck k x s).1 := .of_blocks (by simp) (by simp) (by simp)
  have a (v : State) : Retains v (agreementRun k x.value v) := .of_blocks (by simp) (by simp) (by simp)
  unfold checkMeasurement
  dsimp only
  (repeat' split)
  · exact t.trans ((a _).trans (handoff_retains _ _ _ _))
  · exact t.trans (a _)
  · exact t

theorem takeMeasurement_retains (k : Slot) (x : Measurement) (s : State) :
    Retains s (takeMeasurement k x s) := by
  have r (v : State) : Retains v (recordMeasurement k x v) := .of_blocks (by simp) (by simp) (by simp)
  have w : Retains s (wanderJudge k x.value s) := .of_blocks (by simp) (by simp) (by simp)
  unfold takeMeasurement
  dsimp only
  (repeat' split) <;> first
    | exact .refl s
    | exact r s
    | exact w.trans (r _)
    | exact w.trans ((r _).trans (checkMeasurement_retains _ _ _))

theorem filterBoundary_retains (n : Nat) (s : State) : Retains s (filterBoundary n s) := by
  unfold filterBoundary
  dsimp only
  (repeat' split)
  · exact .trans (.of_blocks (by simp) (by simp) (by simp)) (takeMeasurement_retains _ _ _)
  · exact .of_blocks (by simp) (by simp) (by simp)
  · exact .refl s

/-! ### The chain unit -/

theorem modChain_retains (f : ChainUnit → ChainUnit) (s : State)
    (h : (f s.chain).lastSent = s.chain.lastSent := by rfl) : Retains s (modChain f s) :=
  .of_same (by simp) (by simp) h

theorem modRecord_retains (p : ChainPort) (f : ChainRecord → ChainRecord) (s : State) :
    Retains s (modRecord p f s) := modChain_retains _ s (by cases p <;> rfl)

theorem chainConditions_retains (s : State) : Retains s (chainConditions s) :=
  .of_blocks (by simp) (by simp) (by simp)

theorem post_retains (d : NoticeDetail) (n : Nat) (s : State) : Retains s (s.post d n) :=
  .of_blocks (by simp) (by simp) (by simp)

theorem captureMarker_retains (p : ChainPort) (s : State) : Retains s (captureMarker p s) := by
  unfold captureMarker
  split
  · exact .refl s
  · exact modRecord_retains _ _ s

theorem enterAction_retains (k : Option ActionKind) (d : Nat) (a : Option Nat) (o : ActionSource)
    (s : State) : Retains s (enterAction k d a o s).1 := by
  unfold enterAction
  (repeat' split) <;> first
    | exact .refl s
    | exact .of_same (by simp [refreshLeap]) (by simp) (by simp)

theorem actOnCommand_retains (c : ChainCommand) (s : State) : Retains s (actOnCommand c s).1 := by
  unfold actOnCommand
  (repeat' split)
  · exact .of_blocks (by simp) (by simp) (by simp)
  · exact .of_blocks (by simp) (by simp) (by simp)
  · exact enterAction_retains _ _ _ _ s
  · exact .refl s
  · exact .of_blocks (by simp) (by simp) (by simp)

theorem takeFrameCommand_retains (f : TimeFrame) (s : State) : Retains s (takeFrameCommand f s) := by
  have m (c : ChainCommand) : Retains s (modChain (fun u => { u with lastCommand := some c.sequence }) s) :=
    modChain_retains _ s
  unfold takeFrameCommand takeCommand
  dsimp only
  (repeat' split)
  · exact (m _).trans (post_retains _ _ _)
  · exact (m _).trans ((actOnCommand_retains _ _).trans (post_retains _ _ _))
  · exact .refl s
  · exact .refl s

theorem takeFrameWord_retains (f : TimeFrame) (s : State) : Retains s (takeFrameWord f s) := by
  unfold takeFrameWord takeWord
  dsimp only
  (repeat' split)
  · exact (modChain_retains _ s).trans (post_retains _ _ _)
  · exact (modChain_retains _ s).trans (post_retains _ _ _)
  · exact .refl s

theorem chainMonitorTakes_retains (p : ChainPort) (f : TimeFrame) (c : Option Int) (s : State) :
    Retains s (chainMonitorTakes p f c s) := by
  have a : Retains s (signalAppears .chain s) := .of_blocks (by simp) (by simp) (by simp)
  unfold chainMonitorTakes
  dsimp only
  split
  · exact a.trans (takeMeasurement_retains _ _ _)
  · exact a

theorem upstreamTakes_retains (p : ChainPort) (f : TimeFrame) (c : Option Int) (b : Bool) (s : State) :
    Retains s (upstreamTakes p f c b s) := by
  have l : Retains s (modChain (fun u => { u with lastUpstream := some (upstreamFrame f) }) s) :=
    modChain_retains _ s
  have tail (v : State) : Retains v (modChain (fillRelay f) (takeFrameWord f v)) :=
    (takeFrameWord_retains f v).trans (modChain_retains _ _)
  unfold upstreamTakes
  dsimp only
  split
  · exact l.trans ((takeFrameCommand_retains _ _).trans ((chainMonitorTakes_retains _ _ _ _).trans (tail _)))
  · exact l.trans ((chainMonitorTakes_retains _ _ _ _).trans ((takeFrameCommand_retains _ _).trans (tail _)))

theorem memberDiscards_retains (p : ChainPort) (f : TimeFrame) (s : State) :
    Retains s (memberDiscards p f s) := by
  have a : Retains s (if f.path.length = 7 then
      modChain (fun u => { u with tooLong := Timer.start 3 })
        (modRecord p (fun r => { r with tooLong := satSucc Config.count16 r.tooLong }) s)
    else s) := by
    split
    · exact (modRecord_retains _ _ s).trans (modChain_retains _ _)
    · exact .refl s
  unfold memberDiscards
  dsimp only
  refine a.trans (.trans ?_ (chainConditions_retains _))
  (repeat' split) <;> first
    | exact .refl _
    | exact (modRecord_retains _ _ _).trans (modChain_retains _ _)
    | exact modRecord_retains _ _ _

theorem memberTakes_retains (p : ChainPort) (f : TimeFrame) (c : Option Int) (b : Bool) (s : State) :
    Retains s (memberTakes p f c b s) := by
  have r : Retains s (chainConditions (modRecord p (validRecord f) s)) :=
    (modRecord_retains _ _ s).trans (chainConditions_retains _)
  unfold memberTakes
  dsimp only
  (repeat' split)
  · exact r.trans (upstreamTakes_retains _ _ _ _ _)
  · exact r
  · exact memberDiscards_retains p f s

theorem leaderTakes_retains (p : ChainPort) (f : TimeFrame) (s : State) :
    Retains s (leaderTakes p f s) := by
  have c (v : State) : Retains v (if frameOrigin f = v.chain.address then v
      else chainConditions (modChain (fun u => { u with conflict := Timer.start 3 }) v)) := by
    split
    · exact .refl v
    · exact (modChain_retains _ v).trans (chainConditions_retains _)
  exact (modRecord_retains p _ s).trans (c _)

theorem receiveFrame_retains (p : ChainPort) (l : List Byte) (b : Bool) (s : State) :
    Retains s (receiveFrame p l b s) := by
  have r (g : ChainRecord → ChainRecord) (v : State) : Retains v (modRecord p g v) :=
    modRecord_retains p g v
  unfold receiveFrame
  dsimp only
  (repeat' split)
  · exact .refl s
  · exact (r _ s).trans (r _ _)
  · exact (r _ s).trans (leaderTakes_retains _ _ _)
  · exact (r _ s).trans (memberTakes_retains _ _ _ _ _)

theorem carry_lastSent (u : ChainUnit) : (carry u).2.lastSent = u.lastSent := by
  unfold carry
  (repeat' split) <;> rfl

theorem composeFrame_retains (r : SecondRecord) (d : FrameDue) (s : State) :
    Retains s (composeFrame r d s) :=
  .of_same (by simp) (by simp) (by simp [composeFrame, carry_lastSent])

theorem composeDue_retains (s : State) : Retains s (composeDue s) := by
  unfold composeDue
  (repeat' split)
  · exact composeFrame_retains _ _ s
  · exact .refl s
  · exact .refl s

/-- The part sends for a second above the last sent alone (R142). -/
theorem chainSend_retains (n : Nat) (s : State) : Retains s (chainSend n s) := by
  unfold chainSend
  split
  · rename_i h
    refine .trans ⟨by simp, fun p => .of_eq (by simp), fun l e => ⟨n, rfl, ?_⟩⟩ (composeDue_retains _)
    simp only [sendsFor, e, Bool.and_eq_true, decide_eq_true_eq] at h
    exact h.2.le
  · exact .refl s

theorem changeUpstream_retains (p : Option ChainPort) (r : PathReason) (s : State) :
    Retains s (changeUpstream p r s) := by
  unfold changeUpstream
  dsimp only
  split <;> exact .of_same (by simp) (by simp) (by simp [modChain])

theorem detach_retains (s : State) : Retains s (detach s) :=
  (modChain_retains _ s).trans (changeUpstream_retains _ _ _)

theorem judgeUnattached_retains (s : State) : Retains s (judgeUnattached s) := by
  have m : Retains s (modChain (fun u => { u with unattached := satSucc 3 u.unattached }) s) :=
    modChain_retains _ s
  unfold judgeUnattached
  dsimp only
  split
  · exact m.trans ((modChain_retains _ _).trans (changeUpstream_retains _ _ _))
  · exact m

theorem judgeLoss_retains (p : ChainPort) (s : State) : Retains s (judgeLoss p s) := by
  unfold judgeLoss
  (repeat' split)
  · exact changeUpstream_retains _ _ s
  · exact modChain_retains _ s
  · exact detach_retains s

theorem judgeGrade_retains (p : ChainPort) (s : State) : Retains s (judgeGrade p s) := by
  have m (f : ChainUnit → ChainUnit) (h : (f s.chain).lastSent = s.chain.lastSent) :
      Retains s (modChain f s) := modChain_retains f s h
  unfold judgeGrade
  dsimp only
  split
  · (repeat' split)
    · exact changeUpstream_retains _ _ s
    · exact m _ rfl
    · exact .refl s
  · split
    · exact m _ (by split <;> rfl)
    · split <;> exact m _ rfl

theorem judgeUpstream_retains (s : State) : Retains s (judgeUpstream s) := by
  unfold judgeUpstream
  dsimp only
  (repeat' split)
  · exact judgeUnattached_retains s
  · exact judgeGrade_retains _ s
  · exact judgeLoss_retains _ s
  · exact modChain_retains _ s

theorem swapExpires_retains (s : State) : Retains s (swapExpires s) := by
  have w (r : PathReason) : Retains s (swapActs r s) := by
    unfold swapActs
    (repeat' split)
    · exact detach_retains s
    · exact changeUpstream_retains _ _ s
    · exact modChain_retains _ s
  have v (u : State) : Retains u (sendWaiting u) := by
    unfold sendWaiting
    split
    · exact (modChain_retains _ u).trans (chainSend_retains _ _)
    · exact .refl u
  unfold swapExpires
  (repeat' split)
  · exact (w _).trans (v _)
  · exact .refl s
  · exact .refl s

theorem chainCounts_lastSent (u : ChainUnit) : (chainCounts u).lastSent = u.lastSent := by
  unfold chainCounts
  dsimp only
  split
  · rename_i p _ _; cases p <;> rfl
  · rfl

theorem sendOrWait_retains (n : Nat) (s : State) : Retains s (sendOrWait n s) := by
  unfold sendOrWait
  (repeat' split)
  · exact modChain_retains _ s
  · exact chainSend_retains n s
  · exact chainSend_retains n s

theorem chainBoundary_retains (n : Nat) (s : State) : Retains s (chainBoundary n s) := by
  have e (b : Bool) (v : State) : Retains v (chainEpoch b v) := by
    unfold chainEpoch
    (repeat' split) <;> exact .of_blocks (by simp) (by simp) (by simp)
  have c : Retains s (chainConditions (modChain chainCounts s)) :=
    (modChain_retains _ s (chainCounts_lastSent _)).trans (chainConditions_retains _)
  have z (v : State) : Retains v (sendOrWait n (modChain tickChainTimers v)) :=
    (modChain_retains _ v).trans (sendOrWait_retains n _)
  unfold chainBoundary
  dsimp only
  (repeat' split)
  · exact e _ s
  · exact c.trans ((e _ _).trans ((judgeUpstream_retains _).trans (z _)))
  · exact c.trans ((e _ _).trans (z _))

end Sys2Proof.Machine
end

section
set_option Elab.async false

namespace Sys2Proof.Machine

open Sys2Proof.Safety

/-! ### Emission instants (R125) -/

theorem emitted_lastEmitted (n : Nat) (x : Port) : (emitted n x).lastEmitted = some n := by
  unfold emitted
  split <;> rfl

/-- The use of an instant writes the port's last emitted second, and no other port's. -/
theorem useInstant_emissions (p : Fin 12) (n : Nat) (s : State) (q : Fin 12) :
    emissions (useInstant p n s).ports q = if q = p then some n else emissions s.ports q := by
  have w (x : Port) (h : x.lastEmitted = some n) :
      emissions (s.setPort p x).ports q = if q = p then some n else emissions s.ports q := by
    show ((s.setPort p x).port q).lastEmitted = _
    rw [State.setPort_port_eq]
    split
    · exact h
    · rfl
  unfold useInstant
  dsimp only
  split
  · rw [serveHead_emissions]; exact w _ rfl
  · rw [serveHead_emissions, composeAtPulse_emissions]; exact w _ (emitted_lastEmitted n _)

/-- An instant is used for a second above the last emitted alone (R125). -/
theorem useInstant_retains (p : Fin 12) (n : Nat) (s : State) (h : usesInstant n (s.port p) = true) :
    Retains s (useInstant p n s) := by
  refine ⟨by simp, fun q l e => ?_, .of_eq (by simp)⟩
  rw [useInstant_emissions]
  split
  · rename_i hq
    subst hq
    have e : (s.port q).lastEmitted = some l := e
    simp only [usesInstant, e, Bool.and_eq_true, decide_eq_true_eq] at h
    exact ⟨n, rfl, h.2.le⟩
  · exact ⟨l, e, le_refl l⟩

theorem boundaryInstant_retains (p : Fin 12) (n : Nat) (s : State) :
    Retains s (boundaryInstant p n s) := by
  unfold boundaryInstant
  split
  · rename_i h
    exact useInstant_retains p n s (Bool.and_eq_true_iff.mp h).2
  · exact .refl s

/-! ### A marked boundary -/

theorem recordGrade_retains (n : Nat) (s : State) : Retains s (recordGrade n s) := by
  unfold recordGrade
  dsimp only
  refine .trans ?_ (composeDue_retains _)
  exact .of_blocks (by simp) (by simp) (by simp)

theorem estimateSecond_timeSet (s : State) : (estimateSecond s).time.timeSet = s.time.timeSet := by
  unfold estimateSecond
  split <;> simp [holdoverSecond]

theorem holdoverBoundary_retains (n : Nat) (s : State) : Retains s (holdoverBoundary n s) := by
  have e (t : State) : Retains t (estimateSecond t) :=
    .of_same (estimateSecond_timeSet t) (by simp) (by simp)
  have h (x : Holdover) : Retains s (s.setHoldover x) := .of_blocks rfl rfl rfl
  unfold holdoverBoundary
  dsimp only
  refine .trans ?_ (recordGrade_retains n _)
  split
  · exact (h _).trans (e _)
  · exact e s

theorem satPulseTaken_retains (k : SatSlot) (s : State) : Retains s (satPulseTaken k s) := by
  have w (f : Monitor → Monitor) :
      Retains s (modRef (satSlot k) f (signalAppears (satSlot k) (closeWindow k s))) :=
    .of_blocks (by simp) (by simp) (by simp)
  unfold satPulseTaken
  dsimp only
  split
  · exact (w _).trans (takeMeasurement_retains _ _ _)
  · exact w _

theorem satPulseArrives_retains (k : SatSlot) (s : State) : Retains s (satPulseArrives k s) := by
  unfold satPulseArrives
  split
  · exact .refl s
  · exact satPulseTaken_retains k s

theorem lineEpoch_retains (k : LineSlot) (s : State) : Retains s (lineEpoch k s) := by
  unfold lineEpoch
  dsimp only
  (repeat' split)
  · exact .refl s
  · exact .of_blocks (by simp) (by simp) (by simp)
  · exact takeMeasurement_retains _ _ s
  · exact .refl s

/-- The delivery of an expiry within a boundary leaves all three. -/
theorem expiry_retains (n : Nat) (s : State) (b : Block) (h : isExpiry b = true) :
    Retains s (blockActs n s b) := by
  have f := expiry_frame n s b h
  refine .of_blocks f.1 ?_ f.2.1
  cases b <;> simp [isExpiry] at h <;> simp [blockActs]

theorem blockActs_retains (n : Nat) (s : State) (b : Block) : Retains s (blockActs n s b) := by
  cases b with
  | scheduler => exact .foldl (takeAction_retains false) _ s
  | filter => exact filterBoundary_retains n s
  | line k => exact lineEpoch_retains k s
  | holdover => exact holdoverBoundary_retains n s
  | chain => exact chainBoundary_retains n s
  | pulse k => exact satPulseArrives_retains k s
  | marker p => exact captureMarker_retains p s
  | frame p l c => exact receiveFrame_retains p l c s
  | instant p => exact boundaryInstant_retains p n s
  | slotTimers | dwell | rearm | alarms => exact expiry_retains n s _ rfl
  | agreement | servo | ports | edges | silence | clock =>
    exact .of_blocks (by simp [blockActs]) (by simp [blockActs]) (by simp [blockActs])

theorem applyPending_retains (o : Nat) (p : PendingSet) (s : State) : Retains s (applyPending o p s) := by
  have w (t : State) (e : emissions t.ports = emissions s.ports) (c : t.chain = s.chain)
      (h : t.time.timeSet = true) : Retains s t :=
    ⟨fun _ => h, fun _ => .of_eq (by rw [e]), .of_eq (by rw [c])⟩
  unfold applyPending
  dsimp only
  split
  · exact w _ (by simp) (by simp) (by simp)
  · exact (w _ (by simp) (by simp) (by simp)).trans (presentStep_retains _ _)

theorem markBoundary_retains (order : List Block) (s : State) : Retains s (markBoundary order s) := by
  have b (n : Nat) (t : State) : Retains t (blocksAct n order t) := .foldl (blockActs_retains n) _ t
  have e (n : Nat) (t : State) : Retains t (expiriesFirst n order t) := .foldl (blockActs_retains n) _ t
  have c (n k : Nat) : Retains s (markDue n (countTimers k (s.setTime (markTime s.time)))) :=
    .of_same (by simp [markTime]) (by simp) (by simp)
  unfold markBoundary
  dsimp only
  split
  · exact (c _ _).trans ((e _ _).trans ((applyPending_retains _ _ _).trans (b _ _)))
  · exact (c _ _).trans ((e _ _).trans (b _ _))

theorem conflictExpires_retains (s : State) : Retains s (conflictExpires s) := by
  unfold conflictExpires
  split
  · exact (modChain_retains _ s).trans (chainConditions_retains _)
  · exact .refl s

theorem tooLongExpires_retains (s : State) : Retains s (tooLongExpires s) := by
  unfold tooLongExpires
  split
  · exact (modChain_retains _ s).trans (chainConditions_retains _)
  · exact .refl s

/-! ### The link and its requests -/

/-- An effect that takes nothing back. -/
abbrev RetainsAll (f : Request.Effect) : Prop := ∀ s, Retains s (f s).1

theorem hostStep_retains (n : Nat) (o : Option Nat) : RetainsAll (hostStep n o) := by
  intro s
  have w (t : State) : Retains t (writeOffset o t) := .of_same rfl rfl rfl
  unfold hostStep
  dsimp only
  split
  · exact .refl s
  · exact (performStep_retains _ _ s).trans (w _)

theorem requestSetTime_retains (n : Nat) (o : Option Nat) : RetainsAll (requestSetTime n o) := by
  intro s
  unfold requestSetTime refuse
  (repeat' split) <;> first
    | with_reducible exact hostStep_retains n o s
    | exact .of_same rfl rfl rfl

theorem configureServo_retains (c : ServoConfig) (s : State) : Retains s (configureServo c s) := by
  unfold configureServo clampLoop
  dsimp only
  split <;> exact .of_same (by simp) (by simp) (by simp)

theorem configureChain_retains (c : ChainConfig) (s : State) : Retains s (configureChain c s) := by
  unfold configureChain
  dsimp only
  (repeat' split) <;> exact .of_same (by simp) (by simp) (by simp [modChain, roleChanged])

theorem onPort_retains (n : Nat) (f : Fin 12 → Request.Effect) (h : ∀ p, RetainsAll (f p)) :
    RetainsAll (onPort n f) := by
  intro s
  unfold onPort
  split
  · exact h _ s
  · exact .refl s

theorem removeAction_retains (n : Nat) (s : State) : Retains s (removeAction n s) :=
  .of_same (by simp [removeAction, refreshLeap]) (by simp) (by simp)

/-- No request takes anything back. -/
theorem CatalogueEffect.retains {f : Request.Effect} (h : CatalogueEffect f) : RetainsAll f := by
  cases h with
  | setTime n o => exact requestSetTime_retains n o
  | setReference n c =>
    intro s
    unfold requestSetReference refuse
    (repeat' split) <;> exact .of_blocks (by simp) (by simp) (by simp)
  | lockout n b =>
    intro s
    unfold requestLockout refuse
    split <;> exact .of_blocks (by simp) (by simp) (by simp)
  | sample q o d g =>
    intro s
    unfold requestSample refuse
    dsimp only
    split <;> exact .of_blocks (by simp) (by simp) (by simp)
  | setSelection c =>
    intro s
    unfold requestSetSelection refuse
    split <;> exact .of_blocks (by simp) (by simp) (by simp)
  | setServo c =>
    intro s
    unfold requestSetServo
    split
    · exact configureServo_retains c s
    · exact .refl s
  | setHoldover c =>
    intro s
    unfold requestSetHoldover refuse
    split <;> exact .of_blocks (by simp) (by simp) (by simp)
  | setPort n c =>
    refine onPort_retains _ _ fun p s => ?_
    dsimp only
    split
    · exact .of_blocks (by simp) (by simp) (by simp)
    · exact .refl s
  | enablePort n => exact onPort_retains _ _ fun p s => .of_blocks (by simp) (by simp) (by simp)
  | disablePort n => exact onPort_retains _ _ fun p s => .of_blocks (by simp) (by simp) (by simp)
  | adjustPort n a =>
    refine onPort_retains _ _ fun p s => ?_
    (repeat' split)
    · exact .refl s
    · exact .refl s
    · exact .of_blocks (by simp) (by simp [joinAdjustment]) (by simp)
  | setChain c =>
    intro s
    unfold requestSetChain
    split
    · exact configureChain_retains c s
    · exact .refl s
  | chainCommand k t a =>
    intro s
    unfold requestChainCommand
    (repeat' split) <;> first
      | exact .refl s
      | exact modChain_retains _ s
  | chainCancel =>
    intro s
    unfold requestChainCancel
    split
    · dsimp only; exact modChain_retains _ s
    · exact .refl s
  | postWord w =>
    intro s
    unfold requestPostWord
    (repeat' split)
    · exact .refl s
    · exact .refl s
    · dsimp only; exact modChain_retains _ s
  | fetchWord => exact fun s => modChain_retains (fun u => { u with inbox := none }) s
  | schedule k d a =>
    intro s
    unfold requestSchedule
    dsimp only
    split <;> exact enterAction_retains k d a .host s
  | cancel n =>
    intro s
    unfold requestCancel
    (repeat' split) <;> first
      | exact .refl s
      | exact removeAction_retains n s
  | _ => exact fun s => .of_blocks (by simp) (by simp) (by simp)

theorem softRestart_retains (s : State) : Retains s (softRestart s) where
  set h := by simpa [softRestart, restartedBlocks] using h
  emitted p := .of_eq (by
    simp only [softRestart, declareAll_frame, restartedGrade, State.setAlarms_ports, presentGrade_emissions]
    simp [restartedBlocks])
  sent := .of_eq (by simp [softRestart, restartedBlocks, restartedChain])

theorem setLink_retains (s : State) (k : Link) : Retains s (s.setLink k) := .of_blocks rfl rfl rfl

theorem addReply_retains (k t : Byte) (x : State × Answer) : Retains x.1 (addReply k t x) :=
  setLink_retains _ _

theorem takeRequest_retains (q : Request) (s : State) : Retains s (takeRequest q s) := by
  refine .trans ?_ (addReply_retains _ _ _)
  unfold judgeRequest
  (repeat' split)
  · exact .refl s
  · exact .refl s
  · rename_i f h; exact (requestEffect_catalogue h).retains s
  · exact .refl s

theorem serveNext_retains (s : State) : Retains s (serveNext s) := by
  unfold serveNext
  split
  · exact (setLink_retains s _).trans (takeRequest_retains _ _)
  · exact (setLink_retains s _).trans (addReply_retains _ _ (refuse .overrun _))
  · exact .refl s
  · exact .refl s

theorem restartActs_retains (s : State) : Retains s (restartActs s) := by
  unfold restartActs
  split
  · exact (softRestart_retains s).trans (serveNext_retains _)
  · exact .refl s

theorem takeTyped_retains (k t : Byte) {f : Request.Effect} (h : RetainsAll f) (s : State) :
    Retains s (takeTyped k t f s) := by
  refine (restartActs_retains s).trans (.trans ?_ (addReply_retains _ _ _))
  unfold handOver
  split
  · exact .refl _
  · exact h _

theorem replyFinished_retains (s : State) : Retains s (replyFinished s) := by
  unfold replyFinished
  dsimp only
  (repeat' split)
  · exact .refl s
  · exact setLink_retains s _
  · exact (setLink_retains s _).trans (serveNext_retains _)

theorem acceptRequest_retains (q : Request) (s : State) : Retains s (acceptRequest q s) := by
  have w (t : State) : Retains t (queueRequest q t) := by
    unfold queueRequest
    dsimp only
    (repeat' split) <;> exact setLink_retains t _
  unfold acceptRequest
  dsimp only
  split
  · exact (restartActs_retains s).trans (takeRequest_retains _ _)
  · exact (restartActs_retains s).trans (w _)

theorem receiveOctets_retains (n : Nat) (l : List Byte) (s : State) :
    Retains s (receiveOctets n l s) := by
  have c (l : List Byte) (n : Nat) (t : State) : Retains t (completeFrame l n t) := by
    unfold completeFrame
    split
    · exact acceptRequest_retains _ t
    · exact setLink_retains t _
  induction n generalizing l s with
  | zero => exact .refl s
  | succ n ih =>
    cases l with
    | nil => exact .refl s
    | cons b l =>
      unfold receiveOctets
      dsimp only
      (repeat' split)
      · exact ih _ _
      · exact .refl s
      · exact (setLink_retains s _).trans (ih _ _)
      · exact .refl s
      · exact (c _ _ s).trans (ih _ _)

/-! ### The count and the events -/

/-- The expiries that are due and the windows whose close the count has reached. -/
theorem expiries_retains (s : State) : Retains s (alarmExpiries (tooLongExpires (conflictExpires
    (swapExpires (allPorts.foldl (fun s p => rearmExpires p s) (dwellExpires (closeWindows
      (allSlots.foldl slotExpiries s)))))))) := by
  have slots : Retains s (allSlots.foldl slotExpiries s) :=
    .foldl (fun s k => .of_blocks (by simp) (by simp) (by simp)) _ s
  have dwell (t : State) : Retains t (dwellExpires (closeWindows t)) :=
    .of_blocks (by simp) (by simp) (by simp)
  have ports (t : State) : Retains t (allPorts.foldl (fun s p => rearmExpires p s) t) :=
    .foldl (fun s p => .of_blocks (by simp) (by simp) (by simp)) _ t
  have alarms (t : State) : Retains t (alarmExpiries t) := .of_blocks (by simp) (by simp) (by simp)
  exact slots.trans ((dwell _).trans ((ports _).trans ((swapExpires_retains _).trans
    ((conflictExpires_retains _).trans ((tooLongExpires_retains _).trans (alarms _))))))

theorem settle_retains (s : State) : Retains s (settle s) :=
  (restartActs_retains s).trans (expiries_retains _)

theorem runTo_retains (n : Nat) (s : State) : Retains s (runTo n s) := by
  unfold runTo
  split
  · exact .of_same rfl rfl rfl
  · exact .refl s

theorem passHalf_retains (n : Nat) (s : State) : Retains s (passHalf n s) := by
  unfold passHalf
  split
  · exact (runTo_retains Config.half s).trans (.of_blocks (by simp) (by simp) (by simp))
  · exact .refl s

theorem runPast_retains (n : Nat) (s : State) : Retains s (runPast n s) :=
  (passHalf_retains n s).trans (runTo_retains _ _)

theorem advanceTo_retains (n : Nat) (s : State) : Retains s (advanceTo n s) := by
  unfold advanceTo
  split
  · exact (settle_retains s).trans (runPast_retains _ _)
  · exact .refl s

theorem settleBefore_retains (n : Nat) (s : State) : Retains s (settleBefore n s) := by
  unfold settleBefore
  split
  · exact settle_retains s
  · exact .refl s

theorem nextBoundary_retains (order : List Block) (s : State) : Retains s (nextBoundary order s) := by
  have r (t : State) : Retains t (runOut t) := .of_same rfl rfl rfl
  unfold nextBoundary
  split
  · exact (settle_retains s).trans ((passHalf_retains _ _).trans ((r _).trans (markBoundary_retains order _)))
  · exact .refl s

theorem reachEnd_retains (s : State) : Retains s (reachEnd s) := by
  have e (t : State) : Retains t (runToEnd t) := (runPast_retains _ t).trans (.of_same rfl rfl rfl)
  unfold reachEnd
  dsimp only
  (repeat' split)
  · exact (settle_retains s).trans (e _)
  · exact settle_retains s
  · exact .refl s

theorem onePico_retains (s : State) : Retains s (onePico s) := by
  have c : Retains s (countPicos 1 s) := .of_same rfl rfl rfl
  unfold onePico
  (repeat' split)
  · exact c
  · exact c.trans ((markBoundary_retains [] _).trans (settle_retains _))
  · exact .of_same rfl rfl rfl
  · exact .refl s

theorem picos_retains (n : Nat) (s : State) : Retains s (picos n s) := by
  induction n generalizing s with
  | zero => exact .refl s
  | succ n ih => exact (onePico_retains s).trans (ih _)

theorem idle_retains (s : State) : Retains s (idle s) := by
  have o (t : State) : Retains t (oscillatorTick t) := by
    have r (n : Nat) : Retains t (t.setTime { t.time with rem := n }) := .of_same rfl rfl rfl
    unfold oscillatorTick
    dsimp only
    split
    · exact (r _).trans (picos_retains _ _)
    · exact .refl t
  exact (settle_retains s).trans (o _)

theorem runToInstant_retains (p : Fin 12) (i : Nat × Nat) (s : State) :
    Retains s (runToInstant p i s) := by
  unfold runToInstant
  dsimp only
  split
  · rename_i h
    exact (runPast_retains _ s).trans (useInstant_retains p i.1 _ h)
  · exact runPast_retains _ s

theorem portEmission_retains (p : Fin 12) (s : State) : Retains s (portEmission p s) := by
  unfold portEmission
  dsimp only
  (repeat' split)
  · exact (settleBefore_retains _ s).trans (runToInstant_retains _ _ _)
  · exact settleBefore_retains _ s
  · exact .refl s
  · exact .refl s

theorem clockEdge_retains (p : Fin 12) (k : Nat) (b : Bool) (s : State) :
    Retains s (clockEdge p k b s) := by
  have e (t : State) : Retains t (t.setPort p (edgedPort k b (t.port p))) :=
    .of_blocks (by simp) (by simp) (by simp)
  unfold clockEdge
  dsimp only
  (repeat' split)
  · exact (settleBefore_retains _ s).trans ((runPast_retains _ _).trans (e _))
  · exact settleBefore_retains _ s
  · exact .refl s
  · exact .refl s

/-- An event that comes at its instant, once the count has been run on to it. -/
theorem retains_at (n : Nat) {f : State → State} (h : ∀ t, Retains t (f t)) (s : State) (c : Bool) :
    Retains s (if c then f (advanceTo n s) else s) := by
  split
  · exact (advanceTo_retains n s).trans (h _)
  · exact .refl s

/-- No transition of a part that has started takes anything back. -/
theorem Transition.retains {s t : State} (h : Transition s t) (hs : s.part ≠ .loading) :
    Retains s t := by
  cases h with
  | starts p a f s h => exact absurd h hs
  | stays s => exact .refl s
  | octets l s => exact receiveOctets_retains _ l s
  | linkError s => exact setLink_retains s _
  | replySent s => exact (restartActs_retains s).trans (replyFinished_retains _)
  | unknownKind q s => exact (restartActs_retains s).trans (takeRequest_retains q _)
  | request kind tag hf s => exact takeTyped_retains kind tag hf.retains s
  | restarts s => exact restartActs_retains s
  | boundary order s => exact nextBoundary_retains order s
  | endOfRange s => exact reachEnd_retains s
  | satPulse k t s => exact retains_at t (satPulseArrives_retains k) s _
  | satWindowClose k s => exact retains_at _ (fun t => .of_blocks (by simp) (by simp) (by simp)) s _
  | lineEdge k t n s => exact retains_at t (fun t => .of_blocks (by simp) (by simp) (by simp)) s _
  | lineLoss k s => exact retains_at _ (fun t => .of_blocks (by simp) (by simp) (by simp)) s _
  | chainMarker p t s => exact retains_at t (captureMarker_retains p) s _
  | chainFrame p t l b s => exact retains_at t (receiveFrame_retains p l b) s _
  | swapExpires s => exact swapExpires_retains s
  | conflictExpires s => exact conflictExpires_retains s
  | tooLongExpires s => exact tooLongExpires_retains s
  | emission p s => exact portEmission_retains p s
  | clockEdge p k b s => exact clockEdge_retains p k b s
  | idle s => exact idle_retains s
  | saveSucceeds | saveFails | qualifies | waitEnds | periodEnds | dwellExpires | rearmExpires
  | pulseEnd | alarmDelay => exact .of_blocks (by simp) (by simp) (by simp)

/-- Settles O12: PIN_RESET aside, every step of a part that has started is a transition, and none of them
takes back what is set, emitted or sent. -/
theorem onlyPinResetUndoesWhatIsSetOrSent : Obligations.OnlyPinResetUndoesWhatIsSetOrSent := by
  intro s t hs hp h
  obtain ⟨rest, ⟨m, e, -⟩ | g⟩ := step_transition h
  · exact absurd e (hp m rest)
  · have r := g.retains hs
    exact ⟨r.set, fun p n e => r.emitted p n e, r.sent⟩

end Sys2Proof.Machine
end

section
set_option Elab.async false

namespace Sys2Proof.Machine

open Sys2Proof.Safety

/-! ## The laws right after the pin reset -/

theorem pinReset_reset : pinReset .spi State.reset = State.reset := rfl

theorem reset_ref (k : Slot) : State.reset.ref k = monitorAtReset k (defaultReference k) false := by
  simp [State.ref, State.reset]

theorem reset_servoLaw : ServoLaw State.reset where
  followed := rfl
  free := ⟨fun _ => .inl rfl, fun _ => rfl⟩
  line := ⟨fun ⟨_, h, _⟩ => (by cases h), fun h => (by cases h)⟩

theorem reset_monitorLaw : MonitorLaw State.reset := fun k => by
  rw [reset_ref]
  unfold monitorAtReset
  split <;> simp_all

theorem reset_tableLaw : TableLaw State.reset :=
  (tableDue_false _).mp (tableDue_of_nil false rfl)

theorem reset_timeLaw : TimeLaw State.reset.time where
  base := Nat.zero_le _
  frac := by decide
  rem := by decide
  pending _ h := by cases h

theorem reset_linkLaw : LinkLaw State.reset.link where
  buffer := by decide
  overruns := by decide
  idle _ _ := rfl

theorem reset_loadingLaw : LoadingLaw State.reset where
  blocks _ := rfl
  due _ := rfl
  replies _ _ h := absurd h List.not_mem_nil

/-- Settles O4. -/
theorem resetObeysTheLaws : Obligations.ResetObeysTheLaws := by
  have l : Lawful State.reset := pinReset_reset ▸ pinReset_lawful .spi State.reset
  exact ⟨l.alarms, l.frequency, reset_servoLaw, fun k h => (by cases h), reset_monitorLaw,
    l.levels, l.ports.1, l.history, l.delays, l.ports.2, reset_timeLaw, reset_tableLaw,
    reset_linkLaw, reset_loadingLaw⟩

/-! ## Reads -/

/-- A read that answers its contents leaves all but the transmitter. -/
theorem read_answers {s : State} (h : Takes s) (kind tag : Byte) {f : Request.Effect} {c : List Byte}
    (e : f s = (s, okWith c)) :
    (.next (takeTyped kind tag f s) : Host.Outcome State Fault Refusal)
      = .next { s with link := answered s.link kind tag .ok c } :=
  congrArg _ (takeTyped_okWith h kind tag e rfl)

/-- A refused request leaves all but the transmitter. -/
theorem refusal_answers {s : State} (h : Takes s) (kind tag : Byte) {f : Request.Effect} {v : Status}
    (e : f s = refuse v s) :
    (.next (takeTyped kind tag f s) : Host.Outcome State Fault Refusal)
      = .next { s with link := answered s.link kind tag v [] } :=
  congrArg _ (takeTyped_refuse h kind tag e)

theorem getStatus_answers (tag : Byte) {s : State} (h : s.link.restartDue = false) :
    exec (.getStatus tag) s = .next { s with link := answered s.link 0x3C tag .ok (statusContents s) } := by
  show Host.Outcome.next (takeTyped 0x3C tag requestGetStatus s) = _
  unfold takeTyped handOver
  rw [restartActs_of_not_due h, if_neg (fun g => g.2 rfl)]
  rfl

theorem slotOfNumber_slotNumber (k : Slot) : slotOfNumber (slotNumber k) = some k := by
  cases k <;> rfl

theorem slotOfNumber_none {n : Nat} (h : 5 < n) : slotOfNumber n = none := by
  match n, h with
  | n + 6, _ => rfl

theorem portOfNumber_val (p : Fin 12) : portOfNumber p.val = some p := by
  simp [portOfNumber]

theorem portOfNumber_none {n : Nat} (h : 11 < n) : portOfNumber n = none := by
  unfold portOfNumber
  rw [dif_neg (by omega)]

theorem requestGetHistory_inRange {start count : Nat} (h : start ≤ 63 ∧ 1 ≤ count ∧ count ≤ 16)
    (s : State) : requestGetHistory start count s
      = (s, okWith (historyContents start count s.holdover.history)) := by
  simp [requestGetHistory, inRange, h]

theorem requestGetHistory_outside {start count : Nat} (h : ¬ (start ≤ 63 ∧ 1 ≤ count ∧ count ≤ 16))
    (s : State) : requestGetHistory start count s = refuse .invalid s := by
  unfold requestGetHistory
  rw [if_neg]
  simpa [inRange] using h

/-- Settles O20. -/
theorem readsAnswerAndChangeNothing : Obligations.ReadsAnswerAndChangeNothing := by
  refine ⟨fun tag s => ⟨fun h => ?_, getStatus_answers tag⟩, fun tag s h => ?_⟩
  · exact ⟨read_answers h _ tag rfl, read_answers h _ tag rfl, read_answers h _ tag rfl,
      read_answers h _ tag rfl, read_answers h _ tag rfl, read_answers h _ tag rfl⟩
  · refine ⟨fun k => read_answers h _ tag ?_, fun n hn => refusal_answers h _ tag ?_,
      fun p => read_answers h _ tag ?_, fun n hn => refusal_answers h _ tag ?_, fun start count => ?_,
      fun k => read_answers h _ tag rfl, read_answers h _ tag rfl, refusal_answers h _ tag rfl⟩
    · simp only [requestGetReference, slotOfNumber_slotNumber]
    · simp only [requestGetReference, slotOfNumber_none hn]
    · simp only [requestGetPort, onPort, portOfNumber_val]
    · simp only [requestGetPort, onPort, portOfNumber_none hn]
    · split
      · rename_i hr; exact read_answers h _ tag (requestGetHistory_inRange hr s)
      · rename_i hr; exact refusal_answers h _ tag (requestGetHistory_outside hr s)

end Sys2Proof.Machine
end

section
set_option Elab.async false

namespace Sys2Proof.Machine

open Sys2Proof.Safety

/-! ## Phase errors (R5, R6) -/

/-- The whole-second part lies within half a second of the error, the half itself below it (R5). -/
theorem phaseSeconds_bounds (d : Int) : d - 500000000000 ≤ phaseSeconds d * 1000000000000
    ∧ phaseSeconds d * 1000000000000 < d + 500000000000 := by
  simp only [phaseSeconds, Config.half, Config.second]
  omega

/-- The whole-second part is the only number of seconds that close to the error. -/
theorem phaseSeconds_eq {d z : Int} (h : d - 500000000000 ≤ z * 1000000000000)
    (g : z * 1000000000000 < d + 500000000000) : phaseSeconds d = z := by
  have b := phaseSeconds_bounds d
  omega

theorem phaseFraction_eq (d : Int) : phaseFraction d = d - phaseSeconds d * 1000000000000 := rfl

/-- The nearest boundary to a reading: the running second's, or the next one's from half a second on
(R6). -/
theorem nearestSecond_eq (b f : Nat) (h : f < 1000000000000) :
    nearestSecond ((b : Int) * 1000000000000 + f)
      = ((if f < 500000000000 then b else b + 1 : Nat) : Int) := by
  simp only [nearestSecond, Config.half, Config.second]
  split <;> omega

/-- The error of a pulse that marks a whole second at a reading (R6). -/
theorem boundaryError_eq (b f : Nat) (h : f < 1000000000000) :
    boundaryError ((b : Int) * 1000000000000 + f)
      = if f < 500000000000 then -(f : Int) else 1000000000000 - f := by
  unfold boundaryError
  rw [nearestSecond_eq b f h]
  simp only [Config.second]
  split <;> push_cast <;> omega

/-- The seconds of a stated second against a reading: those to the nearest boundary (R5, R6). -/
theorem phaseSeconds_label (label b f : Nat) (h : f < 1000000000000) :
    phaseSeconds ((label : Int) * 1000000000000 - ((b : Int) * 1000000000000 + f))
      = (label : Int) - ((if f < 500000000000 then b else b + 1 : Nat) : Int) := by
  apply phaseSeconds_eq <;> split <;> push_cast <;> omega

/-- A satellite pulse carries the error and the seconds of the boundary nearest to its reading (R6, R35). -/
theorem satMeasurement_eq (reading : Nat) (label : Option Nat) :
    (satMeasurement reading label).value = boundaryError reading
      ∧ (satMeasurement reading label).ds = label.map fun l => (l : Int) - nearestSecond reading :=
  ⟨rfl, rfl⟩

/-- A chain marker is measured at its capture less the link delay (R151). -/
theorem chainMeasurement_eq (p : ChainPort) (x : TimeFrame) (reading : Int) (c : ChainConfig) :
    (chainMeasurement p x (reading + linkDelay c p) c).value = boundaryError reading
      ∧ (chainMeasurement p x (reading + linkDelay c p) c).ds
        = some ((x.second : Int) - nearestSecond reading) := by
  simp [chainMeasurement]

/-- Settles O15. -/
theorem phaseErrorsSplitAtHalfASecond : Obligations.PhaseErrorsSplitAtHalfASecond := by
  refine ⟨fun d => ?_, fun b f label p x c hf => ?_⟩
  · obtain ⟨lower, upper⟩ := phaseSeconds_bounds d
    have e := phaseFraction_eq d
    refine ⟨e, by omega, by omega, lower, fun z hz => by omega, ?_⟩
    decide
  · have n := nearestSecond_eq b f hf
    have e := boundaryError_eq b f hf
    have s := phaseSeconds_label label b f hf
    have w : phaseFraction ((label : Int) * 1000000000000 - ((b : Int) * 1000000000000 + f))
        = if f < 500000000000 then -(f : Int) else 1000000000000 - f := by
      rw [phaseFraction_eq, s]
      split <;> push_cast <;> omega
    have cast : ((b * 1000000000000 + f : Nat) : Int) = (b : Int) * 1000000000000 + f := by push_cast; rfl
    simp [satMeasurement_eq, chainMeasurement_eq, cast, n, e, s, w]

/-! ## The running of the count (R2 to R4) -/

/-- Two runs of the count are one, unless the first ends at the last instant of the range (R4). -/
theorem countPicos_add (a b : Nat) (s : State)
    (h : ¬ (s.time.base = Config.maxSeconds ∧ s.time.frac + a = 999999999999)) :
    countPicos b (countPicos a s) = countPicos (a + b) s := by
  have e : (decide (s.time.base = Config.maxSeconds) && decide (s.time.frac + a = 999999999999)) = false := by
    simpa using h
  simp only [countPicos, holdAtEnd, State.setTime, State.setRefs, refsCounted, lineCounted, e, Nat.add_assoc]
  simp

theorem refsCounted_zero (r : PerSlot Monitor) : refsCounted 0 r = r := rfl

/-- The count goes on unless it has come to the last instant of its range. -/
theorem counting_countPicos {a : Nat} {s : State} (hc : counting s = true)
    (h : ¬ (s.time.base = Config.maxSeconds ∧ s.time.frac + a = 999999999999)) :
    counting (countPicos a s) = true := by
  have e : (decide (s.time.base = Config.maxSeconds) && decide (s.time.frac + a = 999999999999)) = false := by
    simpa using h
  simpa [counting, countPicos, holdAtEnd, State.started, e] using hc

/-- The state once the count has run `k` picoseconds on within its second. -/
theorem countPicos_eq {k : Nat} {s : State} (h : s.time.endOfRange = false) :
    countPicos k s = { s with
      time := { s.time with
        frac := s.time.frac + k, counted := s.time.counted + k, landed := false
        endOfRange := decide (s.time.base = Config.maxSeconds ∧ s.time.frac + k = 999999999999) }
      refs := refsCounted k s.refs } := by
  simp [countPicos, holdAtEnd, State.setTime, State.setRefs, h]

theorem counting_iff {s : State} :
    counting s = true ↔ s.part ≠ .loading ∧ s.time.endOfRange = false := by
  simp [counting, State.started]

theorem started_iff {s : State} : s.started = true ↔ s.part ≠ .loading := by
  simp [State.started]

/-! ## Running on to a fraction -/

theorem runTo_of_counting {t : Nat} {s : State} (hc : counting s = true) (h : s.time.frac < t)
    (ht : t < 1000000000000) : runTo t s = countPicos (t - s.time.frac) s := by
  unfold runTo
  rw [if_pos (by simp [hc, h, ht])]

theorem runTo_of_not_ahead {t : Nat} {s : State} (h : ¬ s.time.frac < t) : runTo t s = s := by
  unfold runTo
  rw [if_neg (by simp [h])]

theorem closeWindow_same {k : SatSlot} {s : State} (h : windowReached s (satSlot k) = none) :
    closeWindow k s = s := by
  unfold closeWindow
  rw [h]

theorem windowReached_none {s : State} {k : Slot} (h : ∀ w, (s.ref k).window = some w →
    w.second = s.time.base → ¬ 500000000000 ≤ s.time.frac) : windowReached s k = none := by
  unfold windowReached
  split
  · rename_i w hw
    rw [if_neg fun g => h w hw g.1 g.2]
  · rfl

theorem refsCounted_window (n : Nat) (r : PerSlot Monitor) (k : SatSlot) :
    ((refsCounted n r).get (satSlot k)).window = (r.get (satSlot k)).window := by
  cases k <;> rfl

/-- A run that passes the close of no open window is a run alone (R26). -/
theorem passHalf_undisturbed {t : Nat} {s : State} (u : Undisturbed t s) :
    passHalf t s = if s.time.frac < 500000000000 ∧ 500000000000 < t then runTo 500000000000 s else s := by
  have w (h : s.time.frac < 500000000000 ∧ 500000000000 < t) (k : SatSlot) :
      windowReached (runTo 500000000000 s) (satSlot k) = none := by
    refine windowReached_none fun w hw hs _ => ?_
    have hw : (s.ref (satSlot k)).window = some w := by
      unfold runTo at hw
      split at hw
      · rw [← hw]; exact (refsCounted_window _ s.refs k).symm
      · exact hw
    have := u.windows k w hw (by rw [runTo_base] at hs; exact hs) h.1
    omega
  unfold passHalf closeWindows
  split
  · rename_i h
    rw [closeWindow_same (w h .satA), closeWindow_same (w h .satB)]
  · rfl

/-- A run that nothing disturbs (R2, R26). -/
theorem runPast_undisturbed {t : Nat} {s : State} (u : Undisturbed t s) (hc : counting s = true)
    (ht : t < 1000000000000) : runPast t s = runTo t s := by
  unfold runPast
  rw [passHalf_undisturbed u]
  split
  · rename_i h
    have last : ¬ (s.time.base = Config.maxSeconds ∧
        s.time.frac + (500000000000 - s.time.frac) = 999999999999) := by omega
    rw [runTo_of_counting hc h.1 (by decide), runTo_of_counting (counting_countPicos hc last) ?_ ht,
      countPicos_add _ _ s last, runTo_of_counting hc (by omega) ht]
    · congr 1
      show 500000000000 - s.time.frac + (t - (s.time.frac + (500000000000 - s.time.frac))) = _
      omega
    · show s.time.frac + (500000000000 - s.time.frac) < t
      omega
  · rfl

theorem advanceTo_not_counting {t : Nat} {s : State} (h : counting s = false) : advanceTo t s = s := by
  simp [advanceTo, h]

theorem advanceTo_zero (s : State) : advanceTo 0 s = s := by
  simp [advanceTo]

/-- No request takes a part that has started back to LOADING. -/
theorem CatalogueEffect.stays_started {f : Request.Effect} (h : CatalogueEffect f) {s : State}
    (hs : s.part ≠ .loading) : (f s).1.part ≠ .loading := by
  cases h with
  | saveProfile =>
    unfold requestSaveProfile
    split
    · exact hs
    · exact nofun
  | _ => simpa using hs

theorem takeRequest_started (q : Request) {s : State} (hs : s.part ≠ .loading) :
    (takeRequest q s).part ≠ .loading := by
  show (judgeRequest q s).1.part ≠ .loading
  unfold judgeRequest refuse
  (repeat' split)
  · exact hs
  · exact hs
  · rename_i f h; exact (requestEffect_catalogue h).stays_started hs
  · exact hs

theorem serveNext_started {s : State} (hs : s.part ≠ .loading) : (serveNext s).part ≠ .loading := by
  unfold serveNext
  split
  · exact takeRequest_started _ hs
  · exact hs
  · exact hs
  · exact hs

theorem settle_started {s : State} (hs : s.part ≠ .loading) : (settle s).part ≠ .loading := by
  have e : (settle s).part = (restartActs s).part := by simp [settle]
  rw [e]
  unfold restartActs
  split
  · exact serveNext_started (by simpa using hs)
  · exact hs

theorem advanceTo_started (t : Nat) (s : State) : (advanceTo t s).started = s.started := by
  unfold advanceTo
  split
  · rename_i h
    simp only [counting, Bool.and_eq_true] at h
    have g : (settle s).part ≠ .loading := settle_started (started_iff.mp h.1.1.1)
    rw [h.1.1.1, started_iff]
    simpa using g
  · rfl

/-- An event at a later fraction is the event at the count's own instant, once the count stands there. -/
theorem at_advanced (t : Nat) (f : State → State) (s : State) :
    (if s.started then f (advanceTo t s) else s)
      = if (advanceTo t s).started then f (advanceTo 0 (advanceTo t s)) else advanceTo t s := by
  rw [advanceTo_started, advanceTo_zero]
  split
  · rfl
  · rename_i h
    rw [advanceTo_not_counting (by simp [counting, h])]

/-- Settles O50. -/
theorem pinEventsFindTheCountAtTheirInstant : Obligations.PinEventsFindTheCountAtTheirInstant := by
  intro t s
  refine ⟨fun k => congrArg _ (at_advanced t (satPulseArrives k) s),
    fun k n => congrArg _ (at_advanced t (lineEdgeArrives k n) s),
    fun p => congrArg _ (at_advanced t (captureMarker p) s),
    fun p l b => congrArg _ (at_advanced t (receiveFrame p l b) s), fun hp he hf ht u => ?_⟩
  have hc : counting s = true := counting_iff.mpr ⟨hp, he⟩
  have ahead : s.time.frac + (t - s.time.frac) = t := by omega
  unfold advanceTo
  rw [if_pos (by simp [hc, hf, ht]), u.settled, runPast_undisturbed u hc ht, runTo_of_counting hc hf ht,
    countPicos_eq he, ahead]

/-- Settles O49. -/
theorem countHoldsAtTheEndOfItsRange : Obligations.CountHoldsAtTheEndOfItsRange := by
  intro s
  refine ⟨fun hp he hb hf u => ⟨_, rfl, ?_⟩, fun he => ⟨?_, fun order => ?_⟩⟩
  · have hc : counting s = true := counting_iff.mpr ⟨hp, he⟩
    have hl : inLastSecond s = true := by simp [inLastSecond, hc, hb]
    show Host.Outcome.next (reachEnd s) = _
    unfold reachEnd
    rw [if_pos hl]
    dsimp only
    rw [u.settled, if_pos hl]
    unfold runToEnd
    dsimp only
    rw [runPast_undisturbed u hc (by decide)]
    by_cases h : s.time.frac < 999999999999
    · have e : s.time.frac + (999999999999 - s.time.frac) = 999999999999 := by omega
      have k : 999999999999 - s.time.frac ≠ 0 := by omega
      rw [runTo_of_counting hc h (by decide), countPicos_eq he]
      simp [holdAtEnd, State.setTime, e, k, hb]
    · have e : s.time.frac = 999999999999 := by omega
      rw [runTo_of_not_ahead h]
      simp [holdAtEnd, State.setTime, e, hb, refsCounted_zero]
  · show Host.Outcome.next (reachEnd s) = _
    simp [reachEnd, inLastSecond, counting, he]
  · show Host.Outcome.next (nextBoundary order s) = _
    simp [nextBoundary, canMark, counting, he]

/-! ## One nominal picosecond (R2 to R4) -/

theorem picos_add (a b : Nat) (s : State) : picos (a + b) s = picos b (picos a s) := by
  induction a generalizing s with
  | zero => rw [Nat.zero_add]; rfl
  | succ a ih => rw [Nat.succ_add]; exact ih (onePico s)

theorem picos_not_counting {s : State} (h : counting s = false) (k : Nat) : picos k s = s := by
  induction k with
  | zero => rfl
  | succ k ih =>
    have e : onePico s = s := by simp [onePico, h]
    rw [picos, e, ih]

theorem onePico_within {s : State} (hc : counting s = true) (h : s.time.frac + 1 < 1000000000000) :
    onePico s = countPicos 1 s := by
  unfold onePico
  rw [if_pos hc, if_pos h]

/-- Within its second the time base advances by a run of the count (R2). -/
theorem picos_within (k : Nat) {s : State} (hc : counting s = true)
    (h : s.time.frac + (k + 1) < 1000000000000) : picos (k + 1) s = countPicos (k + 1) s := by
  induction k generalizing s with
  | zero => exact onePico_within hc h
  | succ k ih =>
    have last : ¬ (s.time.base = Config.maxSeconds ∧ s.time.frac + 1 = 999999999999) := by omega
    rw [picos, onePico_within hc (by omega), ih (counting_countPicos hc last) ?_,
      countPicos_add _ _ s last, Nat.add_comm 1]
    show s.time.frac + 1 + (k + 1) < _
    omega

/-- The advance of one nominal picosecond: F scales it, and the rest is carried (R2). -/
theorem oscillatorAdvance_total {t : TimeBase} (hf : t.correction.natAbs < 1000000000000) :
    (((oscillatorAdvance t).1 * 1000000000000 + (oscillatorAdvance t).2 : Nat) : Int)
      = t.rem + 1000000000000 + t.correction := by
  unfold oscillatorAdvance
  dsimp only
  rw [Nat.div_add_mod']
  omega

end Sys2Proof.Machine
end

section
set_option Elab.async false

namespace Sys2Proof.Machine

open Sys2Proof.Safety

/-- An advance to the end of the second marks the boundary there (R3). -/
theorem picos_over (i : Nat) {s : State} (hc : counting s = true)
    (h : s.time.frac + (i + 1) = 1000000000000) (hb : s.time.base < Config.maxSeconds) :
    picos (i + 1) s = settle (markBoundary [] (countPicos (i + 1) s)) := by
  induction i generalizing s with
  | zero =>
    have full : ¬ s.time.frac + 1 < Config.second := by simp only [Config.second]; omega
    show onePico s = _
    unfold onePico
    rw [if_pos hc, if_neg full, if_pos hb]
  | succ i ih =>
    have last : ¬ (s.time.base = Config.maxSeconds ∧ s.time.frac + 1 = 999999999999) := by omega
    rw [picos, onePico_within hc (by omega), ih (counting_countPicos hc last) ?_ hb,
      countPicos_add _ _ s last, Nat.add_comm 1]
    show s.time.frac + 1 + (i + 1) = _
    omega

/-- The remainder that an advance leaves is written. -/
def carried (r : Nat) (s : State) : State := s.setTime { s.time with rem := r }

section Advance

variable {s : State} {k r : Nat}

/-- An advance within the running second (R2). -/
theorem picos_carried_within (hc : counting s = true) (h : s.time.frac + k < 1000000000000) :
    picos k (carried r s) =
      { s with
        time := { s.time with
          frac := s.time.frac + k, counted := s.time.counted + k, rem := r
          landed := s.time.landed && decide (k = 0)
          endOfRange := decide (0 < k ∧ s.time.base = Config.maxSeconds
            ∧ s.time.frac + k = 999999999999) }
        refs := refsCounted k s.refs } := by
  have he := (counting_iff.mp hc).2
  cases k with
  | zero => simp [picos, carried, State.setTime, refsCounted_zero, he]
  | succ k =>
    rw [picos_within k (s := carried r s) hc h, countPicos_eq (s := carried r s) he]
    simp [carried, State.setTime]
    rw [Bool.eq_iff_iff, Bool.and_eq_true, decide_eq_true_iff, decide_eq_true_iff]
    exact decide_eq_true_iff

/-- An advance over the end of the second: the boundary is marked, and the rest of the advance goes on
from there (R2, R3). -/
theorem picos_carried_over {j : Nat} (hc : counting s = true) (hf : s.time.frac < 1000000000000)
    (hj : s.time.frac + j = 1000000000000) (hk : j ≤ k) (hb : s.time.base < Config.maxSeconds) :
    picos k (carried r s) =
      picos (k - j) (settle (markBoundary []
        { s with
          time := { s.time with
            frac := 1000000000000, counted := s.time.counted + j, rem := r, landed := false }
          refs := refsCounted j s.refs })) := by
  have he := (counting_iff.mp hc).2
  obtain ⟨i, rfl⟩ : ∃ i, j = i + 1 := ⟨j - 1, by omega⟩
  obtain ⟨m, rfl⟩ : ∃ m, k = i + 1 + m := ⟨k - (i + 1), by omega⟩
  rw [picos_add, picos_over i (s := carried r s) hc hj hb, countPicos_eq (s := carried r s) he,
    Nat.add_sub_cancel_left]
  simp [carried, State.setTime, hj, he]

/-- An advance in the last second that passes its last instant stops there (R4). -/
theorem picos_carried_last {j : Nat} (hc : counting s = true) (hj : s.time.frac + j = 999999999999)
    (hk : j < k) (hb : s.time.base = Config.maxSeconds) :
    picos k (carried r s) =
      { s with
        time := { s.time with
          frac := 999999999999, counted := s.time.counted + j, rem := r
          landed := s.time.landed && decide (j = 0), endOfRange := true }
        refs := refsCounted j s.refs } := by
  have he := (counting_iff.mp hc).2
  cases j with
  | zero =>
    obtain ⟨m, rfl⟩ : ∃ m, k = 1 + m := ⟨k - 1, by omega⟩
    have hf : s.time.frac = 999999999999 := hj
    have held : onePico (carried r s)
        = (carried r s).setTime (holdAtEnd (carried r s).time) := by
      unfold onePico
      rw [if_pos (by exact hc), if_neg (by simp [carried, State.setTime, hf, Config.second]),
        if_neg (by simp [carried, State.setTime, hb])]
    rw [picos_add, picos_not_counting] <;> rw [picos, picos, held]
    · simp [carried, State.setTime, holdAtEnd, hf, hb, refsCounted_zero]
    · simp [counting, carried, State.setTime, holdAtEnd, hf, hb]
  | succ i =>
    obtain ⟨m, rfl⟩ : ∃ m, k = i + 1 + m := ⟨k - (i + 1), by omega⟩
    have run := picos_carried_within (k := i + 1) (r := r) hc (by omega)
    rw [picos_add, picos_not_counting] <;> rw [run]
    · simp [hj, hb]
    · simp [counting, hj, hb]

end Advance

/-- Settles O2. -/
theorem emptyQueueCountsOneNominalPicosecond :
    Obligations.EmptyQueueCountsOneNominalPicosecond := by
  intro s hq hs hp he _ hF hf
  have hc : counting s = true := counting_iff.mpr ⟨hp, he⟩
  have tick : step s = .next
      (picos (oscillatorAdvance s.time).1 (carried (oscillatorAdvance s.time).2 s)) := by
    unfold step
    rw [hq]
    show Host.Outcome.next (oscillatorTick (settle s)) = _
    unfold oscillatorTick
    rw [hs, if_pos hc]
    rfl
  rw [tick]
  exact ⟨_, _, Nat.mod_lt _ (by decide), oscillatorAdvance_total hF,
    fun h => congrArg _ (picos_carried_within hc h),
    fun j hj hk hb => congrArg _ (picos_carried_over hc hf hj hk hb),
    fun j hj hk hb => congrArg _ (picos_carried_last hc hj hk hb)⟩

end Sys2Proof.Machine
end

section
set_option Elab.async false

namespace Sys2Proof.Machine

open Sys2Proof.Safety

/-! ## What neither an evaluation nor a step writes

The step token is written by a step and by its grant alone, the recorded second at a boundary alone, and of
a monitor the selector, the servo and a step write only its runs, its window and its line input. -/

/-- The step token, and the second last recorded with its grade. -/
def poise (s : State) : Bool × Option SecondRecord × Grade :=
  (s.servo.token, s.holdover.recorded, s.holdover.gradeOfSecond)

/-- A monitor but for its disagreement run. -/
def calm (m : Monitor) : Monitor := { m with disagree := 0 }

/-- A monitor but for its disagreement and mismatch runs, the skip-next flag, the line input and the
window. -/
def steady (m : Monitor) : Monitor :=
  { m with
    mismatch := { count := 0, value := 0 }, disagree := 0, skipNext := false, line := lineAtReset
    window := none }

/-- What the selector and the servo leave of each monitor. -/
def calms (r : PerSlot Monitor) (k : Slot) : Monitor := calm (r.get k)

/-- What the selector, the servo and a step leave of each monitor. -/
def steadies (r : PerSlot Monitor) (k : Slot) : Monitor := steady (r.get k)

theorem steadies_of_calms {r q : PerSlot Monitor} (h : calms r = calms q) : steadies r = steadies q := by
  funext k
  show steady (calms r k) = steady (calms q k)
  rw [h]

theorem poise_token {s t : State} (h : poise t = poise s) : t.servo.token = s.servo.token :=
  congrArg Prod.fst h

theorem poise_recorded {s t : State} (h : poise t = poise s) :
    t.holdover.recorded = s.holdover.recorded := congrArg (fun p => p.2.1) h

theorem poise_gradeOfSecond {s t : State} (h : poise t = poise s) :
    t.holdover.gradeOfSecond = s.holdover.gradeOfSecond := congrArg (fun p => p.2.2) h

theorem poise_of_blocks {s t : State} (servo : t.servo = s.servo) (holdover : t.holdover = s.holdover) :
    poise t = poise s := by
  unfold poise
  rw [servo, holdover]

@[simp] theorem poise_setServo (s : State) (v : Servo) (h : v.token = s.servo.token) :
    poise (s.setServo v) = poise s := by
  simp [poise, h]

@[simp] theorem poise_setHoldover (s : State) (h : Holdover) (r : h.recorded = s.holdover.recorded)
    (g : h.gradeOfSecond = s.holdover.gradeOfSecond) : poise (s.setHoldover h) = poise s := by
  simp [poise, r, g]

@[simp] theorem State.setTime_poise (s : State) (x : TimeBase) : poise (s.setTime x) = poise s :=
  poise_of_blocks (by simp) (by simp)

@[simp] theorem State.setRefs_poise (s : State) (x : PerSlot Monitor) : poise (s.setRefs x) = poise s :=
  poise_of_blocks (by simp) (by simp)

@[simp] theorem State.setSelector_poise (s : State) (x : Selector) : poise (s.setSelector x) = poise s :=
  poise_of_blocks (by simp) (by simp)

@[simp] theorem State.setFilter_poise (s : State) (x : Filter) : poise (s.setFilter x) = poise s :=
  poise_of_blocks (by simp) (by simp)

@[simp] theorem State.setChain_poise (s : State) (x : ChainUnit) : poise (s.setChain x) = poise s :=
  poise_of_blocks (by simp) (by simp)

@[simp] theorem State.setScheduler_poise (s : State) (x : Scheduler) : poise (s.setScheduler x) = poise s :=
  poise_of_blocks (by simp) (by simp)

@[simp] theorem State.setAlarms_poise (s : State) (x : AlarmUnit) : poise (s.setAlarms x) = poise s :=
  poise_of_blocks (by simp) (by simp)

@[simp] theorem State.setPort_poise (s : State) (p : Fin 12) (x : Port) : poise (s.setPort p x) = poise s :=
  poise_of_blocks (by simp) (by simp)

@[simp] theorem State.post_poise (d : NoticeDetail) (k : Nat) (s : State) : poise (s.post d k) = poise s :=
  poise_of_blocks (by simp) (by simp)

@[simp] theorem State.refresh_poise (k : AlarmKind) (n : Nat) (s : State) : poise (s.refresh k n) = poise s :=
  poise_of_blocks (by simp) (by simp)

@[simp] theorem State.refreshAll_poise (l : List (AlarmKind × Nat)) (s : State) : poise (s.refreshAll l) = poise s :=
  poise_of_blocks (by simp) (by simp)

@[simp] theorem presentGrade_poise (g : Grade) (s : State) : poise (presentGrade g s) = poise s :=
  poise_of_blocks (by simp) (by simp)

@[simp] theorem resetDisagreement_poise (s : State) : poise (resetDisagreement s) = poise s :=
  poise_of_blocks (by simp) (by simp)

@[simp] theorem modRef_poise (k : Slot) (f : Monitor → Monitor) (s : State) : poise (modRef k f s) = poise s :=
  poise_of_blocks (by simp) (by simp)

@[simp] theorem monitorsStep_poise (ev : StepEvent) (s : State) : poise (monitorsStep ev s) = poise s :=
  poise_of_blocks (by simp) (by simp)

@[simp] theorem refreshLeap_poise (s : State) : poise (refreshLeap s) = poise s :=
  poise_of_blocks (by simp) (by simp)

@[simp] theorem removeAction_poise (n : Nat) (s : State) : poise (removeAction n s) = poise s :=
  poise_of_blocks (by simp) (by simp)

@[simp] theorem portsStep_poise (ev : StepEvent) (s : State) : poise (portsStep ev s) = poise s :=
  poise_of_blocks (by simp) (by simp)

@[simp] theorem filterFollows_poise (k : Slot) (s : State) : poise (filterFollows k s) = poise s :=
  poise_of_blocks (by simp) (by simp)

@[simp] theorem monitorConditions_poise (k : Slot) (s : State) : poise (monitorConditions k s) = poise s :=
  poise_of_blocks (by simp) (by simp)

@[simp] theorem selectorConditions_poise (s : State) : poise (selectorConditions s) = poise s :=
  poise_of_blocks (by simp) (by simp)

@[simp] theorem estimateConditions_poise (s : State) : poise (estimateConditions s) = poise s :=
  poise_of_blocks (by simp) (by simp)

@[simp] theorem clearLockRuns_token (v : Servo) : (clearLockRuns v).token = v.token := by
  unfold clearLockRuns
  rfl

@[simp] theorem spoilAtSwitch_recorded (h : Holdover) : (spoilAtSwitch h).recorded = h.recorded := by
  unfold spoilAtSwitch
  rfl

@[simp] theorem spoilAtSwitch_gradeOfSecond (h : Holdover) :
    (spoilAtSwitch h).gradeOfSecond = h.gradeOfSecond := by
  unfold spoilAtSwitch
  rfl

@[simp] theorem fileReport_recorded (r : UpdateReport) (n : Nat) (h : Holdover) :
    (fileReport r n h).recorded = h.recorded := by
  dsimp only [fileReport]
  (repeat' split) <;> rfl

@[simp] theorem fileReport_gradeOfSecond (r : UpdateReport) (n : Nat) (h : Holdover) :
    (fileReport r n h).gradeOfSecond = h.gradeOfSecond := by
  dsimp only [fileReport]
  (repeat' split) <;> rfl

@[simp] theorem resetDisagreement_calms (s : State) :
    calms (resetDisagreement s).refs = calms s.refs := by
  funext k
  change calm ((s.setRefs (mapRefs _ s.refs)).ref k) = calm (s.ref k)
  rw [State.setRefs_refs_ref]
  rfl

theorem steady_windowStep (n : Nat) (m : Monitor) : steady (windowStep n m) = steady m := by
  unfold windowStep
  (repeat' split) <;> rfl

theorem steady_monitorStep (ev : StepEvent) (k : Slot) (m : Monitor) :
    steady (monitorStep ev k m) = steady m := by
  unfold monitorStep
  (repeat' split) <;> rfl

@[simp] theorem monitorsStep_steadies (ev : StepEvent) (s : State) :
    steadies (monitorsStep ev s).refs = steadies s.refs := by
  funext k
  change steady ((s.setRefs (mapRefs _ s.refs)).ref k) = steady (s.ref k)
  rw [State.setRefs_refs_ref]
  exact (steady_windowStep _ _).trans (steady_monitorStep ev k _)

/-! ### The holdover unit and the servo -/

@[simp] theorem recomputeGrade_poise (s : State) :
    poise (recomputeGrade s) = poise s ∧ calms (recomputeGrade s).refs = calms s.refs := by
  dsimp only [recomputeGrade]
  (repeat' split) <;> simp

@[simp] theorem judgeEstimate_poise (s : State) :
    poise (judgeEstimate s) = poise s ∧ calms (judgeEstimate s).refs = calms s.refs := by
  simp [judgeEstimate]

@[simp] theorem formHoldover_poise (s : State) :
    poise (formHoldover s) = poise s ∧ calms (formHoldover s).refs = calms s.refs := by
  simp [formHoldover]

@[simp] theorem takeReport_poise (r : UpdateReport) (s : State) :
    poise (takeReport r s) = poise s ∧ calms (takeReport r s).refs = calms s.refs := by
  dsimp only [takeReport]
  (repeat' split) <;> simp

@[simp] theorem servoEntered_poise (o n : ServoState) (s : State) :
    poise (servoEntered o n s) = poise s ∧ calms (servoEntered o n s).refs = calms s.refs := by
  simp [servoEntered]

@[simp] theorem holdoverSwitch_poise (s : State) :
    poise (holdoverSwitch s) = poise s ∧ calms (holdoverSwitch s).refs = calms s.refs := by
  simp [holdoverSwitch]

@[simp] theorem holdoverStep_poise (s : State) :
    poise (holdoverStep s) = poise s ∧ calms (holdoverStep s).refs = calms s.refs := by
  simp [holdoverStep, spoilAtStep]

@[simp] theorem servoEnter_poise (n : ServoState) (c : ServoCause) (s : State) :
    poise (servoEnter n c s) = poise s ∧ calms (servoEnter n c s).refs = calms s.refs := by
  dsimp only [servoEnter]
  (repeat' split) <;> simp

@[simp] theorem clearPullRuns_poise (s : State) :
    poise (clearPullRuns s) = poise s ∧ calms (clearPullRuns s).refs = calms s.refs := by
  simp [clearPullRuns]

@[simp] theorem follow_poise (k : Option Slot) (s : State) :
    poise (follow k s) = poise s ∧ calms (follow k s).refs = calms s.refs := by
  simp [follow]

@[simp] theorem servoDeselected_poise (s : State) :
    poise (servoDeselected s) = poise s ∧ calms (servoDeselected s).refs = calms s.refs := by
  dsimp only [servoDeselected]
  split
  · simp
  · refine ⟨?_, by simp⟩
    rw [(servoEnter_poise _ _ _).1, (clearPullRuns_poise _).1]
    exact (poise_setServo _ _ (clearLockRuns_token _)).trans (by simp)

@[simp] theorem servoToPhase_poise (s : State) :
    poise (servoToPhase s) = poise s ∧ calms (servoToPhase s).refs = calms s.refs := by
  dsimp only [servoToPhase]
  (repeat' split) <;> simp

@[simp] theorem servoToLine_poise (s : State) :
    poise (servoToLine s) = poise s ∧ calms (servoToLine s).refs = calms s.refs := by
  dsimp only [servoToLine]
  (repeat' split) <;> simp

@[simp] theorem servoSwitch_poise (k : Option Slot) (s : State) :
    poise (servoSwitch k s) = poise s ∧ calms (servoSwitch k s).refs = calms s.refs := by
  dsimp only [servoSwitch]
  (repeat' split) <;> simp

/-! ### The selector -/

@[simp] theorem switchTo_poise (k : Option Slot) (c : EvalCause) (s : State) :
    poise (switchTo k c s) = poise s ∧ calms (switchTo k c s).refs = calms s.refs := by
  simp [switchTo]

@[simp] theorem choose_poise (k : Option Slot) (c : EvalCause) (s : State) :
    poise (choose k c s) = poise s ∧ calms (choose k c s).refs = calms s.refs := by
  dsimp only [choose]
  (repeat' split) <;> simp

@[simp] theorem evaluateAuto_poise (c : EvalCause) (s : State) :
    poise (evaluateAuto c s) = poise s ∧ calms (evaluateAuto c s).refs = calms s.refs := by
  dsimp only [evaluateAuto]
  (repeat' split) <;> simp

@[simp] theorem evaluate_poise (c : EvalCause) (s : State) :
    poise (evaluate c s) = poise s ∧ calms (evaluate c s).refs = calms s.refs := by
  dsimp only [evaluate]
  (repeat' split) <;> simp

@[simp] theorem reportToSelector_poise (s : State) :
    poise (reportToSelector s) = poise s ∧ calms (reportToSelector s).refs = calms s.refs := by
  simp [reportToSelector]

@[simp] theorem dwellExpires_poise (s : State) :
    poise (dwellExpires s) = poise s ∧ calms (dwellExpires s).refs = calms s.refs := by
  dsimp only [dwellExpires]
  (repeat' split) <;> simp

@[simp] theorem writeMode_poise (m : SelMode) (v : Option SelMode) (s : State) :
    poise (writeMode m v s) = poise s ∧ calms (writeMode m v s).refs = calms s.refs := by
  simp [writeMode]

@[simp] theorem modeHold_poise (s : State) :
    poise ((modeHold s).1) = poise s ∧ calms ((modeHold s).1).refs = calms s.refs := by
  dsimp only [modeHold]
  (repeat' split) <;> simp

@[simp] theorem modeRelease_poise (s : State) :
    poise ((modeRelease s).1) = poise s ∧ calms ((modeRelease s).1).refs = calms s.refs := by
  dsimp only [modeRelease]
  (repeat' split) <;> simp

@[simp] theorem modeSelect_poise (k : Slot) (s : State) :
    poise (modeSelect k s) = poise s ∧ calms (modeSelect k s).refs = calms s.refs := by
  simp [modeSelect]

@[simp] theorem modeAuto_poise (s : State) :
    poise (modeAuto s) = poise s ∧ calms (modeAuto s).refs = calms s.refs := by
  simp [modeAuto]

@[simp] theorem timeGiven_poise (s : State) :
    poise (timeGiven s) = poise s ∧ calms (timeGiven s).refs = calms s.refs := by
  simp [timeGiven]

/-! ### The scheduler and steps -/

@[simp] theorem portEnable_poise (p : Fin 12) (c : PortCause) (s : State) :
    poise (portEnable p c s).1 = poise s := poise_of_blocks (by simp) (by simp)

@[simp] theorem portDisable_poise (p : Fin 12) (c : PortCause) (s : State) :
    poise (portDisable p c s).1 = poise s := poise_of_blocks (by simp) (by simp)

@[simp] theorem takeEffect_poise (a : Action) (s : State) :
    poise ((takeEffect a s).1) = poise s ∧ calms ((takeEffect a s).1).refs = calms s.refs := by
  unfold takeEffect byPort byMode byOffset
  (repeat' split) <;> simp

@[simp] theorem takeAction_poise (l : Bool) (s : State) (a : Action) :
    poise (takeAction l s a) = poise s ∧ calms (takeAction l s a).refs = calms s.refs := by
  dsimp only [takeAction]
  (repeat' split) <;> simp

@[simp] theorem takeAll_poise (l : Bool) (as : List Action) (s : State) :
    poise (as.foldl (takeAction l) s) = poise s ∧
      calms (as.foldl (takeAction l) s).refs = calms s.refs :=
  ⟨foldl_keeps poise (fun s a => (takeAction_poise l s a).1) as s,
    foldl_keeps (fun s => calms s.refs) (fun s a => (takeAction_poise l s a).2) as s⟩

@[simp] theorem schedulerStep_poise (ev : StepEvent) (s : State) :
    poise (schedulerStep ev s) = poise s ∧ calms (schedulerStep ev s).refs = calms s.refs := by
  exact takeAll_poise true _ s

@[simp] theorem boundaryActions_poise (s : State) :
    poise (boundaryActions s) = poise s ∧ calms (boundaryActions s).refs = calms s.refs := by
  exact takeAll_poise false _ s

@[simp] theorem presentStep_poise (ev : StepEvent) (s : State) :
    poise (presentStep ev s) = poise s ∧ steadies (presentStep ev s).refs = steadies s.refs := by
  have calms (t : State) := steadies_of_calms (schedulerStep_poise ev t).2
  simp [presentStep, calms]

end Sys2Proof.Machine
end

section
set_option Elab.async false

namespace Sys2Proof.Machine

open Sys2Proof.Safety

/-! ## What the taking of actions writes in the time base (R15, R163, R164) -/

/-- The UTC offset once these actions are taken in order. -/
def offsetOf (as : List Action) (o : Nat) : Nat := as.foldl (fun o a => (offsetAfter a o).1) o

/-- The leap state is that of the pending actions (R16). -/
def LeapFollows (s : State) : Prop := s.time.leap = earliestLeap s.scheduler.table

theorem leapFollows_of_same {s t : State} (h : LeapFollows s) (leap : t.time.leap = s.time.leap)
    (table : t.scheduler.table = s.scheduler.table) : LeapFollows t := by
  unfold LeapFollows
  rw [leap, table]
  exact h

theorem takeEffect_writes (a : Action) (s : State) :
    (takeEffect a s).1.time = { s.time with offset := (offsetAfter a s.time.offset).1 } := by
  unfold takeEffect byPort byMode byOffset offsetAfter
  (repeat' split) <;> simp_all

theorem takeAction_writes (l : Bool) (s : State) (a : Action) :
    (takeAction l s a).time =
      { s.time with
        offset := (offsetAfter a s.time.offset).1
        leap := earliestLeap (takeAction l s a).scheduler.table } := by
  rw [(takeAction_spec l s a).1]
  unfold takeAction
  dsimp only
  split <;> simp [takeEffect_writes, removeAction, refreshLeap]

theorem takeAction_leap (l : Bool) (s : State) (a : Action) : LeapFollows (takeAction l s a) := by
  unfold LeapFollows
  rw [takeAction_writes]

/-- Taking actions writes the offset and the leap state alone. -/
theorem takeAll_writes (l : Bool) (as : List Action) (s : State) : ∃ x,
    (as.foldl (takeAction l) s).time =
      { s.time with offset := offsetOf as s.time.offset, leap := x } := by
  induction as generalizing s with
  | nil => exact ⟨s.time.leap, rfl⟩
  | cons a as ih =>
    obtain ⟨x, e⟩ := ih (takeAction l s a)
    exact ⟨x, by rw [List.foldl_cons, e, takeAction_writes]; rfl⟩

theorem takeAll_leap (l : Bool) (as : List Action) {s : State} (h : LeapFollows s) :
    LeapFollows (as.foldl (takeAction l) s) := by
  induction as generalizing s with
  | nil => exact h
  | cons a as ih => exact ih (takeAction_leap l s a)

/-- What is taken leaves the table, and the rest stays as it stands in it. -/
theorem takeDue_table (l : Bool) (due : Action → Bool) (s : State)
    (ids : (s.scheduler.table.map Action.id).Nodup) :
    ((s.scheduler.table.filter due).foldl (takeAction l) s).scheduler.table
      = s.scheduler.table.filter (fun a => !due a) := by
  rw [(takeAll_spec l _ s).1]
  refine List.filter_congr fun x hx => ?_
  rw [Bool.eq_iff_iff, List.all_eq_true, Bool.not_eq_true']
  constructor
  · intro h
    by_contra d
    exact absurd rfl (of_decide_eq_true (h x (List.mem_filter.mpr ⟨hx, by simpa using d⟩)))
  · intro d a ha
    obtain ⟨ha, hd⟩ := List.mem_filter.mp ha
    refine decide_eq_true fun e => ?_
    rw [List.inj_on_of_nodup_map ids hx ha e, hd] at d
    cases d

theorem presentStep_writes (ev : StepEvent) (s : State) : ∃ x,
    (presentStep ev s).time =
      { s.time with
        offset := offsetOf (s.scheduler.table.filter (dueAtStep ev)) s.time.offset, leap := x } := by
  obtain ⟨t, e, ht, hs⟩ := presentStep_before ev s
  obtain ⟨x, w⟩ := takeAll_writes true (t.scheduler.table.filter (dueAtStep ev)) t
  refine ⟨x, ?_⟩
  rw [e, ← ht, ← hs]
  exact w

theorem presentStep_leap (ev : StepEvent) {s : State} (h : LeapFollows s) :
    LeapFollows (presentStep ev s) := by
  obtain ⟨t, e, ht, hs⟩ := presentStep_before ev s
  rw [e]
  exact takeAll_leap true _ (leapFollows_of_same h (by rw [ht]) (by rw [hs]))

theorem presentStep_left (ev : StepEvent) (s : State) (ids : (s.scheduler.table.map Action.id).Nodup) :
    (presentStep ev s).scheduler.table = s.scheduler.table.filter (fun a => !dueAtStep ev a) := by
  obtain ⟨t, e, -, hs⟩ := presentStep_before ev s
  rw [e, ← hs]
  exact takeDue_table true _ t (hs ▸ ids)

/-! ## A step of the time base -/

theorem reading_eq (s : State) : s.reading = s.time.base * 1000000000000 + s.time.frac := rfl

/-- The step event of a step whose applied amount is not zero comes after this state (R10, R91). -/
def stepped (kind : StepKind) (amount : Int) (s : State) : State :=
  let t := moveTime amount s
  let u := (t.setTime { t.time with stepCount := satSucc Config.count16 t.time.stepCount }).setServo
    { t.servo with token := false }
  u.post (.timeStep kind (stepEvent kind amount s).seconds (stepEvent kind amount s).picos) 0

theorem performStep_of_zero {k : StepKind} {a : Int} {s : State} (h : appliedAmount a s = 0) :
    performStep k a s = s := by
  unfold performStep
  rw [if_pos h]

theorem performStep_of_applied {k : StepKind} {a : Int} {s : State} (h : appliedAmount a s ≠ 0) :
    performStep k a s = presentStep (stepEvent k a s) (stepped k a s) := by
  unfold performStep
  rw [if_neg h]
  rfl

theorem stepped_time (k : StepKind) (a : Int) (s : State) :
    (stepped k a s).time = { (moveTime a s).time with
      stepCount := satSucc Config.count16 s.time.stepCount } := by
  simp [stepped]
  rfl

theorem stepped_scheduler (k : StepKind) (a : Int) (s : State) :
    (stepped k a s).scheduler = s.scheduler := by
  simp [stepped]

theorem stepped_token (k : StepKind) (a : Int) (s : State) : (stepped k a s).servo.token = false := by
  simp [stepped]

/-! ## The HOST step of SET_TIME (R8, R14) -/

/-- The amount that SET_TIME to `seconds` asks for (R14). -/
def hostAmount (seconds : Nat) (s : State) : Int := ((seconds : Int) - 1 - s.time.base) * Config.second

section HostStep

variable {seconds : Nat} {offset : Option Nat} {s : State}

theorem hostAmount_reading (h : TimeLaw s.time) (low : 1 ≤ seconds) (high : seconds ≤ Config.maxSeconds) :
    clampReading ((s.reading : Int) + hostAmount seconds s)
      = (seconds - 1) * 1000000000000 + s.time.frac := by
  have hf := h.frac
  rw [reading_eq]
  simp only [hostAmount, clampReading, Config.lastInstant, Config.second, Config.maxSeconds] at *
  omega

theorem hostAmount_applied (h : TimeLaw s.time) (low : 1 ≤ seconds)
    (high : seconds ≤ Config.maxSeconds) : appliedAmount (hostAmount seconds s) s
      = ((seconds : Int) - 1 - s.time.base) * 1000000000000 := by
  unfold appliedAmount
  rw [hostAmount_reading h low high, reading_eq]
  omega

/-- The step event of SET_TIME (R10, R14). -/
theorem hostAmount_event (h : TimeLaw s.time) (low : 1 ≤ seconds)
    (high : seconds ≤ Config.maxSeconds) : stepEvent .host (hostAmount seconds s) s =
      { kind := .host, seconds := (seconds : Int) - 1 - s.time.base, picos := 0
        before := s.time.base, after := seconds - 1
        forward := decide (s.time.base < seconds - 1), pending := false } := by
  have base : (moveTime (hostAmount seconds s) s).time.base = seconds - 1 := by
    rw [moveTime_base, hostAmount_reading h low high]
    have hf := h.frac
    simp only [Config.second] at *
    omega
  unfold stepEvent
  dsimp only
  rw [base, hostAmount_applied h low high]
  simp only [Config.second, StepEvent.mk.injEq, decide_eq_decide, true_and, and_true]
  refine ⟨Int.mul_tdiv_cancel _ (by decide), Int.mul_tmod_left _ _, ?_⟩
  omega

theorem requestSetTime_hostStep (hs : s.time.timeSet = true) (ha : s.servo.state ≠ .acquiring)
    (hl : s.servo.state ≠ .locked) (high : seconds ≤ Config.maxSeconds) (ho : offset.getD 0 ≤ 255) :
    requestSetTime seconds offset s = hostStep seconds offset s := by
  unfold requestSetTime
  rw [if_neg (by omega), if_neg (by simp [hs])]
  split <;> first | rfl | contradiction

theorem hostStep_eq (low : 1 ≤ seconds) : hostStep seconds offset s =
    (writeOffset offset (performStep .host (hostAmount seconds s) s),
      okWith (putI 7 (stepEvent .host (hostAmount seconds s) s).seconds)) := by
  unfold hostStep
  rw [if_neg (by omega)]
  rfl

theorem writeOffset_time (o : Option Nat) (t : State) :
    (writeOffset o t).time = { t.time with offset := o.getD t.time.offset } := rfl

end HostStep

theorem moved_time (a : Int) (s : State) : (moveTime a s).time =
    { s.time with
      base := clampReading ((s.reading : Int) + a) / 1000000000000
      frac := clampReading ((s.reading : Int) + a) % 1000000000000
      endOfRange := decide (clampReading ((s.reading : Int) + a) = Config.lastInstant)
      landed := s.time.landed
        || decide (clampReading ((s.reading : Int) + a) ≠ s.time.base * Config.second + s.time.frac) } :=
  rfl

/-- The time base once SET_TIME has stepped it (R8, R14). -/
theorem hostStep_time {seconds : Nat} {s : State} (h : TimeLaw s.time) (low : 1 ≤ seconds)
    (high : seconds ≤ Config.maxSeconds) :
    ∃ e l, (stepped .host (hostAmount seconds s) s).time =
      { s.time with
        base := seconds - 1, stepCount := satSucc Config.count16 s.time.stepCount, endOfRange := e
        landed := l } := by
  have hf := h.frac
  simp only [Config.second] at hf
  have base : ((seconds - 1) * 1000000000000 + s.time.frac) / 1000000000000 = seconds - 1 := by omega
  have frac : ((seconds - 1) * 1000000000000 + s.time.frac) % 1000000000000 = s.time.frac := by omega
  rw [stepped_time, moved_time, hostAmount_reading h low high, base, frac]
  exact ⟨_, _, rfl⟩

/-- The step of SET_TIME takes what it reaches or passes: a step back takes nothing, for every pending
action lies ahead of it (R164). -/
theorem hostStep_due {seconds : Nat} {s : State} (h : TimeLaw s.time) (g : TableLaw s)
    (low : 1 ≤ seconds) (high : seconds ≤ Config.maxSeconds) :
    ∀ a ∈ s.scheduler.table, dueAtStep (stepEvent .host (hostAmount seconds s) s) a
      = decide (a.due ≤ seconds - 1) := by
  intro a ha
  have ahead := g.ahead a ha
  rw [hostAmount_event h low high]
  simp only [dueAtStep, Bool.false_eq_true, if_false, ← Bool.decide_and, decide_eq_decide]
  omega

theorem satSucc_eq_min (l n : Nat) : satSucc l n = min l (n + 1) := by
  unfold satSucc
  split <;> omega

theorem exec_setTime {tag : Byte} {seconds : Nat} {offset : Option Nat} {s t : State} {c : List Byte}
    (h : Takes s) (e : requestSetTime seconds offset s = (t, okWith c)) (hl : t.link = s.link) :
    exec (.setTime tag seconds offset) s = .next (t.setLink (answered s.link 0x01 tag .ok c)) :=
  congrArg Host.Outcome.next (takeTyped_okWith h 0x01 tag e hl)

/-- Settles O23. -/
theorem setTimeStepsAtOnce : Obligations.SetTimeStepsAtOnce := by
  intro tag seconds offset s hk hs ha hl law low high ho other
  have applied : appliedAmount (hostAmount seconds s) s ≠ 0 := by
    rw [hostAmount_applied law low high]
    omega
  have run : requestSetTime seconds offset s
      = (writeOffset offset (presentStep (stepEvent .host (hostAmount seconds s) s)
            (stepped .host (hostAmount seconds s) s)),
          okWith (putI 7 ((seconds : Int) - 1 - s.time.base))) := by
    rw [requestSetTime_hostStep hs ha hl high ho, hostStep_eq low, performStep_of_applied applied,
      hostAmount_event law low high]
  obtain ⟨e, l, time⟩ := hostStep_time law low high
  obtain ⟨x, writes⟩ := presentStep_writes (stepEvent .host (hostAmount seconds s) s)
    (stepped .host (hostAmount seconds s) s)
  have token := (poise_token (presentStep_poise (stepEvent .host (hostAmount seconds s) s)
    (stepped .host (hostAmount seconds s) s)).1).trans (stepped_token ..)
  have left := presentStep_left (stepEvent .host (hostAmount seconds s) s)
    (stepped .host (hostAmount seconds s) s)
  have leap := presentStep_leap (stepEvent .host (hostAmount seconds s) s)
    (s := stepped .host (hostAmount seconds s) s)
  have frame := presentStep_frame (stepEvent .host (hostAmount seconds s) s)
    (stepped .host (hostAmount seconds s) s)
  rw [time, stepped_scheduler] at writes
  rw [stepped_scheduler] at left
  refine ⟨_, exec_setTime hk run (by simp [stepped]), ?_⟩
  generalize presentStep (stepEvent .host (hostAmount seconds s) s)
    (stepped .host (hostAmount seconds s) s) = u at writes token left leap frame
  obtain ⟨part, -, flash, pending⟩ := frame
  refine ⟨by simp [writeOffset_time, writes], by simp [writeOffset_time, writes],
    by simp [writeOffset_time, writes], by simp [writeOffset_time, writes],
    by simp [writeOffset_time, writes, hs], fun o e => by simp [writeOffset_time, e], ?_, by simp [token], rfl, by simp [part, stepped],
    by simp [flash, stepped], by simp [pending, stepped], fun g => ?_⟩
  · simp [writeOffset_time, writes, satSucc_eq_min]
  · have due := hostStep_due law g low high
    have follows : LeapFollows s → LeapFollows (stepped .host (hostAmount seconds s) s) := fun h =>
      leapFollows_of_same h (by rw [time]) (by rw [stepped_scheduler])
    have base : u.time.base = seconds - 1 := by rw [writes]
    refine ⟨?_, fun h => leap (follows h), fun e => ?_⟩
    · refine (left g.ids).trans (List.filter_congr fun a ha => ?_)
      rw [due a ha, ← decide_not, decide_eq_decide, State.setLink_time, writeOffset_time, base]
      omega
    · simp only [e, State.setLink_time, writeOffset_time, Option.getD_none, base]
      rw [writes]
      exact congrArg (offsetOf · s.time.offset) (List.filter_congr due)

end Sys2Proof.Machine
end

section
set_option Elab.async false

namespace Sys2Proof.Machine

open Sys2Proof.Safety

/-! ## The first setting of time (R12) -/

@[simp] theorem moveTime_poise (a : Int) (s : State) : poise (moveTime a s) = poise s :=
  poise_of_blocks (by simp) (by simp)

/-- The state in which the setting of time is presented as a step, if it moves the count (R12). -/
def timeSettled (k : Slot) (d : Int) (s : State) : State :=
  let t := moveTime (d * Config.second) s
  timeGiven ((t.setTime { t.time with timeSet := true, pendingSet := none }).post
    (.timeSet (.slot k) (stepEvent .seconds (d * Config.second) s).seconds) 0)

theorem timeSetting_cases (k : Slot) (d : Int) (s : State) :
    timeSetting k d s = timeSettled k d s ∨
      timeSetting k d s = presentStep (stepEvent .seconds (d * Config.second) s) (timeSettled k d s) := by
  unfold timeSetting
  dsimp only
  split
  · exact .inl rfl
  · exact .inr rfl

theorem timeSettled_time (k : Slot) (d : Int) (s : State) : (timeSettled k d s).time =
    { (moveTime (d * Config.second) s).time with timeSet := true, pendingSet := none } := by
  simp [timeSettled]

theorem timeSettled_poise (k : Slot) (d : Int) (s : State) :
    poise (timeSettled k d s) = poise s ∧ steadies (timeSettled k d s).refs = steadies s.refs := by
  have h : poise (timeSettled k d s) = poise s ∧ calms (timeSettled k d s).refs = calms s.refs := by
    simp [timeSettled]
  exact ⟨h.1, steadies_of_calms h.2⟩

/-- The setting of time writes the reading, the flag and the pending set; a step that it makes takes late
actions, which write the offset and the leap state (R12, R164). -/
theorem timeSetting_time (k : Slot) (d : Int) (s : State) : ∃ o x, (timeSetting k d s).time =
    { (moveTime (d * Config.second) s).time with
      timeSet := true, pendingSet := none, offset := o, leap := x } := by
  rcases timeSetting_cases k d s with e | e
  · exact ⟨s.time.offset, s.time.leap, by rw [e, timeSettled_time]; rfl⟩
  · obtain ⟨x, w⟩ := presentStep_writes (stepEvent .seconds (d * Config.second) s) (timeSettled k d s)
    exact ⟨offsetOf _ _, x, by rw [e, w, timeSettled_time]⟩

theorem timeSetting_poise (k : Slot) (d : Int) (s : State) :
    poise (timeSetting k d s) = poise s ∧ steadies (timeSetting k d s).refs = steadies s.refs := by
  obtain ⟨h, g⟩ := timeSettled_poise k d s
  rcases timeSetting_cases k d s with e | e
  · rw [e]
    exact ⟨h, g⟩
  · rw [e, (presentStep_poise _ _).1, (presentStep_poise _ _).2]
    exact ⟨h, g⟩

theorem level_of_steadies {s t : State} (h : steadies t.refs = steadies s.refs) (k : Slot) :
    (t.ref k).level = (s.ref k).level := by
  show (steadies t.refs k).level = (steadies s.refs k).level
  rw [h]

theorem handoff_set {k : Slot} {s : State} (m : Measurement) (request : Bool)
    (h : s.time.timeSet = true) : handoff k m request s =
      if s.servo.followed = some k then handoffUpdate k m (s.ref k).level request s else s := by
  unfold handoff
  dsimp only
  split
  · rename_i hf
    rw [h]
    exact if_pos hf
  · rfl

theorem handoff_unset {k : Slot} {m : Measurement} {d : Int} {s : State} (request : Bool)
    (hf : s.servo.followed = some k) (hs : s.time.timeSet = false) (hd : m.ds = some d) :
    handoff k m request s =
      if (timeSetting k d s).servo.followed = some k then
        handoffUpdate k m (s.ref k).level request (timeSetting k d s)
      else timeSetting k d s := by
  unfold handoff
  dsimp only
  rw [if_pos hf, hs, hd]

/-- A measurement that sets the time is taken as one with time set. -/
theorem handoff_timeSetting {k : Slot} {m : Measurement} {d : Int} {s : State} (request : Bool)
    (hf : s.servo.followed = some k) (hs : s.time.timeSet = false) (hd : m.ds = some d) :
    handoff k m request s = handoff k m request (timeSetting k d s) := by
  obtain ⟨o, x, w⟩ := timeSetting_time k d s
  have set : (timeSetting k d s).time.timeSet = true := by rw [w]
  rw [handoff_unset request hf hs hd, handoff_set m request set,
    level_of_steadies (timeSetting_poise k d s).2 k]

theorem handoff_not_followed {k : Slot} {m : Measurement} {s : State} (request : Bool)
    (h : s.servo.followed ≠ some k) : handoff k m request s = s := by
  unfold handoff
  rw [if_neg h]

/-! ## SET_TIME where it makes no step -/

section Request

variable {seconds : Nat} {offset : Option Nat} {s : State}

theorem exec_setTime_refused {tag : Byte} {v : Status} (h : Takes s)
    (e : requestSetTime seconds offset s = refuse v s) :
    exec (.setTime tag seconds offset) s = .next { s with link := answered s.link 0x01 tag v [] } :=
  refusal_answers h 0x01 tag e

theorem requestSetTime_unset (hs : s.time.timeSet = false) (high : seconds ≤ Config.maxSeconds)
    (ho : offset.getD 0 ≤ 255) : requestSetTime seconds offset s =
      (s.setTime { s.time with pendingSet := some { seconds := seconds, offset := offset } },
        okWith []) := by
  unfold requestSetTime
  rw [if_neg (by omega), if_pos hs]

theorem requestSetTime_outside (h : Config.maxSeconds < seconds ∨ 255 < offset.getD 0) :
    requestSetTime seconds offset s = refuse .invalid s := by
  unfold requestSetTime
  rw [if_pos h]

theorem requestSetTime_wrongState (hs : s.time.timeSet = true) (high : seconds ≤ Config.maxSeconds)
    (ho : offset.getD 0 ≤ 255) (h : s.servo.state = .acquiring ∨ s.servo.state = .locked) :
    requestSetTime seconds offset s = refuse .wrongState s := by
  unfold requestSetTime
  rw [if_neg (by omega), if_neg (by simp [hs])]
  rcases h with h | h <;> rw [h]

/-- SET_TIME to the second that the next boundary begins makes no step (R9, R14). -/
theorem hostStep_same (h : TimeLaw s.time) (e : seconds = s.time.base + 1)
    (high : seconds ≤ Config.maxSeconds) :
    hostStep seconds offset s = (writeOffset offset s, okWith (putI 7 0)) := by
  have low : 1 ≤ seconds := by omega
  have zero : (seconds : Int) - 1 - s.time.base = 0 := by omega
  have applied : appliedAmount (hostAmount seconds s) s = 0 := by
    rw [hostAmount_applied h low high, zero, Int.zero_mul]
  rw [hostStep_eq low, performStep_of_zero applied, hostAmount_event h low high, zero]

end Request

/-- Settles O22. -/
theorem setTimeWithoutAStep : Obligations.SetTimeWithoutAStep := by
  refine ⟨fun tag seconds offset s hk => ⟨fun high ho hs => ?_, fun h => ?_⟩,
    fun tag seconds offset s hk hs high ho => ⟨fun h => ?_, fun ha hl h0 => ?_, fun ha hl e law => ?_⟩,
    fun k d s n hn => ?_, fun k m request s => ⟨fun hf hs d hd => handoff_timeSetting request hf hs hd,
      handoff_not_followed request⟩⟩
  · exact exec_setTime hk (requestSetTime_unset hs high ho) rfl
  · exact exec_setTime_refused hk (requestSetTime_outside h)
  · exact exec_setTime_refused hk (requestSetTime_wrongState hs high ho h)
  · refine exec_setTime_refused hk ((requestSetTime_hostStep hs ha hl high ho).trans ?_)
    unfold hostStep
    rw [if_pos h0]
  · exact exec_setTime hk ((requestSetTime_hostStep hs ha hl high ho).trans (hostStep_same law e high))
      rfl
  · have reading : clampReading ((s.reading : Int) + d * Config.second) = n := by
      simp only [clampReading, Config.lastInstant, Config.second, Config.maxSeconds]
      omega
    obtain ⟨o, x, w⟩ := timeSetting_time k d s
    obtain ⟨part, link, flash, pending⟩ := timeSetting_frame k d s
    rw [moved_time, reading] at w
    exact ⟨by rw [w], by rw [w], by rw [w], by rw [w], by rw [w], by rw [w], by rw [w],
      poise_token (timeSetting_poise k d s).1, part, link, flash, pending⟩

end Sys2Proof.Machine
end

section
set_option Elab.async false

namespace Sys2Proof.Machine

open Sys2Proof.Safety

/-! ## A slot that fails (R25) -/

theorem modRef_modRef (k : Slot) (f g : Monitor → Monitor) (s : State) :
    modRef k g (modRef k f s) = modRef k (g ∘ f) s := by
  unfold modRef
  rw [State.setRef_ref]
  unfold State.setRef State.setRefs
  cases k <;> rfl

theorem calm_of_calms {s t : State} (h : calms t.refs = calms s.refs) (k : Slot) :
    calm (t.ref k) = calm (s.ref k) := congrFun h k

theorem state_of_calm {m n : Monitor} (h : calm m = calm n) : m.state = n.state :=
  (congrArg Monitor.state h : (calm m).state = (calm n).state)

theorem modRef_ref (k j : Slot) (f : Monitor → Monitor) (s : State) :
    (modRef k f s).ref j = if j = k then f (s.ref j) else s.ref j := by
  unfold modRef
  rw [State.setRef_ref_eq]
  split
  · rename_i e; rw [e]
  · rfl

/-- The monitor of slot `j` once slot `k` has failed: `k` itself enters FAILED, if it was judging. -/
def afterFail (c : FailCause) (k j : Slot) (m : Monitor) : Monitor :=
  if j = k ∧ judging m = true then failedMonitor c m else m

theorem failSlot_calm (c : FailCause) (k j : Slot) (s : State) :
    calm ((failSlot c k s).ref j) = calm (afterFail c k j (s.ref j)) := by
  unfold failSlot afterFail
  split
  · rename_i hj
    have same : calms (reportToSelector (monitorConditions k (modRef k (failedMonitor c) s))).refs
        = calms (modRef k (failedMonitor c) s).refs := by simp
    rw [calm_of_calms same, modRef_ref]
    by_cases e : j = k
    · subst e; rw [if_pos rfl, if_pos ⟨rfl, hj⟩]
    · rw [if_neg e, if_neg fun g => e g.1]
  · rename_i hj
    rw [if_neg]
    rintro ⟨rfl, g⟩
    exact hj g

theorem failSlot_failed {c : FailCause} {k : Slot} {s : State} (h : judging (s.ref k) = true) :
    ((failSlot c k s).ref k).state = .failed ∧ ((failSlot c k s).ref k).failCause = some c := by
  have e := failSlot_calm c k k s
  unfold afterFail at e
  rw [if_pos ⟨rfl, h⟩] at e
  exact ⟨(congrArg Monitor.state e : _), (congrArg Monitor.failCause e : _)⟩

theorem failSlot_other {c : FailCause} {k j : Slot} {s : State} (h : j ≠ k) :
    calm ((failSlot c k s).ref j) = calm (s.ref j) := by
  rw [failSlot_calm, afterFail, if_neg fun g => h g.1]

/-! ## The time check (R37) -/

section TimeCheck

variable {k : Slot} {x : Measurement} {s : State} {d : Int}

theorem timeCheck_unchecked (h : x.ds = none ∨ s.time.timeSet = false ∨ (s.ref k).carriesTime = false) :
    timeCheck k x s = (s, false) := by
  unfold timeCheck
  split
  · rfl
  · rename_i d hd
    rw [if_neg]
    rcases h with h | h | h
    · rw [hd] at h; cases h
    · simp [timeChecked, h]
    · simp [timeChecked, h]

/-- The mismatch run of a slot replaced. -/
def withRun (k : Slot) (r : MismatchRun) (s : State) : State :=
  s.setRef k { s.ref k with mismatch := r }

theorem timeCheck_of_run (ht : s.time.timeSet = true) (hc : (s.ref k).carriesTime = true)
    (hd : x.ds = some d) : timeCheck k x s =
      if (nextRun d (s.ref k).mismatch).count < 3 then (withRun k (nextRun d (s.ref k).mismatch) s, false)
      else if s.selector.selected = some k ∧ s.servo.token = true then
        (withRun k { count := 0, value := 0 } s, true)
      else (failSlot .time k (withRun k (nextRun d (s.ref k).mismatch) s), false) := by
  unfold timeCheck
  rw [hd]
  dsimp only
  rw [if_pos (by simp [timeChecked, ht, hc])]
  split
  · rfl
  · rw [modRef_modRef]
    simp only [modRef_frame]
    rfl

theorem nextRun_of_zero (r : MismatchRun) : nextRun 0 r = { count := 0, value := 0 } := rfl

theorem nextRun_of_ne {r : MismatchRun} (h : d ≠ 0) : nextRun d r =
    { count := if r.count ≠ 0 ∧ r.value = d then min 3 (r.count + 1) else 1, value := d } := by
  unfold nextRun
  rw [if_neg h, satSucc_eq_min]
  split <;> rfl

end TimeCheck

/-! ## The agreement run (R38) -/

theorem outsideAgreement_of_limit {v : Int} {m : Monitor} {l : Nat} (h : m.config.agreement = some l) :
    outsideAgreement v m = decide (l < v.natAbs) := by
  unfold outsideAgreement
  rw [h]

/-! ## The judgement of agreement (R39) -/

/-- A slot whose disagreement run counts against it: a phase slot, QUALIFIED and not selected. -/
def StandsApart (s : State) (k : Slot) : Prop :=
  isLine k = false ∧ s.selector.selected ≠ some k ∧ (s.ref k).state = .qualified ∧ 5 ≤ (s.ref k).disagree

theorem mem_disagreeing {s : State} {k : Slot} : k ∈ disagreeing s ↔ StandsApart s k := by
  have all : k ∈ allSlots := by cases k <;> decide
  simp [disagreeing, StandsApart, all, isPhase, and_assoc]

theorem disagreeing_nodup (s : State) : (disagreeing s).Nodup :=
  List.Nodup.filter _ (by decide)

theorem agreePair_iff {s : State} {x y : Slot} : agreePair s x y = true ↔ x ≠ y ∧ ∃ ex ey lx ly,
    (s.ref x).lastE = some ex ∧ (s.ref y).lastE = some ey ∧ (s.ref x).config.agreement = some lx
      ∧ (s.ref y).config.agreement = some ly ∧ (ex - ey).natAbs ≤ min lx ly := by
  unfold agreePair
  split
  · rename_i ex ey lx ly hx hy ax ay
    simp [hx, hy, ax, ay]
  · rename_i h
    constructor
    · intro g; cases g
    · rintro ⟨-, ex, ey, lx, ly, hx, hy, ax, ay, -⟩
      exact absurd ay (h ex ey lx ly hx hy ax)

theorem failedMonitor_calm {c : FailCause} {m n : Monitor} (h : calm m = calm n) :
    calm (failedMonitor c m) = calm (failedMonitor c n) :=
  congrArg (failedMonitor c) h

/-- Judging slots that fail one after another: each of them is FAILED then, and no other. -/
theorem failAll_calm (c : FailCause) {l : List Slot} (nodup : l.Nodup) {s : State}
    (h : ∀ j ∈ l, judging (s.ref j) = true) (j : Slot) :
    calm ((l.foldl (fun s k => failSlot c k s) s).ref j)
      = if j ∈ l then calm (failedMonitor c (s.ref j)) else calm (s.ref j) := by
  induction l generalizing s with
  | nil => rfl
  | cons k l ih =>
    obtain ⟨hk, hl⟩ := List.nodup_cons.mp nodup
    have rest (i : Slot) (e : i ≠ k) : calm ((failSlot c k s).ref i) = calm (s.ref i) := failSlot_other e
    have still : ∀ i ∈ l, judging ((failSlot c k s).ref i) = true := fun i hi => by
      have e : ((failSlot c k s).ref i).state = (s.ref i).state :=
        state_of_calm (rest i fun e => hk (e ▸ hi))
      unfold judging
      rw [e]
      exact h i (List.mem_cons_of_mem k hi)
    rw [List.foldl_cons, ih hl still]
    by_cases e : j = k
    · subst e
      rw [if_neg hk, if_pos List.mem_cons_self, failSlot_calm, afterFail,
        if_pos ⟨rfl, h j List.mem_cons_self⟩]
    · rw [failedMonitor_calm (rest j e), rest j e]
      simp [e]

theorem judging_iff {m : Monitor} : judging m = true ↔ m.state = .checking ∨ m.state = .qualified := by
  simp [judging]

section AgreementJudge

variable {s : State}

/-- Two slots that stand apart agree with each other (R39). -/
def SomeAgree (s : State) : Prop :=
  (disagreeing s).any (fun x => (disagreeing s).any (fun y => agreePair s x y)) = true

theorem agreementJudge_idle (h : s.servo.state ≠ .locked ∨ ∀ k, ¬ StandsApart s k) :
    agreementJudge s = s := by
  unfold agreementJudge
  split
  · rename_i hl
    have none : disagreeing s = [] := List.eq_nil_iff_forall_not_mem.mpr fun k hk =>
      h.resolve_left (fun g => g hl) k (mem_disagreeing.mp hk)
    rw [none]
    rfl
  · rfl

theorem agreementJudge_outvoted (hl : s.servo.state = .locked) (h : SomeAgree s) {k : Slot}
    (hk : s.selector.selected = some k) :
    agreementJudge s = resetDisagreement (failSlot .outvoted k s) := by
  unfold SomeAgree at h
  unfold agreementJudge
  dsimp only
  rw [if_pos hl, if_pos h, hk]

theorem agreementJudge_disagree (hl : s.servo.state = .locked) (h : ¬ SomeAgree s) :
    agreementJudge s = (disagreeing s).foldl (fun s k => failSlot .disagree k s) s := by
  unfold SomeAgree at h
  unfold agreementJudge
  dsimp only
  rw [if_pos hl, if_neg h]

theorem someAgree_iff : SomeAgree s ↔ ∃ x y, x ≠ y ∧ StandsApart s x ∧ StandsApart s y ∧
    ∃ ex ey lx ly, (s.ref x).lastE = some ex ∧ (s.ref y).lastE = some ey
      ∧ (s.ref x).config.agreement = some lx ∧ (s.ref y).config.agreement = some ly
      ∧ (ex - ey).natAbs ≤ min lx ly := by
  simp only [SomeAgree, List.any_eq_true, mem_disagreeing, agreePair_iff]
  constructor
  · rintro ⟨x, hx, y, hy, ne, w⟩
    exact ⟨x, y, ne, hx, hy, w⟩
  · rintro ⟨x, y, ne, hx, hy, w⟩
    exact ⟨x, hx, y, hy, ne, w⟩

theorem resetDisagreement_disagree (j : Slot) : ((resetDisagreement s).ref j).disagree = 0 := by
  unfold resetDisagreement
  rw [State.setRefs_refs_ref]

/-- Two agreeing slots outvote the selected one (R39). -/
theorem outvoted_monitors {k : Slot} (h : judging (s.ref k) = true) :
    let t := resetDisagreement (failSlot .outvoted k s)
    (t.ref k).state = .failed ∧ (t.ref k).failCause = some .outvoted
      ∧ (∀ j, (t.ref j).disagree = 0) ∧ ∀ j, j ≠ k → (t.ref j).state = (s.ref j).state := by
  intro t
  have same (j : Slot) : calm (t.ref j) = calm ((failSlot .outvoted k s).ref j) :=
    calm_of_calms (resetDisagreement_calms _) j
  obtain ⟨failed, cause⟩ := failSlot_failed (c := .outvoted) h
  exact ⟨(congrArg Monitor.state (same k) : _).trans failed,
    (congrArg Monitor.failCause (same k) : _).trans cause, resetDisagreement_disagree,
    fun j e => state_of_calm ((same j).trans (failSlot_other e))⟩

/-- Without an agreeing pair each slot that stands apart fails, and no other (R39). -/
theorem disagree_monitors :
    let t := (disagreeing s).foldl (fun s k => failSlot .disagree k s) s
    (∀ j, StandsApart s j → (t.ref j).state = .failed ∧ (t.ref j).failCause = some .disagree)
      ∧ ∀ j, ¬ StandsApart s j → (t.ref j).state = (s.ref j).state := by
  intro t
  have all := failAll_calm .disagree (disagreeing_nodup s) (s := s) fun j hj =>
    judging_iff.mpr (.inr (mem_disagreeing.mp hj).2.2.1)
  refine ⟨fun j hj => ?_, fun j hj => ?_⟩
  · have e := (all j).trans (if_pos (mem_disagreeing.mpr hj))
    exact ⟨congrArg Monitor.state e, congrArg Monitor.failCause e⟩
  · exact state_of_calm ((all j).trans (if_neg fun g => hj (mem_disagreeing.mp g)))

end AgreementJudge

end Sys2Proof.Machine
end

section
set_option Elab.async false

namespace Sys2Proof.Machine

open Sys2Proof.Safety

/-! ## What the servo's update leaves of the monitors -/

theorem steadies_of_refs {s t : State} (h : t.refs = s.refs) : steadies t.refs = steadies s.refs := by
  rw [h]

theorem performStep_steadies (k : StepKind) (a : Int) (s : State) :
    steadies (performStep k a s).refs = steadies s.refs := by
  by_cases h : appliedAmount a s = 0
  · rw [performStep_of_zero h]
  · rw [performStep_of_applied h, (presentStep_poise _ _).2]
    exact steadies_of_refs (by simp [stepped])

theorem servoEnter_steadies (n : ServoState) (c : ServoCause) (s : State) :
    steadies (servoEnter n c s).refs = steadies s.refs := steadies_of_calms (servoEnter_poise n c s).2

theorem judgeAcquiring_steadies (e : Int) (s : State) :
    steadies (judgeAcquiring e s).refs = steadies s.refs := by
  unfold judgeAcquiring
  dsimp only
  (repeat' split) <;> simp [servoEnter_steadies]

theorem judgeLocked_steadies (e : Int) (s : State) :
    steadies (judgeLocked e s).refs = steadies s.refs := by
  unfold judgeLocked
  dsimp only
  (repeat' split) <;> simp [servoEnter_steadies]

theorem firstUpdate_steadies (e : Int) (s : State) :
    steadies (firstUpdate e s).refs = steadies s.refs := by
  unfold firstUpdate
  dsimp only
  (repeat' split) <;> simp [servoEnter_steadies]

theorem slewUpdate_steadies (e : Int) (l : Nat) (s : State) :
    steadies (slewUpdate e l s).result.refs = steadies s.refs := by
  unfold slewUpdate
  dsimp only
  split <;> simp [judgeAcquiring_steadies, judgeLocked_steadies]

theorem servoUpdate_steadies {v : Int} {l : Nat} {s : State} {u : Update}
    (h : servoUpdate v l s = some u) : steadies u.result.refs = steadies s.refs := by
  have phase : steadies (phaseUpdate v l s).result.refs = steadies s.refs := by
    unfold phaseUpdate
    dsimp only
    split
    · simp [phaseStepUpdate, performStep_steadies, firstUpdate_steadies]
    · rw [slewUpdate_steadies, firstUpdate_steadies]
  unfold servoUpdate at h
  split at h <;> cases h
  · exact phase
  · exact phase
  · exact steadies_of_refs (by simp)

theorem handoffUpdate_steadies (k : Slot) (m : Measurement) (l : Nat) (b : Bool) (s : State) :
    steadies (handoffUpdate k m l b s).refs = steadies s.refs := by
  unfold handoffUpdate
  dsimp only
  split
  · rename_i u hu
    have w : steadies u.result.refs = steadies s.refs := by
      split at hu
      · cases hu
        simp [secondsUpdate, performStep_steadies]
      · rw [servoUpdate_steadies hu]
        simp
    simpa [reportUpdate] using w
  · simp

theorem handoff_steadies (k : Slot) (m : Measurement) (b : Bool) (s : State) :
    steadies (handoff k m b s).refs = steadies s.refs := by
  unfold handoff
  dsimp only
  (repeat' split) <;> simp only [handoffUpdate_steadies, (timeSetting_poise _ _ _).2]

/-! ## What a measurement shows of a monitor (R29) -/

/-- The signal, the last values and the label of a monitor. -/
def shown (m : Monitor) : Bool × Option Int × Option Int × Option Nat :=
  (m.signal, m.lastE, m.lastDs, m.label)

/-- What each monitor shows. -/
def shows (r : PerSlot Monitor) (k : Slot) : Bool × Option Int × Option Int × Option Nat := shown (r.get k)

theorem shows_of_steadies {r q : PerSlot Monitor} (h : steadies r = steadies q) : shows r = shows q := by
  funext k
  show shown (steadies r k) = shown (steadies q k)
  rw [h]

theorem shows_of_calms {r q : PerSlot Monitor} (h : calms r = calms q) : shows r = shows q :=
  shows_of_steadies (steadies_of_calms h)

theorem modRef_shows {k : Slot} {f : Monitor → Monitor} (s : State) (h : ∀ m, shown (f m) = shown m) :
    shows (modRef k f s).refs = shows s.refs := by
  funext j
  show shown ((modRef k f s).ref j) = shown (s.ref j)
  rw [modRef_ref]
  split
  · exact h _
  · rfl

theorem reportToSelector_shows (s : State) : shows (reportToSelector s).refs = shows s.refs :=
  shows_of_calms (reportToSelector_poise s).2

theorem failSlot_shows (c : FailCause) (k : Slot) (s : State) :
    shows (failSlot c k s).refs = shows s.refs := by
  unfold failSlot
  split
  · rw [reportToSelector_shows]
    simpa using modRef_shows (k := k) (f := failedMonitor c) s fun _ => rfl
  · rfl

theorem wanderJudge_shows (k : Slot) (v : Int) (s : State) :
    shows (wanderJudge k v s).refs = shows s.refs := by
  have violated : shows (modRef k violatedMonitor s).refs = shows s.refs := modRef_shows s fun _ => rfl
  unfold wanderJudge demandRaise
  dsimp only
  (repeat' split)
  · rw [modRef_shows (f := raisedMonitor true) _ fun _ => rfl, violated]
  · rw [failSlot_shows, violated]
  · exact violated
  · rfl

theorem timeCheck_shows (k : Slot) (x : Measurement) (s : State) :
    shows (timeCheck k x s).1.refs = shows s.refs := by
  have run (r : MismatchRun) (t : State) :
      shows (modRef k (fun m => { m with mismatch := r }) t).refs = shows t.refs :=
    modRef_shows t fun _ => rfl
  unfold timeCheck
  dsimp only
  (repeat' split)
  · rfl
  · exact run _ s
  · exact (run _ _).trans (run _ s)
  · exact (failSlot_shows _ _ _).trans (run _ s)
  · rfl

theorem checkMeasurement_shows (k : Slot) (x : Measurement) (s : State) :
    shows (checkMeasurement k x s).refs = shows s.refs := by
  have agreed (t : State) : shows (agreementRun k x.value t).refs = shows t.refs := by
    unfold agreementRun
    split
    · exact modRef_shows t fun _ => rfl
    · rfl
  unfold checkMeasurement
  dsimp only
  (repeat' split)
  · rw [shows_of_steadies (handoff_steadies _ _ _ _), agreed, timeCheck_shows]
  · rw [agreed, timeCheck_shows]
  · exact timeCheck_shows k x s

/-- A measurement of a SAT slot is recorded: last e and last delta-s are its own (R29). -/
theorem recordMeasurement_shows {k : Slot} (hk : isSat k = true) (hl : isLine k = false)
    (x : Measurement) (s : State) : shows (recordMeasurement k x s).refs k
      = ((s.ref k).signal, some x.value, x.ds, (s.ref k).label) := by
  have labelled (m : Monitor) (b : Bool) : shown (labelledMonitor b m) = shown m := by
    unfold labelledMonitor
    split <;> rfl
  have recorded : shows (modRef k (labelledMonitor x.ds.isSome) (modRef k (recordedMonitor k x) s)).refs k
      = ((s.ref k).signal, some x.value, x.ds, (s.ref k).label) := by
    rw [modRef_shows _ fun m => labelled m _]
    show shown ((modRef k (recordedMonitor k x) s).ref k) = _
    rw [modRef_ref, if_pos rfl]
    unfold recordedMonitor
    rw [if_neg (by simp [hl])]
    rfl
  unfold recordMeasurement
  dsimp only
  rw [if_pos hk]
  split
  · simpa using recorded
  · simp only [recomputeGrade_frame, reportToSelector_shows]
    simpa using recorded

/-- A measurement that completes at a SAT monitor shows its values (R29). -/
theorem takeMeasurement_shows {k : Slot} (hk : isSat k = true) (hl : isLine k = false) (x : Measurement)
    {s : State} (hd : (s.ref k).state ≠ .disabled) (ha : (s.ref k).state ≠ .absent) :
    shows (takeMeasurement k x s).refs k
      = ((s.ref k).signal, some x.value, x.ds, (s.ref k).label) := by
  have judged : shows (recordMeasurement k x (wanderJudge k x.value s)).refs k
      = ((s.ref k).signal, some x.value, x.ds, (s.ref k).label) := by
    have w : shown ((wanderJudge k x.value s).ref k) = shown (s.ref k) :=
      congrFun (wanderJudge_shows k x.value s) k
    rw [recordMeasurement_shows hk hl]
    simp only [shown, Prod.mk.injEq] at w
    obtain ⟨signal, -, -, label⟩ := w
    rw [signal, label]
  unfold takeMeasurement
  split
  · contradiction
  · contradiction
  · exact recordMeasurement_shows hk hl x s
  · dsimp only
    split
    · rw [checkMeasurement_shows]; exact judged
    · exact judged
  · dsimp only
    split
    · rw [checkMeasurement_shows]; exact judged
    · exact judged

/-! ## Satellite pulses (R26, R35) -/

/-- A monitor whose signal has appeared: in ABSENT it enters CHECKING (R23). -/
def appeared (m : Monitor) : Monitor :=
  if m.state = .absent then startedMonitor { m with signal := true } else { m with signal := true }

theorem signalAppears_same {k : Slot} {s : State} (h : (s.ref k).signal = true) :
    signalAppears k s = s := by
  unfold signalAppears
  exact if_pos (.inr h)

theorem signalAppears_calm {k : Slot} {s : State} (hd : (s.ref k).state ≠ .disabled)
    (hs : (s.ref k).signal ≠ true) : calm ((signalAppears k s).ref k) = calm (appeared (s.ref k)) := by
  unfold signalAppears appeared
  dsimp only
  rw [if_neg (by simp [hd, hs])]
  split
  · have same (t : State) : calms (enterChecking k t).refs = calms (modRef k startedMonitor t).refs := by
      simp [enterChecking]
    rw [calm_of_calms (same _), modRef_ref, if_pos rfl, modRef_ref, if_pos rfl]
  · have same (t : State) : calms (monitorConditions k t).refs = calms t.refs := by simp
    rw [calm_of_calms (same _), modRef_ref, if_pos rfl]

/-- A monitor that takes a pulse has its signal, its window and its label, and observes (R22, R23). -/
theorem signalAppears_monitor {k : Slot} {s : State} (hd : (s.ref k).state ≠ .disabled)
    (ha : (s.ref k).state = .absent → (s.ref k).signal = false) :
    let m := (signalAppears k s).ref k
    m.state ≠ .disabled ∧ m.state ≠ .absent ∧ m.signal = true ∧ m.label = (s.ref k).label
      ∧ m.window = (s.ref k).window := by
  intro m
  by_cases hs : (s.ref k).signal = true
  · have here : (s.ref k).state ≠ .absent := fun g => by rw [ha g] at hs; cases hs
    have e : m = s.ref k := by simp only [m, signalAppears_same hs]
    rw [e]
    exact ⟨hd, here, hs, rfl, rfl⟩
  · have same : calm m = calm (appeared (s.ref k)) := signalAppears_calm hd hs
    have field {β : Type} (f : Monitor → β) (hf : ∀ a, f (calm a) = f a) : f m = f (appeared (s.ref k)) := by
      rw [← hf, same, hf]
    rw [field Monitor.state fun _ => rfl, field Monitor.signal fun _ => rfl,
      field Monitor.label fun _ => rfl, field Monitor.window fun _ => rfl]
    unfold appeared
    split
    · simp [startedMonitor]
    · rename_i h; simp [hd, h]

/-- A pulse at the count's own instant (R26). -/
theorem exec_satPulse {k : SatSlot} {s : State} (hp : s.part ≠ .loading) :
    exec (.satPulse k 0) s = .next (satPulseArrives k s) := by
  show Host.Outcome.next (if s.started then satPulseArrives k (advanceTo 0 s) else s) = _
  rw [advanceTo_zero, if_pos (started_iff.mpr hp)]

theorem firstPulse_iff {now : Nat} {m : Monitor} :
    firstPulse now m = true ↔ ∀ w, m.window = some w → w.second = now → w.pulses = 0 := by
  unfold firstPulse
  split
  · rename_i w hw
    simp [hw, ← imp_iff_not_or]
  · rename_i hw
    simp [hw]

section Pulse

variable {k : SatSlot} {s : State}

theorem satPulse_disabled (hp : s.part ≠ .loading) (h : (s.ref (satSlot k)).state = .disabled) :
    exec (.satPulse k 0) s = .next s := by
  rw [exec_satPulse hp]
  unfold satPulseArrives
  rw [if_pos h]

/-- A further pulse of its window is only counted (R26). -/
theorem satPulse_further (hp : s.part ≠ .loading) (hd : (s.ref (satSlot k)).state ≠ .disabled)
    (hs : (s.ref (satSlot k)).signal = true) (hw : windowReached s (satSlot k) = none)
    {w : SatWindow} (e : (s.ref (satSlot k)).window = some w)
    (now : w.second = (nearestSecond s.reading).toNat) (again : w.pulses ≠ 0) :
    exec (.satPulse k 0) s = .next (s.setRef (satSlot k)
      { s.ref (satSlot k) with
        window := some { second := (nearestSecond s.reading).toNat, pulses := w.pulses + 1 } }) := by
  have later : ¬ firstPulse (windowOf s.reading) (s.ref (satSlot k)) = true := fun g =>
    again (firstPulse_iff.mp g w e now)
  rw [exec_satPulse hp]
  unfold satPulseArrives satPulseTaken
  rw [if_neg hd, closeWindow_same hw, signalAppears_same hs]
  dsimp only
  rw [if_neg later]
  unfold modRef pulsedMonitor
  rw [if_neg later, e, ← now]
  rfl

/-- The first pulse of its window is a measurement (R6, R26, R35). -/
theorem satPulse_first (hp : s.part ≠ .loading) (hd : (s.ref (satSlot k)).state ≠ .disabled)
    (ha : (s.ref (satSlot k)).state = .absent → (s.ref (satSlot k)).signal = false)
    (hw : windowReached s (satSlot k) = none)
    (first : ∀ w, (s.ref (satSlot k)).window = some w → w.second = (nearestSecond s.reading).toNat →
      w.pulses = 0) :
    ∃ t, exec (.satPulse k 0) s = .next t
      ∧ shown (t.ref (satSlot k)) = (true, some (boundaryError s.reading),
          (s.ref (satSlot k)).label.map (fun l => (l : Int) - nearestSecond s.reading), none)
      ∧ t.part = s.part ∧ t.link = s.link ∧ t.flash = s.flash ∧ t.pending = s.pending := by
  have sat : isSat (satSlot k) = true := by cases k <;> rfl
  have line : isLine (satSlot k) = false := by cases k <;> rfl
  obtain ⟨md, ma, signal, label, window⟩ := signalAppears_monitor hd ha
  have reading : (signalAppears (satSlot k) s).reading = s.reading := by simp [State.reading]
  have isFirst : firstPulse (windowOf s.reading) ((signalAppears (satSlot k) s).ref (satSlot k)) = true := by
    rw [firstPulse_iff, window]
    exact first
  have pulsed : (modRef (satSlot k) (pulsedMonitor (windowOf s.reading))
      (signalAppears (satSlot k) s)).ref (satSlot k)
      = { (signalAppears (satSlot k) s).ref (satSlot k) with
          window := some { second := windowOf s.reading, pulses := 1 }, label := none } := by
    rw [modRef_ref, if_pos rfl, pulsedMonitor, if_pos isFirst]
  have run : satPulseArrives k s = takeMeasurement (satSlot k)
      (satMeasurement s.reading (s.ref (satSlot k)).label)
      (modRef (satSlot k) (pulsedMonitor (windowOf s.reading)) (signalAppears (satSlot k) s)) := by
    unfold satPulseArrives satPulseTaken
    rw [if_neg hd, closeWindow_same hw]
    dsimp only
    rw [reading, if_pos isFirst, label]
    simp [State.reading]
  refine ⟨_, exec_satPulse hp, ?_⟩
  rw [run]
  refine ⟨?_, by simp, by simp, by simp, by simp⟩
  have taken := takeMeasurement_shows sat line (satMeasurement s.reading (s.ref (satSlot k)).label)
    (s := modRef (satSlot k) (pulsedMonitor (windowOf s.reading)) (signalAppears (satSlot k) s))
    (by rw [pulsed]; exact md) (by rw [pulsed]; exact ma)
  rw [pulsed] at taken
  refine taken.trans ?_
  rw [signal]
  rfl

end Pulse

theorem agreementRun_idle {k : Slot} {v : Int} {s : State}
    (h : ¬ (s.servo.state = .locked ∧ isLine k = false ∧ (s.ref k).state = .qualified
      ∧ s.selector.selected ≠ some k)) : agreementRun k v s = s := by
  unfold agreementRun
  rw [if_neg]
  simpa [isPhase] using h

theorem agreementRun_counts {k : Slot} {v : Int} {s : State} {l : Nat}
    (h : s.servo.state = .locked ∧ isLine k = false ∧ (s.ref k).state = .qualified
      ∧ s.selector.selected ≠ some k) (hl : (s.ref k).config.agreement = some l) :
    agreementRun k v s = s.setRef k
      { s.ref k with disagree := if l < v.natAbs then min 255 ((s.ref k).disagree + 1) else 0 } := by
  unfold agreementRun modRef
  rw [if_pos (by simpa [isPhase] using h)]
  simp only [outsideAgreement_of_limit hl, satSucc_eq_min, decide_eq_true_eq]

/-- Settles O51. -/
theorem satellitePulsesAreMeasured : Obligations.SatellitePulsesAreMeasured := by
  refine ⟨fun k s hp => ⟨satPulse_disabled hp,
      fun hd hs hw w e now again => satPulse_further hp hd hs hw e now again,
      fun hd ha hw first => ?_⟩,
    fun k x s => ⟨timeCheck_unchecked, fun ht hc d hd => ⟨fun h0 => ?_, fun h0 hlt => ?_,
      fun h0 h3 hsel htok => ?_, fun h0 h3 hsel hj => ?_⟩⟩,
    fun k v s => ⟨agreementRun_idle, fun h l hl => agreementRun_counts h hl⟩,
    fun s => ⟨agreementJudge_idle, fun hl agree k hk hj => ?_, fun hl apart => ?_⟩⟩
  · obtain ⟨t, e, shows, frame⟩ := satPulse_first hp hd ha hw first
    simp only [shown, Prod.mk.injEq] at shows
    obtain ⟨signal, lastE, lastDs, label⟩ := shows
    exact ⟨t, e, signal, lastE, lastDs, label, frame⟩
  · rw [timeCheck_of_run ht hc hd, h0, nextRun_of_zero, if_pos (by decide)]
    rfl
  · rw [timeCheck_of_run ht hc hd, nextRun_of_ne h0, if_pos hlt]
    rfl
  · have three : (nextRun d (s.ref k).mismatch).count = 3 := by rw [nextRun_of_ne h0]; exact h3
    rw [timeCheck_of_run ht hc hd, if_neg (by rw [three]; decide), if_pos ⟨hsel, htok⟩]
    rfl
  · have judged : judging ((withRun k (nextRun d (s.ref k).mismatch) s).ref k) = true := by
      unfold withRun
      rw [State.setRef_ref]
      exact judging_iff.mpr hj
    have three : (nextRun d (s.ref k).mismatch).count = 3 := by rw [nextRun_of_ne h0]; exact h3
    have refused : ¬ (s.selector.selected = some k ∧ s.servo.token = true) := by
      rintro ⟨sel, tok⟩
      exact hsel.elim (fun e => e sel) fun e => by rw [tok] at e; cases e
    rw [timeCheck_of_run ht hc hd, if_neg (by rw [three]; decide), if_neg refused]
    exact ⟨rfl, failSlot_failed judged⟩
  · obtain ⟨x, y, ne, hx, hy, w⟩ := agree
    rw [agreementJudge_outvoted hl (someAgree_iff.mpr ⟨x, y, ne, hx, hy, w⟩) hk]
    exact outvoted_monitors (judging_iff.mpr hj)
  · rw [agreementJudge_disagree hl fun g => ?_]
    · exact disagree_monitors
    · obtain ⟨x, y, ne, hx, hy, w⟩ := someAgree_iff.mp g
      exact apart x y ⟨ne, hx, hy, w⟩

end Sys2Proof.Machine
end

section
set_option Elab.async false

namespace Sys2Proof.Machine

open Sys2Proof.Safety

/-! ## What monitors, expiries and updates leave

The step token and the recorded second stand through all that makes no step and marks no boundary. -/

/-! ### Monitors -/

@[simp] theorem enterChecking_poise (k : Slot) (s : State) :
    poise (enterChecking k s) = poise s := by
  simp [enterChecking]

@[simp] theorem enterAbsent_poise (k : Slot) (s : State) : poise (enterAbsent k s) = poise s := by
  simp [enterAbsent]

@[simp] theorem failSlot_poise (c : FailCause) (k : Slot) (s : State) :
    poise (failSlot c k s) = poise s := by
  dsimp only [failSlot]
  (repeat' split) <;> simp

@[simp] theorem signalAppears_poise (k : Slot) (s : State) :
    poise (signalAppears k s) = poise s := by
  dsimp only [signalAppears]
  (repeat' split) <;> simp

@[simp] theorem declareLoss_poise (k : Slot) (s : State) : poise (declareLoss k s) = poise s := by
  dsimp only [declareLoss]
  (repeat' split) <;> simp

@[simp] theorem missEpoch_poise (l : Nat) (k : Slot) (s : State) :
    poise (missEpoch l k s) = poise s := by
  dsimp only [missEpoch]
  (repeat' split) <;> simp

@[simp] theorem goodEpoch_poise (k : Slot) (s : State) : poise (goodEpoch k s) = poise s := by
  exact poise_of_blocks (by simp) (by simp)

@[simp] theorem demandRaise_poise (b : Bool) (k : Slot) (s : State) :
    poise (demandRaise b k s) = poise s := by
  dsimp only [demandRaise]
  (repeat' split) <;> simp

@[simp] theorem periodEnds_poise (k : Slot) (s : State) : poise (periodEnds k s) = poise s := by
  dsimp only [periodEnds]
  (repeat' split) <;> simp

@[simp] theorem qualifies_poise (k : Slot) (s : State) : poise (qualifies k s) = poise s := by
  dsimp only [qualifies]
  (repeat' split) <;> simp

@[simp] theorem waitEnds_poise (k : Slot) (s : State) : poise (waitEnds k s) = poise s := by
  dsimp only [waitEnds]
  (repeat' split) <;> simp

@[simp] theorem slotExpiries_poise (s : State) (k : Slot) : poise (slotExpiries s k) = poise s := by
  simp [slotExpiries]

@[simp] theorem agreementJudge_poise (s : State) : poise (agreementJudge s) = poise s := by
  unfold agreementJudge
  dsimp only
  (repeat' split) <;> simp [foldl_keeps poise]

@[simp] theorem closeWindow_poise (k : SatSlot) (s : State) :
    poise (closeWindow k s) = poise s := by
  dsimp only [closeWindow]
  (repeat' split) <;> simp

@[simp] theorem closeWindows_poise (s : State) : poise (closeWindows s) = poise s := by
  simp [closeWindows]

@[simp] theorem lineEdgeArrives_poise (k : LineSlot) (n : Nat) (s : State) :
    poise (lineEdgeArrives k n s) = poise s := by
  dsimp only [lineEdgeArrives, lineEdgeTaken]
  (repeat' split) <;> simp

@[simp] theorem lineLossTaken_poise (k : LineSlot) (s : State) :
    poise (lineLossTaken k s) = poise s := by
  dsimp only [lineLossTaken]
  (repeat' split) <;> simp

/-! ### Measurements before the hand-off -/

@[simp] theorem wanderJudge_poise (k : Slot) (v : Int) (s : State) :
    poise (wanderJudge k v s) = poise s := by
  dsimp only [wanderJudge]
  (repeat' split) <;> simp

@[simp] theorem recordMeasurement_poise (k : Slot) (x : Measurement) (s : State) :
    poise (recordMeasurement k x s) = poise s := by
  dsimp only [recordMeasurement]
  (repeat' split) <;> simp

@[simp] theorem timeCheck_poise (k : Slot) (x : Measurement) (s : State) :
    poise ((timeCheck k x s).1) = poise s := by
  dsimp only [timeCheck]
  (repeat' split) <;> simp

@[simp] theorem agreementRun_poise (k : Slot) (v : Int) (s : State) :
    poise (agreementRun k v s) = poise s := by
  exact poise_of_blocks (by simp) (by simp)

/-! ### Updates without a step -/

@[simp] theorem writeMove_poise (m : Move) (s : State) : poise (writeMove m s) = poise s := by
  simp [writeMove]

@[simp] theorem clampedRuns_token (v : Servo) : (clampedRuns v).token = v.token := by
  unfold clampedRuns
  rfl

@[simp] theorem unclampedRuns_token (v : Servo) : (unclampedRuns v).token = v.token := by
  unfold unclampedRuns
  dsimp only
  (repeat' split) <;> rfl

@[simp] theorem countPull_poise (b : Bool) (s : State) : poise (countPull b s) = poise s := by
  unfold countPull
  rw [State.refresh_poise]
  refine poise_setServo s _ ?_
  split <;> simp

@[simp] theorem judgeAcquiring_poise (e : Int) (s : State) :
    poise (judgeAcquiring e s) = poise s := by
  dsimp only [judgeAcquiring]
  (repeat' split) <;> simp

@[simp] theorem judgeLocked_poise (e : Int) (s : State) : poise (judgeLocked e s) = poise s := by
  dsimp only [judgeLocked]
  (repeat' split) <;> simp

@[simp] theorem firstUpdate_poise (e : Int) (s : State) : poise (firstUpdate e s) = poise s := by
  dsimp only [firstUpdate]
  (repeat' split) <;> simp
  rfl

@[simp] theorem slewUpdate_poise (e : Int) (l : Nat) (s : State) :
    poise ((slewUpdate e l s).result) = poise s := by
  unfold slewUpdate
  dsimp only
  split <;> simp

@[simp] theorem freqUpdate_poise (e : Int) (s : State) :
    poise ((freqUpdate e s).result) = poise s := by
  simp [freqUpdate]

@[simp] theorem recordHandoff_poise (k : Slot) (m : Measurement) (s : State) :
    poise (recordHandoff k m s) = poise s := by
  unfold recordHandoff
  refine poise_setServo s _ ?_
  dsimp only
  split <;> rfl

theorem reportUpdate_poise (k : Slot) (v : Int) (l : Nat) (b : State) (u : Update) :
    poise (reportUpdate k v l b u) = poise u.result := by
  simp [reportUpdate]

/-! ### The work of a boundary -/

@[simp] theorem servoBoundary_poise (n : Nat) (s : State) :
    poise (servoBoundary n s) = poise s := by
  dsimp only [servoBoundary]
  (repeat' split) <;> simp

@[simp] theorem rearmExpires_poise (p : Fin 12) (s : State) :
    poise (rearmExpires p s) = poise s := by
  exact poise_of_blocks (by simp) (by simp)

@[simp] theorem alarmExpiries_poise (s : State) : poise (alarmExpiries s) = poise s := by
  exact poise_of_blocks (by simp) (by simp)

@[simp] theorem portsBoundary_poise (s : State) : poise (portsBoundary s) = poise s := by
  exact poise_of_blocks (by simp) (by simp)

@[simp] theorem boundaryInstant_poise (p : Fin 12) (n : Nat) (s : State) :
    poise (boundaryInstant p n s) = poise s := by
  exact poise_of_blocks (by simp) (by simp)

@[simp] theorem edgeArrives_poise (p : Fin 12) (k : Nat) (b : Bool) (s : State) :
    poise (edgeArrives p k b s) = poise s := by
  exact poise_of_blocks (by simp) (by simp)

@[simp] theorem captureMarker_poise (p : ChainPort) (s : State) :
    poise (captureMarker p s) = poise s := by
  exact poise_of_blocks (by simp) (by simp)

@[simp] theorem modChain_poise (f : ChainUnit → ChainUnit) (s : State) :
    poise (modChain f s) = poise s := by
  exact poise_of_blocks (by simp) (by simp)

@[simp] theorem chainConditions_poise (s : State) : poise (chainConditions s) = poise s := by
  exact poise_of_blocks (by simp) (by simp)

@[simp] theorem sendOrWait_poise (n : Nat) (s : State) : poise (sendOrWait n s) = poise s := by
  exact poise_of_blocks (by simp) (by simp)

@[simp] theorem judgeUpstream_poise (s : State) : poise (judgeUpstream s) = poise s := by
  exact poise_of_blocks (by simp) (by simp)

@[simp] theorem chainEpoch_poise (b : Bool) (s : State) : poise (chainEpoch b s) = poise s := by
  dsimp only [chainEpoch]
  (repeat' split) <;> simp

@[simp] theorem chainBoundary_poise (n : Nat) (s : State) :
    poise (chainBoundary n s) = poise s := by
  dsimp only [chainBoundary]
  (repeat' split) <;> simp

@[simp] theorem applyPending_poise (o : Nat) (p : PendingSet) (s : State) :
    poise (applyPending o p s) = poise s := by
  dsimp only [applyPending]
  (repeat' split) <;> simp

@[simp] theorem estimateSecond_poise (s : State) : poise (estimateSecond s) = poise s := by
  dsimp only [estimateSecond, holdoverSecond, freqLockedSecond]
  (repeat' split) <;> simp
  rfl

end Sys2Proof.Machine
end

section
set_option Elab.async false

namespace Sys2Proof.Machine

open Sys2Proof.Safety

/-! ## A measurement without the step token (R12, R81, R82, R91) -/

/-- No step has come between: the time base stands but for F, and the actions still wait. -/
structure Stands (s t : State) : Prop where
  token : t.servo.token = false
  time : ∃ c, t.time = { s.time with correction := c }
  scheduler : t.scheduler = s.scheduler

/-- The recorded second stands, and with time set and the step token not held no step comes between. -/
structure Spares (s t : State) : Prop where
  recorded : t.holdover.recorded = s.holdover.recorded
  gradeOfSecond : t.holdover.gradeOfSecond = s.holdover.gradeOfSecond
  stands : s.servo.token = false → s.time.timeSet = true → Stands s t

theorem Stands.timeSet {s t : State} (h : Stands s t) : t.time.timeSet = s.time.timeSet := by
  obtain ⟨c, e⟩ := h.time
  rw [e]

theorem Stands.trans {s t u : State} (h : Stands s t) (g : Stands t u) : Stands s u := by
  obtain ⟨c, e⟩ := h.time
  obtain ⟨d, f⟩ := g.time
  exact ⟨g.token, ⟨d, by rw [f, e]⟩, g.scheduler.trans h.scheduler⟩

theorem Spares.trans {s t u : State} (h : Spares s t) (g : Spares t u) : Spares s u where
  recorded := g.recorded.trans h.recorded
  gradeOfSecond := g.gradeOfSecond.trans h.gradeOfSecond
  stands a b :=
    have w := h.stands a b
    w.trans (g.stands w.token (w.timeSet.trans b))

/-- An operation that makes no step: it writes at most F in the time base. -/
theorem Spares.of_poise {s t : State} (p : poise t = poise s)
    (time : t.time = { s.time with correction := t.time.correction }) (scheduler : t.scheduler = s.scheduler) :
    Spares s t where
  recorded := poise_recorded p
  gradeOfSecond := poise_gradeOfSecond p
  stands a _ := ⟨(poise_token p).trans a, ⟨_, time⟩, scheduler⟩

/-- An operation that leaves the time base and the scheduler. -/
theorem Spares.of_blocks {s t : State} (p : poise t = poise s) (time : t.time = s.time)
    (scheduler : t.scheduler = s.scheduler) : Spares s t :=
  .of_poise p (by rw [time]) scheduler

/-- A step comes only where the token is held or time is unset. -/
theorem Spares.of_step {s t : State} (recorded : t.holdover.recorded = s.holdover.recorded)
    (grade : t.holdover.gradeOfSecond = s.holdover.gradeOfSecond)
    (h : s.servo.token = true ∨ s.time.timeSet = false) : Spares s t where
  recorded := recorded
  gradeOfSecond := grade
  stands a b := by
    rcases h with h | h
    · rw [a] at h; cases h
    · rw [b] at h; cases h

theorem Spares.refl (s : State) : Spares s s := .of_blocks rfl rfl rfl

theorem performStep_recorded (k : StepKind) (a : Int) (s : State) :
    (performStep k a s).holdover.recorded = s.holdover.recorded ∧
      (performStep k a s).holdover.gradeOfSecond = s.holdover.gradeOfSecond := by
  by_cases h : appliedAmount a s = 0
  · rw [performStep_of_zero h]
    exact ⟨rfl, rfl⟩
  · rw [performStep_of_applied h]
    have p := (presentStep_poise (stepEvent k a s) (stepped k a s)).1
    have e : (stepped k a s).holdover = s.holdover := by simp [stepped]
    rw [poise_recorded p, poise_gradeOfSecond p, e]
    exact ⟨rfl, rfl⟩

theorem performStep_spares (k : StepKind) (a : Int) {s : State} (h : s.servo.token = true) :
    Spares s (performStep k a s) :=
  .of_step (performStep_recorded k a s).1 (performStep_recorded k a s).2 (.inl h)

theorem timeSetting_spares (k : Slot) (d : Int) {s : State} (h : s.time.timeSet = false) :
    Spares s (timeSetting k d s) :=
  have p := (timeSetting_poise k d s).1
  .of_step (poise_recorded p) (poise_gradeOfSecond p) (.inr h)

theorem slewUpdate_time (e : Int) (l : Nat) (s : State) : (slewUpdate e l s).result.time =
    { s.time with correction := (slewUpdate e l s).result.time.correction } := by
  unfold slewUpdate
  dsimp only
  split <;> simp [writeMove]

theorem phaseUpdate_spares (e : Int) (l : Nat) (s : State) : Spares s (phaseUpdate e l s).result := by
  have first : Spares s (firstUpdate e s) := .of_blocks (by simp) (by simp) (by simp)
  unfold phaseUpdate
  dsimp only
  split
  · rename_i h
    have cleared (t : State) : Spares t (t.setServo (clearLockRuns t.servo)) :=
      .of_blocks (by simp) rfl rfl
    exact first.trans ((cleared _).trans (performStep_spares _ _ (by simpa using h.2)))
  · exact first.trans (.of_poise (by simp) (slewUpdate_time _ _ _) (by simp))

theorem servoUpdate_spares {v : Int} {l : Nat} {s : State} {u : Update}
    (h : servoUpdate v l s = some u) : Spares s u.result := by
  unfold servoUpdate at h
  split at h <;> cases h
  · exact phaseUpdate_spares v l s
  · exact phaseUpdate_spares v l s
  · exact .of_poise (by simp) (by simp [freqUpdate, writeMove]) (by simp)

/-- A request for a seconds step comes only while the token is held (R37). -/
theorem handoffUpdate_spares (k : Slot) (m : Measurement) (l : Nat) {b : Bool} {s : State}
    (h : b = true → s.servo.token = true) : Spares s (handoffUpdate k m l b s) := by
  have record : Spares s (recordHandoff k m s) := .of_blocks (by simp) (by simp) (by simp)
  have token : (recordHandoff k m s).servo.token = s.servo.token := poise_token (by simp)
  unfold handoffUpdate
  dsimp only
  split
  · rename_i u hu
    have update : Spares (recordHandoff k m s) u.result := by
      split at hu
      · cases hu
        exact performStep_spares _ _ (token.trans (h rfl))
      · exact servoUpdate_spares hu
    refine record.trans (update.trans (.of_blocks (reportUpdate_poise k _ l _ u) ?_ ?_)) <;>
      simp [reportUpdate]
  · exact record

theorem handoff_spares (k : Slot) (m : Measurement) {b : Bool} {s : State}
    (h : b = true → s.servo.token = true) : Spares s (handoff k m b s) := by
  by_cases hf : s.servo.followed = some k
  · by_cases hs : s.time.timeSet = true
    · rw [handoff_set m b hs, if_pos hf]
      exact handoffUpdate_spares _ _ _ h
    · have hs : s.time.timeSet = false := by simpa using hs
      cases hd : m.ds with
      | some d =>
        have set := timeSetting_spares k d hs
        have token : (timeSetting k d s).servo.token = s.servo.token :=
          poise_token (timeSetting_poise k d s).1
        rw [handoff_unset b hf hs hd]
        split
        · exact set.trans (handoffUpdate_spares _ _ _ fun e => token.trans (h e))
        · exact set
      | none =>
        unfold handoff
        dsimp only
        rw [if_pos hf, hs, hd]
        dsimp only
        rw [if_pos hf]
        exact handoffUpdate_spares _ _ _ h
  · rw [handoff_not_followed b hf]
    exact .refl s

/-- The time check asks for a seconds step only while the token is held (R37). -/
theorem timeCheck_request {k : Slot} {x : Measurement} {s : State} (h : (timeCheck k x s).2 = true) :
    s.servo.token = true := by
  unfold timeCheck at h
  dsimp only at h
  (repeat' split at h)
  · cases h
  · cases h
  · rename_i w
    simpa using w.2
  · cases h
  · cases h

theorem checkMeasurement_spares (k : Slot) (x : Measurement) (s : State) :
    Spares s (checkMeasurement k x s) := by
  have check : Spares s (timeCheck k x s).1 := .of_blocks (by simp) (by simp) (by simp)
  have agree (t : State) : Spares t (agreementRun k x.value t) := .of_blocks (by simp) (by simp) (by simp)
  unfold checkMeasurement
  dsimp only
  (repeat' split)
  · refine check.trans ((agree _).trans (handoff_spares k x fun h => ?_))
    rw [poise_token (agreementRun_poise _ _ _), poise_token (timeCheck_poise _ _ _)]
    exact timeCheck_request h
  · exact check.trans (agree _)
  · exact check

theorem takeMeasurement_spares (k : Slot) (x : Measurement) (s : State) :
    Spares s (takeMeasurement k x s) := by
  have record (t : State) : Spares t (recordMeasurement k x t) := .of_blocks (by simp) (by simp) (by simp)
  have wander : Spares s (wanderJudge k x.value s) := .of_blocks (by simp) (by simp) (by simp)
  unfold takeMeasurement
  dsimp only
  (repeat' split) <;> first
    | exact .refl s
    | exact record s
    | exact wander.trans (record _)
    | exact wander.trans ((record _).trans (checkMeasurement_spares _ _ _))

/-! ## The work of a boundary without a step -/

theorem filterBoundary_spares (n : Nat) (s : State) : Spares s (filterBoundary n s) := by
  unfold filterBoundary
  dsimp only
  (repeat' split)
  · refine .trans ?_ (takeMeasurement_spares _ _ _)
    exact .of_blocks (by simp) (by simp) (by simp)
  · exact .of_blocks (by simp) (by simp) (by simp)
  · exact .refl s

theorem lineEpoch_spares (k : LineSlot) (s : State) : Spares s (lineEpoch k s) := by
  unfold lineEpoch
  dsimp only
  (repeat' split)
  · exact .refl s
  · exact .of_blocks (by simp) (by simp) (by simp)
  · exact takeMeasurement_spares _ _ s
  · exact .refl s

theorem satPulseArrives_spares (k : SatSlot) (s : State) : Spares s (satPulseArrives k s) := by
  have taken : Spares s (signalAppears (satSlot k) (closeWindow k s)) :=
    .of_blocks (by simp) (by simp) (by simp)
  have pulsed (n : Nat) (t : State) : Spares t (modRef (satSlot k) (pulsedMonitor n) t) :=
    .of_blocks (by simp) (by simp) (by simp)
  unfold satPulseArrives satPulseTaken
  dsimp only
  (repeat' split)
  · exact .refl s
  · exact taken.trans ((pulsed _ _).trans (takeMeasurement_spares _ _ _))
  · exact taken.trans (pulsed _ _)

/-! ### Frames: what is recorded stands, though a command may grant the token (R90) -/

/-- The recorded second and its grade. -/
def recording (h : Holdover) : Option SecondRecord × Grade := (h.recorded, h.gradeOfSecond)

theorem recording_of_poise {s t : State} (h : poise t = poise s) :
    recording t.holdover = recording s.holdover := by
  unfold recording
  rw [poise_recorded h, poise_gradeOfSecond h]

theorem Spares.recording {s t : State} (h : Spares s t) :
    Machine.recording t.holdover = Machine.recording s.holdover := by
  unfold Machine.recording
  rw [h.recorded, h.gradeOfSecond]

theorem actOnCommand_recording (c : ChainCommand) (s : State) :
    recording (actOnCommand c s).1.holdover = recording s.holdover := by
  unfold actOnCommand
  (repeat' split)
  · exact recording_of_poise (by simp)
  · exact recording_of_poise (by simp)
  · simp
  · rfl
  · simp

theorem takeFrameCommand_recording (f : TimeFrame) (s : State) :
    recording (takeFrameCommand f s).holdover = recording s.holdover := by
  unfold takeFrameCommand takeCommand
  dsimp only
  (repeat' split) <;> simp [actOnCommand_recording]

theorem chainMonitorTakes_recording (p : ChainPort) (f : TimeFrame) (c : Option Int) (s : State) :
    recording (chainMonitorTakes p f c s).holdover = recording s.holdover := by
  have appears : recording (signalAppears .chain s).holdover = recording s.holdover :=
    recording_of_poise (by simp)
  unfold chainMonitorTakes
  dsimp only
  split
  · exact (takeMeasurement_spares _ _ _).recording.trans appears
  · exact appears

theorem upstreamTakes_recording (p : ChainPort) (f : TimeFrame) (c : Option Int) (b : Bool) (s : State) :
    recording (upstreamTakes p f c b s).holdover = recording s.holdover := by
  unfold upstreamTakes
  dsimp only
  split <;> simp [takeFrameCommand_recording, chainMonitorTakes_recording]

theorem receiveFrame_recording (p : ChainPort) (l : List Byte) (b : Bool) (s : State) :
    recording (receiveFrame p l b s).holdover = recording s.holdover := by
  have member (f : TimeFrame) (c : Option Int) (t : State) :
      recording (memberTakes p f c b t).holdover = recording t.holdover := by
    unfold memberTakes
    dsimp only
    (repeat' split) <;> simp [upstreamTakes_recording]
  unfold receiveFrame
  dsimp only
  (repeat' split) <;> simp [member]

/-! ### The blocks -/

/-- A block that may neither take an action, record the second nor take a frame. -/
def plainBlock (b : Block) : Bool :=
  match b with
  | .scheduler => false
  | .holdover => false
  | .frame _ _ _ => false
  | .filter => true
  | .line _ => true
  | .agreement => true
  | .servo => true
  | .ports => true
  | .chain => true
  | .slotTimers _ => true
  | .dwell => true
  | .rearm _ => true
  | .alarms => true
  | .pulse _ => true
  | .edges _ _ => true
  | .silence _ => true
  | .marker _ => true
  | .instant _ => true
  | .clock _ _ _ => true

theorem blockActs_spares (n : Nat) (s : State) {b : Block} (h : plainBlock b = true) :
    Spares s (blockActs n s b) := by
  cases b with
  | scheduler => cases h
  | holdover => cases h
  | frame p l c => cases h
  | filter => exact filterBoundary_spares n s
  | line k => exact lineEpoch_spares k s
  | pulse k => exact satPulseArrives_spares k s
  | agreement => exact .of_blocks (agreementJudge_poise s) (by simp [blockActs]) (by simp [blockActs])
  | servo => exact .of_blocks (servoBoundary_poise n s) (by simp [blockActs]) (by simp [blockActs])
  | ports => exact .of_blocks (portsBoundary_poise s) (by simp [blockActs]) (by simp [blockActs])
  | chain => exact .of_blocks (chainBoundary_poise n s) (by simp [blockActs]) (by simp [blockActs])
  | slotTimers k => exact .of_blocks (slotExpiries_poise s k) (by simp [blockActs]) (by simp [blockActs])
  | dwell => exact .of_blocks (dwellExpires_poise s).1 (by simp [blockActs]) (by simp [blockActs])
  | rearm p => exact .of_blocks (rearmExpires_poise p s) (by simp [blockActs]) (by simp [blockActs])
  | alarms => exact .of_blocks (alarmExpiries_poise s) (by simp [blockActs]) (by simp [blockActs])
  | edges k m => exact .of_blocks (lineEdgeArrives_poise k m s) (by simp [blockActs]) (by simp [blockActs])
  | silence k => exact .of_blocks (lineLossTaken_poise k s) (by simp [blockActs]) (by simp [blockActs])
  | marker p => exact .of_blocks (captureMarker_poise p s) (by simp [blockActs]) (by simp [blockActs])
  | instant p => exact .of_blocks (boundaryInstant_poise p n s) (by simp [blockActs]) (by simp [blockActs])
  | clock p k r => exact .of_blocks (edgeArrives_poise p k r s) (by simp [blockActs]) (by simp [blockActs])

end Sys2Proof.Machine
end

section
set_option Elab.async false

namespace Sys2Proof.Machine

open Sys2Proof.Safety

/-! ## The order of the blocks (R3) -/

theorem joinOrder_nodup {l : List Block} (h : l.Nodup) (b : Block) : (joinOrder l b).Nodup := by
  unfold joinOrder
  split
  · exact h
  · rename_i hb
    have hb : b ∉ l := by simpa using hb
    exact List.nodup_append.mpr ⟨h, List.nodup_singleton b, fun x hx y hy e => by
      rw [List.mem_singleton.mp hy] at e
      exact hb (e ▸ hx)⟩

theorem blockOrder_nodup (order : List Block) : (blockOrder order).Nodup := by
  have fold (r l : List Block) (h : l.Nodup) : (r.foldl joinOrder l).Nodup := by
    induction r generalizing l with
    | nil => exact h
    | cons b r ih => exact ih _ (joinOrder_nodup h b)
  exact fold _ _ List.nodup_nil

theorem blocksAct_expiriesFirst (n : Nat) (order : List Block) (s : State) :
    blocksAct n order (expiriesFirst n order s) = (blockOrder order).foldl (blockActs n) s := by
  unfold blocksAct expiriesFirst
  rw [← List.foldl_append, List.takeWhile_append_dropWhile]

/-- What is no expiry acts behind the expiries that are named before every block. -/
theorem acts_behind {order : List Block} {b : Block} (h : b ∈ blockOrder order)
    (he : isExpiry b = false) : b ∈ (blockOrder order).dropWhile isExpiry := by
  rw [← List.takeWhile_append_dropWhile (p := isExpiry) (l := blockOrder order)] at h
  rcases List.mem_append.mp h with h | h
  · rw [List.all_eq_true.mp List.all_takeWhile b h] at he
    cases he
  · exact h

/-! ## The recorded second (R110) -/

/-- Second `n` is recorded, and the grade of the second is its grade. -/
def Recorded (n : Nat) (s : State) : Prop :=
  ∃ r, s.holdover.recorded = some r ∧ r.second = n ∧ s.holdover.gradeOfSecond = r.grade

theorem Recorded.of_recording {n : Nat} {s t : State} (h : Recorded n s)
    (e : recording t.holdover = recording s.holdover) : Recorded n t := by
  obtain ⟨r, recorded, second, grade⟩ := h
  simp only [recording, Prod.mk.injEq] at e
  exact ⟨r, e.1.trans recorded, second, e.2.trans grade⟩

theorem holdoverBoundary_recorded (n : Nat) (s : State) : Recorded n (holdoverBoundary n s) := by
  unfold holdoverBoundary recordGrade
  dsimp only
  exact ⟨_, by simp; rfl, rfl, by simp⟩

theorem blockActs_recorded {n : Nat} {s : State} (b : Block) (h : Recorded n s) :
    Recorded n (blockActs n s b) := by
  by_cases plain : plainBlock b = true
  · exact h.of_recording (blockActs_spares n s plain).recording
  · cases b with
    | scheduler => exact h.of_recording (recording_of_poise (boundaryActions_poise s).1)
    | holdover => exact holdoverBoundary_recorded n s
    | frame p l c => exact h.of_recording (receiveFrame_recording p l c s)
    | _ => exact absurd rfl plain

/-- The holdover unit acts at every boundary, and what follows leaves its recording (R110). -/
theorem blocks_recorded (n : Nat) {l : List Block} (h : Block.holdover ∈ l) (s : State) :
    Recorded n (l.foldl (blockActs n) s) := by
  have keep (r : List Block) (t : State) (g : Recorded n t) : Recorded n (r.foldl (blockActs n) t) := by
    induction r generalizing t with
    | nil => exact g
    | cons b r ih => exact ih _ (blockActs_recorded b g)
  induction l generalizing s with
  | nil => cases h
  | cons b l ih =>
    rw [List.foldl_cons]
    rcases List.mem_cons.mp h with e | h
    · refine keep l _ ?_
      rw [← e]
      exact holdoverBoundary_recorded n s
    · exact ih h _

/-! ## The actions that a boundary takes (R163) -/

theorem isDue_iff {c : Scheduler} {a : Action} : isDue c a = true ↔ a.id ∈ c.dueIds :=
  List.contains_iff_mem

/-- What the boundary has made due leaves the table (R163). -/
theorem boundaryActions_left (s : State) : (boundaryActions s).scheduler.table
    = s.scheduler.table.filter fun a => decide (a.id ∉ s.scheduler.dueIds) := by
  unfold boundaryActions
  rw [(takeAll_spec false _ s).1]
  refine List.filter_congr fun x hx => ?_
  rw [Bool.eq_iff_iff, List.all_eq_true, decide_eq_true_iff]
  constructor
  · intro h due
    exact absurd rfl (of_decide_eq_true (h x (List.mem_filter.mpr ⟨hx, isDue_iff.mpr due⟩)))
  · intro h a ha
    refine decide_eq_true fun e => h ?_
    rw [e]
    exact isDue_iff.mp (List.mem_filter.mp ha).2

/-- The actions due at a boundary have been taken since the state `u` that marked it. -/
structure Taken (u t : State) : Prop where
  token : t.servo.token = false
  time : ∃ c x, t.time = { u.time with
    correction := c, offset := offsetOf (u.scheduler.table.filter (isDue u.scheduler)) u.time.offset
    leap := x }
  table : t.scheduler.table = u.scheduler.table.filter fun a => decide (a.id ∉ u.scheduler.dueIds)
  leap : LeapFollows u → LeapFollows t
  left : ∀ a ∈ t.scheduler.table, isDue t.scheduler a = false

theorem Stands.leap {u t : State} (h : Stands u t) (g : LeapFollows u) : LeapFollows t := by
  obtain ⟨c, e⟩ := h.time
  exact leapFollows_of_same g (by rw [e]) (by rw [h.scheduler])

theorem Stands.taken {u t : State} (h : Stands u t) : Taken u (boundaryActions t) := by
  obtain ⟨c, e⟩ := h.time
  obtain ⟨x, w⟩ := takeAll_writes false (t.scheduler.table.filter (isDue t.scheduler)) t
  have time : (boundaryActions t).time = _ := w
  rw [h.scheduler, e] at time
  refine ⟨(poise_token (boundaryActions_poise t).1).trans h.token, ⟨c, x, time⟩,
    by rw [boundaryActions_left, h.scheduler], fun g => takeAll_leap false _ (h.leap g), fun a ha => ?_⟩
  obtain ⟨-, due, same⟩ := takeDue_left false (isDue t.scheduler) t a ha
  exact same.trans due

theorem Taken.stands {u t v : State} (h : Taken u t) (g : Stands t v) : Taken u v := by
  obtain ⟨c, x, e⟩ := h.time
  obtain ⟨d, f⟩ := g.time
  exact ⟨g.token, ⟨d, x, by rw [f, e]⟩, by rw [g.scheduler, h.table], fun w => g.leap (h.leap w),
    by rw [g.scheduler]; exact h.left⟩

/-- Nothing is left to take. -/
theorem Taken.boundaryActions {u t : State} (h : Taken u t) : boundaryActions t = t := by
  have none : t.scheduler.table.filter (isDue t.scheduler) = [] :=
    List.filter_eq_nil_iff.mpr fun a ha => by rw [h.left a ha]; decide
  unfold Machine.boundaryActions
  rw [none]
  rfl

theorem estimateSecond_time (s : State) : ∃ c, (estimateSecond s).time = { s.time with correction := c } := by
  unfold estimateSecond
  (repeat' split)
  · exact ⟨_, by simp [holdoverSecond]; rfl⟩
  · exact ⟨s.time.correction, by simp [freqLockedSecond]⟩
  · exact ⟨_, rfl⟩
  · exact ⟨_, rfl⟩
  · exact ⟨_, rfl⟩

theorem holdoverBoundary_stands (n : Nat) {s : State} (token : s.servo.token = false) :
    Stands s (holdoverBoundary n s) := by
  refine ⟨by simp [token], ?_, by simp⟩
  unfold holdoverBoundary
  dsimp only
  split
  · obtain ⟨c, e⟩ := estimateSecond_time (s.setHoldover (closeMinute n s.holdover))
    exact ⟨c, by simp [e]⟩
  · obtain ⟨c, e⟩ := estimateSecond_time s
    exact ⟨c, by simp [e]⟩

/-- A block that names no frame. -/
def frameless (b : Block) : Prop := ∀ p l c, b ≠ .frame p l c

theorem blockActs_stands (n : Nat) {s : State} {b : Block} (frame : frameless b) (act : b ≠ .scheduler)
    (token : s.servo.token = false) (set : s.time.timeSet = true) : Stands s (blockActs n s b) := by
  by_cases plain : plainBlock b = true
  · exact (blockActs_spares n s plain).stands token set
  · cases b with
    | scheduler => exact absurd rfl act
    | holdover => exact holdoverBoundary_stands n token
    | frame p l c => exact absurd rfl (frame p l c)
    | _ => exact absurd rfl plain

theorem Taken.timeSet {u t : State} (h : Taken u t) : t.time.timeSet = u.time.timeSet := by
  obtain ⟨c, x, e⟩ := h.time
  rw [e]

theorem Taken.blocks {n : Nat} {u t : State} (l : List Block) (frame : ∀ b ∈ l, frameless b)
    (set : u.time.timeSet = true) (h : Taken u t) : Taken u (l.foldl (blockActs n) t) := by
  induction l generalizing t with
  | nil => exact h
  | cons b l ih =>
    refine ih (fun c hc => frame c (List.mem_cons_of_mem b hc)) ?_
    by_cases act : b = .scheduler
    · subst act
      show Taken u (Machine.boundaryActions t)
      rw [h.boundaryActions]
      exact h
    · exact h.stands (blockActs_stands n (frame b List.mem_cons_self) act h.token (h.timeSet.trans set))

/-- Once every block of a boundary has acted, the scheduler among them, what was due there is taken, and no
step has come between (R91, R163). -/
theorem Stands.blocks {n : Nat} {u t : State} {l : List Block} (act : Block.scheduler ∈ l)
    (frame : ∀ b ∈ l, frameless b) (set : u.time.timeSet = true) (h : Stands u t) :
    Taken u (l.foldl (blockActs n) t) := by
  induction l generalizing t with
  | nil => cases act
  | cons b l ih =>
    have rest : ∀ c ∈ l, frameless c := fun c hc => frame c (List.mem_cons_of_mem b hc)
    by_cases now : b = .scheduler
    · subst now
      exact (h.taken : Taken u (blockActs n t .scheduler)).blocks l rest set
    · have act : Block.scheduler ∈ l := (List.mem_cons.mp act).resolve_left (Ne.symm now)
      exact ih act rest (h.trans (blockActs_stands n (frame b List.mem_cons_self) now h.token
        (h.timeSet.trans set)))

end Sys2Proof.Machine
end

section
set_option Elab.async false

namespace Sys2Proof.Machine

open Sys2Proof.Safety

/-! ## Up to the boundary (R2, R26) -/

/-- The count stands at the end of its second. -/
def ranOut (s : State) : State := runOut (passHalf Config.second s)

theorem nextBoundary_of_settled {order : List Block} {s : State} (hp : s.part ≠ .loading)
    (he : s.time.endOfRange = false) (hb : s.time.base < Config.maxSeconds) (hs : settle s = s) :
    nextBoundary order s = markBoundary order (ranOut s) := by
  unfold nextBoundary
  rw [hs, if_pos (by simp [canMark, counting_iff.mpr ⟨hp, he⟩, hb])]
  rfl

/-- A run within a second that is not the last writes the fraction and the counts alone. -/
theorem countPicos_writes (k : Nat) {s : State} (he : s.time.endOfRange = false)
    (hb : s.time.base < Config.maxSeconds) : ∃ a b c, (countPicos k s).time =
      { s.time with frac := a, counted := b, landed := c } := by
  rw [countPicos_eq he]
  refine ⟨s.time.frac + k, s.time.counted + k, false, ?_⟩
  have e : decide (s.time.base = Config.maxSeconds ∧ s.time.frac + k = 999999999999)
      = s.time.endOfRange := by
    rw [he]
    exact decide_eq_false fun g => by omega
  simp only [e]

theorem passHalf_writes (t : Nat) {s : State} (he : s.time.endOfRange = false)
    (hb : s.time.base < Config.maxSeconds) : ∃ a b c, (passHalf t s).time =
      { s.time with frac := a, counted := b, landed := c } := by
  unfold passHalf
  split
  · rw [(closeWindows_frame _).2.1]
    unfold runTo
    split
    · exact countPicos_writes _ he hb
    · exact ⟨_, _, _, rfl⟩
  · exact ⟨_, _, _, rfl⟩

theorem ranOut_time {s : State} (he : s.time.endOfRange = false) (hb : s.time.base < Config.maxSeconds) :
    ∃ a b c, (ranOut s).time = { s.time with frac := a, counted := b, landed := c } := by
  obtain ⟨a, b, c, e⟩ := passHalf_writes Config.second he hb
  obtain ⟨a', b', c', e'⟩ := countPicos_writes (s := passHalf Config.second s)
    (Config.second - (passHalf Config.second s).time.frac) (by rw [e]; exact he) (by rw [e]; exact hb)
  exact ⟨a', b', c', e'.trans (by rw [e])⟩

theorem ranOut_token (s : State) : (ranOut s).servo.token = s.servo.token := by
  have p : poise (passHalf Config.second s) = poise s := by
    unfold passHalf
    split
    · rw [closeWindows_poise]
      exact poise_of_blocks (by simp) (by simp)
    · rfl
  exact (poise_token (poise_of_blocks (by simp [ranOut]) (by simp [ranOut]))).trans (poise_token p)

/-! ## The marking of a boundary (R3, R13, R163) -/

/-- The boundary of second `n` is marked, and the expiries that are named first have come. -/
def markedAt (order : List Block) (s : State) : State :=
  expiriesFirst (nextSecond s.time) order (markDue (nextSecond s.time)
    (countTimers s.time.counted (s.setTime (markTime s.time))))

/-- The pending set has given the boundary its second. -/
def openedAt (order : List Block) (s : State) : State :=
  match s.time.pendingSet with
  | some p => applyPending s.time.base p (markedAt order s)
  | none => markedAt order s

theorem markBoundary_opened (order : List Block) (s : State) :
    markBoundary order s = blocksAct (nextSecond s.time) order (openedAt order s) := rfl

theorem markedAt_time (order : List Block) (s : State) : (markedAt order s).time = markTime s.time := by
  simp [markedAt]

theorem markedAt_scheduler (order : List Block) (s : State) :
    (markedAt order s).scheduler = (markDue (nextSecond s.time) s).scheduler := by
  simp only [markedAt, expiriesFirst_frame]
  simp [markDue]

theorem expiries_token (n : Nat) (l : List Block) (h : ∀ b ∈ l, isExpiry b = true) (s : State) :
    (l.foldl (blockActs n) s).servo.token = s.servo.token := by
  have one (t : State) (b : Block) (e : isExpiry b = true) : poise (blockActs n t b) = poise t := by
    cases b with
    | slotTimers k => exact slotExpiries_poise t k
    | dwell => exact (dwellExpires_poise t).1
    | rearm p => exact rearmExpires_poise p t
    | alarms => exact alarmExpiries_poise t
    | _ => cases e
  induction l generalizing s with
  | nil => rfl
  | cons b l ih =>
    exact (ih (fun c hc => h c (List.mem_cons_of_mem b hc)) _).trans
      (poise_token (one s b (h b List.mem_cons_self)))

theorem markedAt_token (order : List Block) (s : State) :
    (markedAt order s).servo.token = s.servo.token := by
  refine (expiries_token _ _ (fun b hb => List.all_eq_true.mp List.all_takeWhile b hb) _).trans ?_
  simp

theorem markDue_due {n : Nat} {s : State} (ids : (s.scheduler.table.map Action.id).Nodup) :
    ∀ a ∈ s.scheduler.table, isDue (markDue n s).scheduler a = decide (a.due = n) := by
  intro a ha
  rw [Bool.eq_iff_iff, isDue_iff, decide_eq_true_iff]
  show a.id ∈ (s.scheduler.table.filter fun a => decide (a.due = n)).map Action.id ↔ _
  constructor
  · intro h
    obtain ⟨b, hb, e⟩ := List.mem_map.mp h
    obtain ⟨hb, due⟩ := List.mem_filter.mp hb
    rw [← List.inj_on_of_nodup_map ids hb ha e]
    exact of_decide_eq_true due
  · intro due
    exact List.mem_map.mpr ⟨a, List.mem_filter.mpr ⟨ha, decide_eq_true due⟩, rfl⟩

/-! ### What has been taken before the blocks act -/

/-- Late actions have been taken from `v`, those that `late` names. -/
structure Opens (late : Action → Bool) (v u : State) : Prop where
  token : u.servo.token = v.servo.token
  time : ∃ x, u.time = { v.time with
    offset := offsetOf (v.scheduler.table.filter late) v.time.offset, leap := x }
  table : (v.scheduler.table.map Action.id).Nodup →
    u.scheduler.table = v.scheduler.table.filter (fun a => !late a)
  due : ∀ a ∈ u.scheduler.table, isDue u.scheduler a = isDue v.scheduler a
  leap : LeapFollows v → LeapFollows u

theorem Opens.nothing (v : State) : Opens (fun _ => false) v v where
  token := rfl
  time := ⟨v.time.leap, by simp [offsetOf]⟩
  table _ := by simp
  due _ _ := rfl
  leap h := h

theorem Opens.step (ev : StepEvent) (v : State) : Opens (dueAtStep ev) v (presentStep ev v) where
  token := poise_token (presentStep_poise ev v).1
  time := presentStep_writes ev v
  table ids := presentStep_left ev v ids
  due a ha := by
    obtain ⟨t, e, -, hs⟩ := presentStep_before ev v
    rw [e] at ha ⊢
    rw [← hs]
    exact (takeDue_left true (dueAtStep ev) t a ha).2.2
  leap := presentStep_leap ev

/-- The state whose boundary of second `n` is marked, with the offset `o`. -/
structure Marked (n o : Nat) (s v : State) : Prop where
  token : v.servo.token = false
  base : v.time.base = n
  frac : v.time.frac = 0
  rem : v.time.rem = s.time.rem
  timeSet : v.time.timeSet = true
  pending : v.time.pendingSet = none
  steps : v.time.stepCount = s.time.stepCount
  offset : v.time.offset = o
  leap : v.time.leap = s.time.leap
  scheduler : v.scheduler = (markDue n s).scheduler

/-- The state in which the blocks of second `n` begin to act: the actions due before it are taken, those
due at it wait. -/
structure Opened (n o : Nat) (s u : State) : Prop where
  token : u.servo.token = false
  base : u.time.base = n
  frac : u.time.frac = 0
  rem : u.time.rem = s.time.rem
  timeSet : u.time.timeSet = true
  pending : u.time.pendingSet = none
  steps : u.time.stepCount = s.time.stepCount
  leap : LeapFollows s → LeapFollows u
  table : TableLaw s → u.scheduler.table = s.scheduler.table.filter fun a => decide (n ≤ a.due)
  due : TableLaw s → ∀ a ∈ u.scheduler.table, isDue u.scheduler a = decide (a.due = n)
  offset : TableLaw s → u.time.offset = offsetOf (s.scheduler.table.filter fun a => decide (a.due < n)) o

theorem Opens.opened {n o : Nat} {s v u : State} {late : Action → Bool} (h : Opens late v u)
    (m : Marked n o s v) (hl : ∀ a, s.time.base < a.due → late a = decide (a.due < n)) :
    Opened n o s u := by
  obtain ⟨x, time⟩ := h.time
  have same : v.scheduler.table = s.scheduler.table := by rw [m.scheduler]; rfl
  have late_eq (g : TableLaw s) : ∀ a ∈ s.scheduler.table, late a = decide (a.due < n) :=
    fun a ha => hl a (g.ahead a ha)
  have table (g : TableLaw s) :
      u.scheduler.table = s.scheduler.table.filter fun a => decide (n ≤ a.due) := by
    rw [h.table (same ▸ g.ids), same]
    refine List.filter_congr fun a ha => ?_
    rw [late_eq g a ha, ← decide_not, decide_eq_decide]
    omega
  refine ⟨h.token.trans m.token, by rw [time]; exact m.base, by rw [time]; exact m.frac,
    by rw [time]; exact m.rem, by rw [time]; exact m.timeSet, by rw [time]; exact m.pending,
    by rw [time]; exact m.steps, fun g => h.leap (leapFollows_of_same g m.leap same), table,
    fun g a ha => ?_, fun g => ?_⟩
  · have here : a ∈ s.scheduler.table := (List.mem_filter.mp (table g ▸ ha)).1
    rw [h.due a ha, m.scheduler, markDue_due g.ids a here]
  · rw [time]
    show offsetOf (v.scheduler.table.filter late) v.time.offset = _
    rw [same, m.offset, List.filter_congr (late_eq g)]

theorem nextSecond_eq (t : TimeBase) :
    nextSecond t = (t.pendingSet.map PendingSet.seconds).getD (t.base + 1) := by
  unfold nextSecond
  split
  · rename_i p h; rw [h]; rfl
  · rename_i h; rw [h]; rfl

/-- The offset that a boundary begins with: that of the pending set, if it carries one (R13). -/
def openingOffset (t : TimeBase) : Nat := (t.pendingSet.bind PendingSet.offset).getD t.offset

theorem openedAt_opened {order : List Block} {s : State} (token : s.servo.token = false)
    (set : s.time.timeSet = true ∨ s.time.pendingSet ≠ none) :
    Opened (nextSecond s.time) (openingOffset s.time) s (openedAt order s) := by
  have time := markedAt_time order s
  unfold openedAt
  split
  · rename_i p hp
    have second : nextSecond s.time = p.seconds := by rw [nextSecond_eq, hp]; rfl
    have offset : openingOffset s.time = p.offset.getD s.time.offset := by unfold openingOffset; rw [hp]; rfl
    have mark (d : NoticeDetail) : Marked (nextSecond s.time) (openingOffset s.time) s
        (timeGiven (((markedAt order s).setTime
          { (markedAt order s).time with
            timeSet := true, offset := p.offset.getD (markedAt order s).time.offset, pendingSet := none
          }).post d 0)) := by
      refine ⟨?_, ?_, ?_, ?_, ?_, ?_, ?_, ?_, ?_, ?_⟩
      · refine Eq.trans ?_ ((markedAt_token order s).trans token)
        simp
      all_goals simp [time, markTime, offset, markedAt_scheduler]
    unfold applyPending
    dsimp only
    split
    · rename_i none
      refine (Opens.nothing _).opened (mark _) fun a ha => ?_
      simp only [pendingEvent] at none
      exact (decide_eq_false (by omega)).symm
    · refine (Opens.step _ _).opened (mark _) fun a ha => ?_
      show (decide (s.time.base + 1 < p.seconds) && decide (a.due < p.seconds)) = _
      rw [second, ← Bool.decide_and, decide_eq_decide]
      omega
  · rename_i hp
    have second : nextSecond s.time = s.time.base + 1 := by rw [nextSecond_eq, hp]; rfl
    have offset : openingOffset s.time = s.time.offset := by unfold openingOffset; rw [hp]; rfl
    refine (Opens.nothing _).opened ⟨(markedAt_token order s).trans token, ?_, ?_, ?_, ?_, ?_, ?_, ?_, ?_,
      markedAt_scheduler order s⟩ fun a ha => (decide_eq_false (by omega)).symm
    all_goals rw [time]
    · rfl
    · rfl
    · rfl
    · exact set.resolve_right fun g => g hp
    · exact hp
    · rfl
    · exact offset.symm
    · rfl

/-! ## The boundary as a whole -/

/-- In table order the actions due before a second come before those due at it. -/
theorem filter_due_le {l : List Action} (n : Nat)
    (h : l.Pairwise (fun a b => actionBefore a b = true)) :
    l.filter (fun a => decide (a.due ≤ n))
      = l.filter (fun a => decide (a.due < n)) ++ l.filter (fun a => decide (a.due = n)) := by
  induction l with
  | nil => rfl
  | cons a l ih =>
    obtain ⟨ha, hl⟩ := List.pairwise_cons.mp h
    have later : ∀ b ∈ l, a.due ≤ b.due := fun b hb => by
      have := ha b hb
      simp only [actionBefore, Bool.or_eq_true, Bool.and_eq_true, decide_eq_true_eq] at this
      omega
    rcases Nat.lt_trichotomy a.due n with lt | eq | gt
    · simp [lt, lt.le, lt.ne, ih hl]
    · have none : l.filter (fun b => decide (b.due < n)) = [] :=
        List.filter_eq_nil_iff.mpr fun b hb => by
          have := later b hb
          simp only [decide_eq_true_eq]
          omega
      have tail := ih hl
      rw [none, List.nil_append] at tail
      simp [eq, none, tail]
    · have none (p : Nat → Bool) (hp : ∀ d, n < d → p d = false) : l.filter (fun b => p b.due) = [] :=
        List.filter_eq_nil_iff.mpr fun b hb => by
          have := later b hb
          rw [hp b.due (by omega)]
          decide
      rw [List.filter_cons, List.filter_cons, List.filter_cons, if_neg (by simpa using gt),
        if_neg (by simpa using gt.le), if_neg (by simpa using gt.ne')]
      exact ih hl

theorem Opened.boundary {n o : Nat} {s u t : State} (h : Opened n o s u) (k : Taken u t)
    (g : TableLaw s) :
    t.scheduler.table = s.scheduler.table.filter (fun a => decide (n < a.due))
      ∧ (LeapFollows s → LeapFollows t)
      ∧ t.time.offset = offsetOf (s.scheduler.table.filter fun a => decide (a.due ≤ n)) o := by
  obtain ⟨c, x, time⟩ := k.time
  refine ⟨?_, fun w => k.leap (h.leap w), ?_⟩
  · have kept : ∀ a ∈ u.scheduler.table,
        decide (a.id ∉ u.scheduler.dueIds) = decide (n < a.due) := fun a ha => by
      have here := (List.mem_filter.mp (h.table g ▸ ha)).2
      rw [decide_eq_true_iff] at here
      have due := h.due g a ha
      rw [Bool.eq_iff_iff, isDue_iff, decide_eq_true_iff] at due
      rw [decide_eq_decide, due]
      omega
    rw [k.table, List.filter_congr kept, h.table g, List.filter_filter]
    refine List.filter_congr fun a _ => ?_
    rw [← Bool.decide_and, decide_eq_decide]
    omega
  · have due : u.scheduler.table.filter (isDue u.scheduler)
        = s.scheduler.table.filter fun a => decide (a.due = n) := by
      rw [List.filter_congr (h.due g), h.table g, List.filter_filter]
      refine List.filter_congr fun a _ => ?_
      rw [← Bool.decide_and, decide_eq_decide]
      omega
    rw [time]
    show offsetOf (u.scheduler.table.filter (isDue u.scheduler)) u.time.offset = _
    rw [due, h.offset g, filter_due_le n g.order]
    exact (List.foldl_append).symm

end Sys2Proof.Machine
end

section
set_option Elab.async false

namespace Sys2Proof.Machine

open Sys2Proof.Safety

/-! ## An emission instant at the boundary (R125, R128) -/

theorem setPort_setPort (s : State) (p : Fin 12) (x y : Port) :
    (s.setPort p x).setPort p y = s.setPort p y := by
  unfold State.setPort State.setPorts
  simp

theorem setPort_self (s : State) (p : Fin 12) : s.setPort p (s.port p) = s := by
  unfold State.setPort State.setPorts State.port
  simp

/-- What the service and the message of an instant leave of its port. -/
structure Serves (x y : Port) : Prop where
  lastEmitted : y.lastEmitted = x.lastEmitted
  state : y.state = x.state
  suppressNext : y.suppressNext = x.suppressNext
  pin : y.pin = x.pin

/-- The service writes the port, and may post the notice of an adjustment (R132, R133). -/
theorem serveHead_serves (l : Option Nat) (p : Fin 12) (s : State) : ∃ y a,
    serveHead l p s = { s.setPort p y with alarms := a } ∧ Serves (s.port p) y
      ∧ y.pendingMessage = (s.port p).pendingMessage := by
  unfold serveHead
  dsimp only
  split
  · exact ⟨s.port p, s.alarms, by rw [setPort_self], ⟨rfl, rfl, rfl, rfl⟩, rfl⟩
  · split
    · exact ⟨_, _, rfl, ⟨rfl, rfl, rfl, rfl⟩, rfl⟩
    · exact ⟨_, s.alarms, rfl, ⟨rfl, rfl, rfl, rfl⟩, rfl⟩

/-- A message composed at the pulse writes the port alone; where the second is not yet recorded, the
message stays pending (R129). -/
theorem composeAtPulse_serves (p : Fin 12) (n : Nat) (s : State) (x : Port) : ∃ y,
    composeAtPulse p n (s.setPort p x) = s.setPort p y ∧ Serves x y
      ∧ ((∀ r, s.holdover.recorded = some r → r.second ≠ n) → y = x) := by
  unfold composeAtPulse
  rw [State.setPort_holdover]
  split
  · rename_i r hr
    split
    · rename_i h
      unfold composeMessage
      dsimp only
      rw [State.setPort_port]
      split
      · exact ⟨_, setPort_setPort _ _ _ _, ⟨rfl, rfl, rfl, rfl⟩, fun g => absurd h.2 (g r hr)⟩
      · exact ⟨_, setPort_setPort _ _ _ _, ⟨rfl, rfl, rfl, rfl⟩, fun g => absurd h.2 (g r hr)⟩
    · exact ⟨x, rfl, ⟨rfl, rfl, rfl, rfl⟩, fun _ => rfl⟩
  · exact ⟨x, rfl, ⟨rfl, rfl, rfl, rfl⟩, fun _ => rfl⟩

/-- A suppressed instant leaves the pin and the pending message (R128). -/
theorem useInstant_suppressed {p : Fin 12} {n : Nat} {s : State} (h : (s.port p).suppressNext = true) :
    ∃ y a, useInstant p n s = { s.setPort p y with alarms := a } ∧ y.lastEmitted = some n
      ∧ y.state = (s.port p).state ∧ y.suppressNext = false ∧ y.pin = (s.port p).pin
      ∧ y.pendingMessage = (s.port p).pendingMessage := by
  obtain ⟨y, a, e, kept, message⟩ := serveHead_serves (some (s.port p).config.stepLimit) p
    (s.setPort p (suppressed n (s.port p)))
  simp only [State.setPort_port] at kept message
  refine ⟨y, a, ?_, kept.lastEmitted, kept.state, kept.suppressNext, kept.pin, message⟩
  unfold useInstant
  dsimp only
  rw [if_pos h, e, setPort_setPort]

theorem emitted_writes (n : Nat) (x : Port) : (emitted n x).lastEmitted = some n
    ∧ (emitted n x).state = x.state ∧ (emitted n x).suppressNext = x.suppressNext
    ∧ (emitted n x).pin = true
    ∧ (x.config.type = .pulseTod → (emitted n x).pendingMessage = some n) := by
  unfold emitted
  split
  · exact ⟨rfl, rfl, rfl, rfl, fun _ => rfl⟩
  · rename_i h; exact ⟨rfl, rfl, rfl, rfl, fun g => by rw [h] at g; cases g⟩
  · rename_i h; exact ⟨rfl, rfl, rfl, rfl, fun g => by rw [h] at g; cases g⟩

/-- An instant that is used raises the pin, and its message waits for the second's record (R126, R129). -/
theorem useInstant_emitted {p : Fin 12} {n : Nat} {s : State} (h : (s.port p).suppressNext = false) :
    ∃ y a, useInstant p n s = { s.setPort p y with alarms := a } ∧ y.lastEmitted = some n
      ∧ y.state = (s.port p).state ∧ y.suppressNext = false ∧ y.pin = true
      ∧ ((s.port p).config.type = .pulseTod → (∀ r, s.holdover.recorded = some r → r.second ≠ n) →
          y.pendingMessage = some n) := by
  obtain ⟨last, state, next, pin, waits⟩ := emitted_writes n (s.port p)
  obtain ⟨x, e, made, same⟩ := composeAtPulse_serves p n s (emitted n (s.port p))
  obtain ⟨y, a, f, kept, message⟩ := serveHead_serves (some (s.port p).config.stepLimit) p (s.setPort p x)
  simp only [State.setPort_port] at kept message
  refine ⟨y, a, ?_, kept.lastEmitted.trans (made.lastEmitted.trans last),
    kept.state.trans (made.state.trans state),
    kept.suppressNext.trans (made.suppressNext.trans (next.trans h)), kept.pin.trans (made.pin.trans pin),
    fun tod unrecorded => ?_⟩
  · unfold useInstant
    dsimp only
    rw [if_neg (by rw [h]; decide), e, f, setPort_setPort]
  · rw [message, same unrecorded]
    exact waits tod

/-- The instant of second `n` comes at this boundary, and is used. -/
theorem comes_iff {p : Fin 12} {n : Nat} {s : State} :
    (atInstant n (s.port p) s && usesInstant n (s.port p)) = true ↔
      (s.port p).delay = 0 ∧ s.time.base = n ∧ s.time.frac = 0 ∧ s.time.landed = false
        ∧ (s.port p).activated = false ∧ (s.port p).state = .active
        ∧ ∀ l, (s.port p).lastEmitted = some l → l < n := by
  unfold atInstant usesInstant
  cases (s.port p).lastEmitted <;> simp [and_assoc]

/-! ## Labels (R15, R16, R165) -/

theorem actionLeap_due {a : Action} {x : Leap} (h : actionLeap a = some x) : x.due = a.due := by
  unfold actionLeap at h
  split at h <;> cases h <;> rfl

/-- The first leap in table order is the earliest (R16). -/
theorem earliestLeap_some {l : List Action} {x : Leap} (h : earliestLeap l = some x)
    (order : l.Pairwise (fun a b => actionBefore a b = true)) :
    (∃ a ∈ l, actionLeap a = some x) ∧ ∀ b ∈ l, ∀ y, actionLeap b = some y → x.due ≤ y.due := by
  induction l with
  | nil => cases h
  | cons a l ih =>
    obtain ⟨ha, hl⟩ := List.pairwise_cons.mp order
    have later : ∀ b ∈ l, a.due ≤ b.due := fun b hb => by
      have := ha b hb
      simp only [actionBefore, Bool.or_eq_true, Bool.and_eq_true, decide_eq_true_eq] at this
      omega
    cases e : actionLeap a with
    | some z =>
      rw [earliestLeap, List.findSome?_cons, e] at h
      cases h
      refine ⟨⟨a, List.mem_cons_self, e⟩, fun b hb y hy => ?_⟩
      rw [actionLeap_due e, actionLeap_due hy]
      rcases List.mem_cons.mp hb with rfl | hb
      · exact le_refl _
      · exact later b hb
    | none =>
      rw [earliestLeap, List.findSome?_cons, e] at h
      obtain ⟨⟨b, hb, lb⟩, first⟩ := ih h hl
      refine ⟨⟨b, List.mem_cons_of_mem a hb, lb⟩, fun c hc y hy => ?_⟩
      rcases List.mem_cons.mp hc with rfl | hc
      · rw [e] at hy; cases hy
      · exact first c hc y hy

section Label

variable {n : Nat} {s : State}

/-- The leap of a label is the earliest pending one after its second, if it is due within a day (R16). -/
theorem labelLeap_some {l : Leap} (h : labelLeap n s = some l)
    (order : s.scheduler.table.Pairwise (fun a b => actionBefore a b = true)) :
    n < l.due ∧ l.due ≤ n + 86400 ∧ (∃ a ∈ s.scheduler.table, actionLeap a = some l)
      ∧ ∀ a ∈ s.scheduler.table, ∀ x, actionLeap a = some x → n < x.due → l.due ≤ x.due := by
  unfold labelLeap at h
  split at h
  · rename_i y hy
    split at h
    · rename_i near
      cases h
      obtain ⟨⟨a, ha, e⟩, first⟩ := earliestLeap_some hy (order.filter _)
      obtain ⟨ha, after⟩ := List.mem_filter.mp ha
      have after : n < l.due := by rw [actionLeap_due e]; exact of_decide_eq_true after
      refine ⟨after, by omega, ⟨a, ha, e⟩, fun b hb x hx hn => first b (List.mem_filter.mpr ⟨hb, ?_⟩) x hx⟩
      rw [actionLeap_due hx] at hn
      exact decide_eq_true hn
    · cases h
  · cases h

theorem labelLeap_none (h : labelLeap n s = none)
    (order : s.scheduler.table.Pairwise (fun a b => actionBefore a b = true)) :
    ∀ a ∈ s.scheduler.table, ∀ x, actionLeap a = some x → x.due ≤ n ∨ n + 86400 < x.due := by
  intro a ha x hx
  by_cases hn : x.due ≤ n
  · exact .inl hn
  · have here : a ∈ s.scheduler.table.filter fun a => decide (n < a.due) :=
      List.mem_filter.mpr ⟨ha, decide_eq_true (by rw [actionLeap_due hx] at hn; omega)⟩
    unfold labelLeap at h
    split at h
    · rename_i y hy
      split at h
      · cases h
      · have first := (earliestLeap_some hy (order.filter _)).2 a here x hx
        exact .inr (by omega)
    · rename_i none
      rw [List.findSome?_eq_none_iff.mp none a here] at hx
      cases hx

/-- The actions that are taken leave the offset of the label (R165). -/
theorem takeAll_offset (l : Bool) (as : List Action) (s : State) :
    (as.foldl (takeAction l) s).time.offset = offsetOf as s.time.offset := by
  obtain ⟨x, e⟩ := takeAll_writes l as s
  rw [e]

theorem schedulerStep_offset {ev : StepEvent} (forward : ev.forward = true)
    (past : if ev.pending then ev.before ≤ n ∧ n < ev.after else ev.before < n ∧ n ≤ ev.after) :
    (schedulerStep ev s).time.offset = stepLabelOffset ev n s := by
  have due : ∀ a ∈ s.scheduler.table, dueAtStep ev a = (decide (a.due ≤ n) || dueAtStep ev a) := by
    intro a _
    unfold dueAtStep
    rw [forward, Bool.true_and]
    split at past
    · rename_i h
      rw [if_pos h, ← Bool.decide_or, decide_eq_decide]
      omega
    · rename_i h
      rw [if_neg h, ← Bool.decide_or, decide_eq_decide]
      omega
  refine (takeAll_offset true _ s).trans ?_
  rw [List.filter_congr due]
  rfl

end Label

/-! ## O48 -/

theorem exec_secondBoundary {order : List Block} {s : State} (hp : s.part ≠ .loading)
    (he : s.time.endOfRange = false) (hb : s.time.base < Config.maxSeconds) (hs : settle s = s) :
    exec (.secondBoundary order) s = .next (blocksAct (nextSecond (ranOut s).time) order
      (openedAt order (ranOut s))) :=
  congrArg Host.Outcome.next ((nextBoundary_of_settled hp he hb hs).trans (markBoundary_opened _ _))

theorem blockOrder_frameless {order : List Block} (h : ∀ p l b, Block.frame p l b ∉ order) :
    ∀ b ∈ (blockOrder order).dropWhile isExpiry, frameless b := by
  intro b hb p l c e
  rcases (mem_blockOrder order b).mp ((List.dropWhile_suffix _).subset hb) with g | g
  · exact h p l c (e ▸ g)
  · rw [e] at g
    simp [defaultOrder] at g

/-- What a boundary leaves where no step follows it (R91, R163). -/
structure BoundaryStands (n o : Nat) (s t : State) : Prop where
  base : t.time.base = n
  frac : t.time.frac = 0
  rem : t.time.rem = s.time.rem
  timeSet : t.time.timeSet = true
  pending : t.time.pendingSet = none
  steps : t.time.stepCount = s.time.stepCount
  token : t.servo.token = false
  table : TableLaw s →
    t.scheduler.table = s.scheduler.table.filter (fun a => decide (n < a.due))
      ∧ (LeapFollows s → LeapFollows t)
      ∧ t.time.offset = offsetOf (s.scheduler.table.filter fun a => decide (a.due ≤ n)) o

theorem blocksAct_stands {order : List Block} {s : State} (token : s.servo.token = false)
    (set : s.time.timeSet = true ∨ s.time.pendingSet ≠ none)
    (frames : ∀ p l b, Block.frame p l b ∉ order) :
    BoundaryStands (nextSecond s.time) (openingOffset s.time) s
      (blocksAct (nextSecond s.time) order (openedAt order s)) := by
  have opened : Opened (nextSecond s.time) (openingOffset s.time) s (openedAt order s) :=
    openedAt_opened token set
  have start : Stands (openedAt order s) (openedAt order s) := ⟨opened.token, ⟨_, rfl⟩, rfl⟩
  have taken : Taken (openedAt order s) (blocksAct (nextSecond s.time) order (openedAt order s)) :=
    start.blocks (scheduler_acts order) (blockOrder_frameless frames) opened.timeSet
  obtain ⟨c, x, time⟩ := taken.time
  exact ⟨by rw [time]; exact opened.base, by rw [time]; exact opened.frac,
    by rw [time]; exact opened.rem, by rw [time]; exact opened.timeSet,
    by rw [time]; exact opened.pending, by rw [time]; exact opened.steps, taken.token,
    opened.boundary taken⟩

/-- The state at the end of the second, and what it has in common with the state before (R2). -/
theorem blocksAct_ranOut {order : List Block} {s : State} (he : s.time.endOfRange = false)
    (hb : s.time.base < Config.maxSeconds) (token : s.servo.token = false)
    (set : s.time.timeSet = true ∨ s.time.pendingSet ≠ none)
    (frames : ∀ p l b, Block.frame p l b ∉ order) :
    BoundaryStands (nextSecond s.time) (openingOffset s.time) s
      (blocksAct (nextSecond s.time) order (openedAt order (ranOut s))) := by
  obtain ⟨a, b, c, time⟩ := ranOut_time he hb
  have scheduler : (ranOut s).scheduler = s.scheduler := by simp [ranOut]
  have second : nextSecond (ranOut s).time = nextSecond s.time := by rw [time]; rfl
  have offset : openingOffset (ranOut s).time = openingOffset s.time := by rw [time]; rfl
  have stands := blocksAct_stands (order := order) ((ranOut_token s).trans token)
    (by rw [time]; exact set) frames
  rw [second, offset] at stands
  refine { stands with rem := ?_, steps := ?_, table := fun g => ?_ }
  · rw [stands.rem, time]
  · rw [stands.steps, time]
  · have law : TableLaw (ranOut s) := ⟨scheduler ▸ g.room, by rw [scheduler, time]; exact g.ahead,
      scheduler ▸ g.order, scheduler ▸ g.ids⟩
    obtain ⟨table, leap, offset⟩ := stands.table law
    rw [scheduler] at table offset
    exact ⟨table, fun w => leap (leapFollows_of_same w (by rw [time]) (by rw [scheduler])), offset⟩

/-- An instant that comes at the boundary is used by its port (R125, R128). -/
theorem boundaryInstant_used {p : Fin 12} {n : Nat} {s : State}
    (h : (atInstant n (s.port p) s && usesInstant n (s.port p)) = true) :
    boundaryInstant p n s = useInstant p n s := by
  unfold boundaryInstant
  rw [if_pos h]

/-- Settles O48. -/
theorem boundaryBeginsTheNextSecond : Obligations.BoundaryBeginsTheNextSecond := by
  refine ⟨fun order s hp he hb hs => ?_, fun order => ⟨blockOrder_nodup order, mem_blockOrder order,
      fun n s => blocksAct_expiriesFirst n order s⟩,
    fun n s => ⟨rfl, boundaryActions_left s⟩, fun p n s => ⟨fun h => ?_, fun h => ?_⟩,
    fun n s => ⟨takeAll_offset false _ s, fun ev => schedulerStep_offset, fun order =>
      ⟨fun l h => labelLeap_some h order, fun h => labelLeap_none h order⟩⟩⟩
  · have run := exec_secondBoundary (order := order) hp he hb hs
    obtain ⟨a, b, c, time⟩ := ranOut_time he hb
    have second : nextSecond (ranOut s).time = nextSecond s.time := by rw [time]; rfl
    rw [second] at run
    refine ⟨_, run, ?_⟩
    rw [← nextSecond_eq]
    have acts : Block.holdover ∈ (blockOrder order).dropWhile isExpiry :=
      acts_behind ((mem_blockOrder _ _).mpr (.inr (by decide))) rfl
    obtain ⟨part, link, flash, pending⟩ := markBoundary_frame order (ranOut s)
    rw [markBoundary_opened, second] at part link flash pending
    refine ⟨blocks_recorded _ acts _, part.trans (by simp [ranOut]), link.trans (by simp [ranOut]),
      flash.trans (by simp [ranOut]), pending.trans (by simp [ranOut]), fun token set frames => ?_⟩
    have stands := blocksAct_ranOut he hb token set frames
    exact ⟨stands.base, stands.frac, stands.rem, stands.timeSet, stands.pending, stands.steps,
      stands.token, stands.table⟩
  · show boundaryInstant p n s = s
    unfold boundaryInstant
    rw [if_neg fun g => h (comes_iff.mp g)]
  · have used : blockActs n s (.instant p) = useInstant p n s := boundaryInstant_used (comes_iff.mpr h)
    obtain ⟨-, -, -, -, -, active, -⟩ := h
    rw [used]
    cases next : (s.port p).suppressNext with
    | true =>
      obtain ⟨y, a, e, last, state, off, pin, message⟩ := useInstant_suppressed (n := n) next
      exact ⟨y, a, e, last, state.trans active, off, fun _ => ⟨pin, message⟩, fun g => (by cases g)⟩
    | false =>
      obtain ⟨y, a, e, last, state, off, pin, message⟩ := useInstant_emitted (n := n) next
      exact ⟨y, a, e, last, state.trans active, off, fun g => (by cases g), fun _ => ⟨pin, message⟩⟩

end Sys2Proof.Machine
end

section
set_option Elab.async false

namespace Sys2Proof.Machine

open Sys2Proof.Safety

/-! ## The selected slot (R22, R40, R60, R63, R76, R77) -/

/-- Every request keeps the laws of selection. -/
theorem CatalogueEffect.selects {f : Request.Effect} (h : CatalogueEffect f) : SelectsAll f := by
  cases h with
  | setTime n o => exact requestSetTime_selects n o
  | setReference n c => exact requestSetReference_selects n c
  | lockout n b => exact requestLockout_selects n b
  | clearCounts n => exact requestClearCounts_selects n
  | label n k => exact requestLabel_selects n k
  | sample q o d g => exact requestSample_selects q o d g
  | setSelection c => exact requestSetSelection_selects c
  | setServo c => exact requestSetServo_selects c
  | setChain c => exact requestSetChain_selects c
  | allowStep => exact requestAllowStep_selects
  | _ => exact selectsAll_of_blocks fun s => by simp

/-! ### Events -/

theorem runOut_selects (s : State) : Selects s (runOut s) := countPicos_selects _ s

theorem nextBoundary_selects (order : List Block) (s : State) : Selects s (nextBoundary order s) := by
  unfold nextBoundary
  split
  · exact (settle_selects s).trans ((passHalf_selects _ _).trans
      ((runOut_selects _).trans (markBoundary_selects _ _)))
  · exact .refl s

theorem reachEnd_selects (s : State) : Selects s (reachEnd s) := by
  unfold reachEnd
  dsimp only
  (repeat' split)
  · exact (settle_selects s).trans (runToEnd_selects _)
  · exact settle_selects s
  · exact .refl s

theorem onePico_selects (s : State) : Selects s (onePico s) := by
  unfold onePico
  (repeat' split)
  · exact countPicos_selects 1 s
  · exact (countPicos_selects 1 s).trans ((markBoundary_selects _ _).trans (settle_selects _))
  · exact setTime_selects s _
  · exact .refl s

theorem picos_selects (n : Nat) (s : State) : Selects s (picos n s) := by
  induction n generalizing s with
  | zero => exact .refl s
  | succ n ih => exact (onePico_selects s).trans (ih _)

theorem idle_selects (s : State) : Selects s (idle s) := by
  refine (settle_selects s).trans ?_
  unfold idle oscillatorTick
  dsimp only
  split
  · exact (setTime_selects _ _).trans (picos_selects _ _)
  · exact .refl _

/-- An event of the pins or of the count: the count runs on to its instant, and there it is taken. -/
theorem selects_at (n : Nat) {f : State → State} (h : ∀ t, Selects t (f t)) (s : State) (c : Bool) :
    Selects s (if c then f (advanceTo n s) else s) := by
  split
  · exact (advanceTo_selects n s).trans (h _)
  · exact .refl s

theorem settleBefore_selects (n : Nat) (s : State) : Selects s (settleBefore n s) := by
  unfold settleBefore
  split
  · exact settle_selects s
  · exact .refl s

theorem setPort_selects (s : State) (p : Fin 12) (x : Port) : Selects s (s.setPort p x) :=
  .of_blocks rfl rfl rfl

theorem runToInstant_selects (p : Fin 12) (i : Nat × Nat) (s : State) :
    Selects s (runToInstant p i s) := by
  refine (runPast_selects i.2 s).trans ?_
  dsimp only [runToInstant]
  split
  · exact .of_blocks (by simp) (by simp) (by simp)
  · exact .refl _

theorem portEmission_selects (p : Fin 12) (s : State) : Selects s (portEmission p s) := by
  unfold portEmission
  dsimp only
  (repeat' split)
  · exact (settleBefore_selects _ s).trans (runToInstant_selects _ _ _)
  · exact settleBefore_selects _ s
  · exact .refl s
  · exact .refl s

theorem clockEdge_selects (p : Fin 12) (k : Nat) (b : Bool) (s : State) :
    Selects s (clockEdge p k b s) := by
  unfold clockEdge
  dsimp only
  (repeat' split)
  · exact (settleBefore_selects _ s).trans ((runPast_selects _ _).trans (setPort_selects _ _ _))
  · exact settleBefore_selects _ s
  · exact .refl s
  · exact .refl s

/-- Every transition keeps the laws of selection; a start makes them hold. -/
theorem Transition.selects {s t : State} (h : Transition s t) : Selects s t := by
  cases h with
  | stays s => exact .refl s
  | starts p a f s =>
    exact ⟨fun _ => (enterRunning_selection p a _).1, fun _ _ => (enterRunning_selection p a _).2⟩
  | octets l s => exact receiveOctets_selects _ l s
  | replySent s => exact (restartActs_selects s).trans (replyFinished_selects _)
  | unknownKind q s => exact (restartActs_selects s).trans (takeRequest_selects q _)
  | request kind tag hf s => exact takeTyped_selects kind tag hf.selects s
  | restarts s => exact restartActs_selects s
  | boundary order s => exact nextBoundary_selects order s
  | endOfRange s => exact reachEnd_selects s
  | satPulse k t s => exact selects_at t (satPulseArrives_selects k) s _
  | satWindowClose k s => exact selects_at _ (closeWindow_selects k) s _
  | lineEdge k t n s => exact selects_at t (lineEdgeArrives_selects k n) s _
  | lineLoss k s => exact selects_at _ (lineLossTaken_selects k) s _
  | chainMarker p t s => exact selects_at t (fun _ => .of_blocks (by simp) (by simp) (by simp)) s _
  | chainFrame p t l b s => exact selects_at t (receiveFrame_selects p l b) s _
  | qualifies k s => exact qualifies_selects k s
  | waitEnds k s => exact waitEnds_selects k s
  | periodEnds k s => exact periodEnds_selects k s
  | dwellExpires s => exact dwellExpires_selects s
  | emission p s => exact portEmission_selects p s
  | swapExpires s => exact swapExpires_selects s
  | clockEdge p k b s => exact clockEdge_selects p k b s
  | idle s => exact idle_selects s
  | linkError s => exact setLink_selects s _
  | saveSucceeds | saveFails | rearmExpires | pulseEnd | conflictExpires | tooLongExpires
  | alarmDelay => exact .of_blocks (by simp) (by simp) (by simp)

/-- Settles O7: PIN_RESET leaves no slot selected; every other step is a transition, in which only an
evaluation writes the selected slot and only a switch or an update the servo's state. -/
theorem stepsKeepTheSelection : Obligations.StepsKeepTheSelection := by
  rintro s t h ⟨servo, selection, monitors⟩
  have all : Tracks t ∧ SelectionLaw t := by
    obtain ⟨rest, ⟨m, -, rfl⟩ | g⟩ := step_transition h
    · exact pinReset_selection m _
    · have tracks : Tracks (s.setPending rest) := ⟨⟨servo.followed, servo.free, servo.line⟩, monitors⟩
      exact ⟨g.selects.tracks tracks, g.selects.selection tracks selection⟩
  exact ⟨all.1.1, all.2, all.1.2⟩

/-! ## Levels, history and delays (R21, R31, R40, R97, R131, R134) -/

/-- Every transition keeps the laws of the levels, the history and the delays; a start makes them hold. -/
theorem Transition.keepsRest {s t : State} (h : Transition s t) : KeepsRest s t := by
  obtain k | ⟨-, l⟩ := h.keeps
  · exact k.toKeepsRest
  · exact ⟨fun _ => l.alarms, fun _ => l.frequency, fun _ => l.delays, fun _ => l.history,
      fun _ => l.levels⟩

/-- A law that PIN_RESET establishes and every transition keeps holds after every step, if it does not speak of
the commands that wait. -/
theorem step_keeps {P : State → Prop} (reset : ∀ m s, P (pinReset m s))
    (transition : ∀ s t, Transition s t → P s → P t)
    (queue : ∀ s l, P s → P (s.setPending l)) (s t : State) (h : step s = .next t) (p : P s) : P t := by
  obtain ⟨rest, ⟨m, -, rfl⟩ | g⟩ := step_transition h
  · exact reset m _
  · exact transition _ _ g (queue s rest p)

/-- Settles O8: PIN_RESET and a start make the three laws hold, and every other transition keeps them. -/
theorem stepsKeepLevelsHistoryAndDelays : Obligations.StepsKeepLevelsHistoryAndDelays :=
  ⟨step_keeps (fun m s => (pinReset_lawful m s).levels) (fun _ _ g => g.keepsRest.levels) fun _ _ p => p,
   step_keeps (fun m s => (pinReset_lawful m s).history) (fun _ _ g => g.keepsRest.history) fun _ _ p => p,
   step_keeps (fun m s => (pinReset_lawful m s).delays) (fun _ _ g => g.keepsRest.delays) fun _ _ p => p⟩

end Sys2Proof.Machine
end

section
set_option Elab.async false

namespace Sys2Proof.Machine

open Sys2Proof.Safety

/-! ## Requests: monitors (R34, R40 to R43) -/

/-- An event that writes one monitor, and then at most an evaluation: each monitor, disagreement runs
apart. -/
theorem calm_written {k : Slot} {f : Monitor → Monitor} {s t : State}
    (h : calms t.refs = calms (modRef k f s).refs) (j : Slot) :
    calm (t.ref j) = calm (if j = k then f (s.ref j) else s.ref j) := by
  rw [calm_of_calms h, modRef_ref]

theorem slotOfNumber_eq_some {n : Nat} {k : Slot} (h : slotOfNumber n = some k) : slotNumber k = n := by
  unfold slotOfNumber at h
  split at h <;> cases h <;> rfl

/-! ### CLEAR_COUNTS and LABEL -/

theorem isSat_satSlot (k : SatSlot) : isSat (satSlot k) = true := by
  cases k <;> rfl

theorem slotNumber_of_isSat {k : Slot} (h : isSat k = true) : slotNumber k < 2 := by
  cases k
  case satA | satB => decide
  all_goals cases h

theorem requestLabel_inRange {k : SatSlot} {seconds : Nat} {s : State} (h : seconds ≤ Config.maxSeconds) :
    requestLabel (slotNumber (satSlot k)) seconds s =
      if (s.ref (satSlot k)).state = .disabled then refuse .wrongState s
      else (modRef (satSlot k) (fun m => { m with label := some seconds }) s, okWith []) := by
  unfold requestLabel
  rw [slotOfNumber_slotNumber]
  dsimp only
  rw [if_neg]
  simp [isSat_satSlot, h]

theorem requestLabel_outside {n seconds : Nat} {s : State} (h : 2 ≤ n ∨ Config.maxSeconds < seconds) :
    requestLabel n seconds s = refuse .invalid s := by
  unfold requestLabel
  split
  · rename_i k hk
    rw [if_pos]
    refine h.imp_left fun big => ?_
    by_contra sat
    have low := slotNumber_of_isSat (Bool.not_eq_false _ ▸ sat)
    rw [slotOfNumber_eq_some hk] at low
    omega
  · rfl

/-- Settles O26. -/
theorem countsAreClearedAndLabelsPend : Obligations.CountsAreClearedAndLabelsPend := by
  refine ⟨fun tag s h => ⟨?_, fun k => ?_, fun n hn => ?_⟩,
    fun tag seconds s h => ⟨fun k hs hd => ?_, fun k hs hd => ?_, fun n hn => ?_⟩⟩
  · exact ⟨mapRefs (fun _ m => clearedCounts m) s.refs, fun k => mapRefs_get _ _ k,
      congrArg Host.Outcome.next (takeTyped_okWith h 0x0B tag (f := requestClearCounts none) rfl rfl)⟩
  · have run : requestClearCounts (some (slotNumber k)) s
        = (modRef k clearedCounts s, okWith (countContents (s.ref k))) := by
      simp only [requestClearCounts, slotOfNumber_slotNumber]
    exact congrArg Host.Outcome.next (takeTyped_okWith h 0x0B tag run rfl)
  · exact refusal_answers h 0x0B tag (by simp only [requestClearCounts, slotOfNumber_none hn])
  · have run := (requestLabel_inRange (k := k) (s := s) hs).trans (if_neg hd)
    exact congrArg Host.Outcome.next (takeTyped_okWith h 0x0C tag run rfl)
  · exact refusal_answers h 0x0C tag ((requestLabel_inRange hs).trans (if_pos hd))
  · exact refusal_answers h 0x0C tag (requestLabel_outside hn)

/-! ### LOCKOUT -/

theorem requestLockout_slot (k : Slot) (on : Bool) (s : State) :
    requestLockout (slotNumber k) on s = (lockSlot k on s, okWith []) := by
  simp only [requestLockout, slotOfNumber_slotNumber]

theorem lockSlot_same {k : Slot} {on : Bool} {s : State} (h : (s.ref k).lockedOut = on) :
    lockSlot k on s = s := if_pos h

theorem lockSlot_change {k : Slot} {on : Bool} {s : State} (h : (s.ref k).lockedOut ≠ on) :
    lockSlot k on s = reportToSelector (modRef k (fun m => { m with lockedOut := on }) s) := if_neg h

/-- Settles O25: the flag is written, and the evaluation that follows selects no slot that is locked out. -/
theorem lockoutWritesTheFlag : Obligations.LockoutWritesTheFlag := by
  refine fun tag on s h => ⟨fun n hn => ?_, fun k => ⟨fun same => ?_, fun change => ?_⟩⟩
  · exact refusal_answers h 0x0A tag (by simp only [requestLockout, slotOfNumber_none hn])
  · have run := requestLockout_slot k on s
    rw [lockSlot_same same] at run
    exact congrArg Host.Outcome.next (takeTyped_okWith h 0x0A tag run rfl)
  · have monitors : ∀ j, calm ((lockSlot k on s).ref j)
        = calm (if j = k then { s.ref j with lockedOut := on } else s.ref j) :=
      calm_written (f := fun m => { m with lockedOut := on }) (by rw [lockSlot_change change]; simp)
    have own := monitors k
    rw [if_pos rfl] at own
    refine ⟨_, congrArg Host.Outcome.next
      (takeTyped_okWith h 0x0A tag (requestLockout_slot k on s) (by simp)), own, fun locked selected => ?_,
      fun j hj => (monitors j).trans (by rw [if_neg hj]; rfl), rfl, by simp⟩
    have law : SelectionLaw (lockSlot k on s) := by
      rw [lockSlot_change change]
      exact (reportToSelector_reports _).selection
    obtain ⟨-, free, -⟩ := law k selected
    have flag : ((lockSlot k on s).ref k).lockedOut = on := congrArg Monitor.lockedOut own
    rw [flag, locked] at free
    cases free

/-! ### SET_REFERENCE -/

theorem requestSetReference_slot (k : Slot) (c : ReferenceConfig) (s : State) :
    requestSetReference (slotNumber k) c s =
      if referenceOk k (normalizeReference k c) then
        (configureSlot k (normalizeReference k c) s, okWith [])
      else refuse .invalid s := by
  simp only [requestSetReference, slotOfNumber_slotNumber]

/-- The monitor that a changed record restarts (R40). -/
def restartedMonitor (k : Slot) (c : ReferenceConfig) (m : Monitor) : Monitor :=
  if m.signal then startedMonitor (restartCleared c m) else absentMonitor k (restartCleared c m)

/-- The monitor of the slot whose record SET_REFERENCE writes (R40). -/
def configuredMonitor (k : Slot) (c : ReferenceConfig) (m : Monitor) : Monitor :=
  if c.enabled = false then disabledMonitor k c m
  else if m.config.enabled = false then monitorAtReset k c m.lockedOut
  else if m.config = c then m
  else restartedMonitor k c m

theorem modRef_congr {k : Slot} {f g : Monitor → Monitor} {s : State} (h : f (s.ref k) = g (s.ref k)) :
    modRef k f s = modRef k g s := by
  unfold modRef
  rw [h]

theorem setRef_self (k : Slot) (s : State) : s.setRef k (s.ref k) = s := by
  cases k <;> rfl

theorem modRef_of_same {k : Slot} {f : Monitor → Monitor} {s : State} (h : f (s.ref k) = s.ref k) :
    modRef k f s = s := by
  unfold modRef
  rw [h, setRef_self]

theorem enterChecking_calms (k : Slot) (s : State) :
    calms (enterChecking k s).refs = calms (modRef k startedMonitor s).refs := by
  simp [enterChecking]

theorem enterAbsent_calms (k : Slot) (s : State) :
    calms (enterAbsent k s).refs = calms (modRef k (absentMonitor k) s).refs := by
  simp [enterAbsent]

theorem restartSlot_calms (k : Slot) (c : ReferenceConfig) (s : State) :
    calms (restartSlot k c s).refs = calms (modRef k (restartedMonitor k c) s).refs := by
  have twice {f : Monitor → Monitor} (h : restartedMonitor k c (s.ref k) = f (restartCleared c (s.ref k))) :
      modRef k (restartedMonitor k c) s = modRef k f (modRef k (restartCleared c) s) := by
    rw [modRef_modRef]
    exact modRef_congr h
  have signal : ((modRef k (restartCleared c) s).ref k).signal = (s.ref k).signal := by
    rw [modRef_ref, if_pos rfl]
    rfl
  unfold restartSlot
  dsimp only
  rw [signal]
  split
  · rename_i present
    rw [twice (if_pos present), enterChecking_calms]
  · rename_i lost
    rw [twice (if_neg lost), enterAbsent_calms]

theorem configureSlot_calms (k : Slot) (c : ReferenceConfig) (s : State) :
    calms (configureSlot k c s).refs = calms (modRef k (configuredMonitor k c) s).refs := by
  have as {f : Monitor → Monitor} (h : configuredMonitor k c (s.ref k) = f (s.ref k)) :
      modRef k (configuredMonitor k c) s = modRef k f s := modRef_congr h
  unfold configureSlot
  split
  · rename_i was is
    rw [as (f := disabledMonitor k c) (by simp [configuredMonitor, is])]
  · rename_i was is
    rw [as (f := fun m => monitorAtReset k c m.lockedOut) (by simp [configuredMonitor, was, is])]
    simp [enableSlot]
  · rename_i was is
    rw [as (f := disabledMonitor k c) (by simp [configuredMonitor, is])]
    simp [enterDisabled]
  · rename_i was is
    split
    · rename_i same
      rw [modRef_of_same (by simp [configuredMonitor, is, same])]
    · rename_i change
      rw [restartSlot_calms, as (f := restartedMonitor k c) (by simp [configuredMonitor, was, is, change])]

theorem configuredMonitor_config (k : Slot) (c : ReferenceConfig) (m : Monitor) :
    (configuredMonitor k c m).config = c := by
  unfold configuredMonitor
  (repeat' split)
  · rename_i off
    show { c with enabled := false } = c
    rw [← off]
  · rfl
  · assumption
  · unfold restartedMonitor
    split <;> rfl

theorem configuredMonitor_lockedOut (k : Slot) (c : ReferenceConfig) (m : Monitor) :
    (configuredMonitor k c m).lockedOut = m.lockedOut := by
  unfold configuredMonitor restartedMonitor
  (repeat' split) <;> rfl

theorem configuredMonitor_off {k : Slot} {c : ReferenceConfig} {m : Monitor} (h : c.enabled = false) :
    (configuredMonitor k c m).state = .disabled := by
  unfold configuredMonitor
  rw [if_pos h]
  rfl

theorem configuredMonitor_enabled {k : Slot} {c : ReferenceConfig} {m : Monitor} (h : c.enabled = true)
    (was : m.config.enabled = false) : (configuredMonitor k c m).state = .absent := by
  simp [configuredMonitor, h, was, monitorAtReset]

theorem configuredMonitor_restarted {k : Slot} {c : ReferenceConfig} {m : Monitor} (h : c.enabled = true)
    (was : m.config.enabled = true) (change : m.config ≠ c) :
    (configuredMonitor k c m).state = if m.signal then .checking else .absent := by
  simp only [configuredMonitor, restartedMonitor, h, was, change, reduceCtorEq, if_false]
  split <;> rfl

theorem configureSlot_same {k : Slot} {c : ReferenceConfig} {s : State} (h : c.enabled = true)
    (same : (s.ref k).config = c) : configureSlot k c s = s := by
  unfold configureSlot
  rw [same, h]
  exact if_pos rfl

@[simp] theorem filterFollows_filterConfig (k : Slot) (s : State) :
    (filterFollows k s).filter.config = s.filter.config := by
  unfold filterFollows
  split <;> rfl

@[simp] theorem enterAbsent_filterConfig (k : Slot) (s : State) :
    (enterAbsent k s).filter.config = s.filter.config := by
  simp [enterAbsent]

@[simp] theorem configureSlot_filterConfig (k : Slot) (c : ReferenceConfig) (s : State) :
    (configureSlot k c s).filter.config = s.filter.config := by
  unfold configureSlot
  (repeat' split)
  · simp
  · simp [enableSlot]
  · simp [enterDisabled]
  · rfl
  · unfold restartSlot
    dsimp only
    split <;> simp

/-- Settles O24: the monitor that the record configures, by the enabled field before and after. -/
theorem setReferenceConfiguresTheSlot : Obligations.SetReferenceConfiguresTheSlot := by
  refine fun tag s h => ⟨fun n c hn => ?_, fun k c => ⟨fun bad => ?_, fun good => ?_⟩⟩
  · exact refusal_answers h 0x08 tag (by simp only [requestSetReference, slotOfNumber_none hn])
  · refine refusal_answers h 0x08 tag ?_
    rw [requestSetReference_slot, bad]
    rfl
  · have run := requestSetReference_slot k c s
    rw [if_pos good] at run
    have monitors : ∀ j, calm ((configureSlot k (normalizeReference k c) s).ref j)
        = calm (if j = k then configuredMonitor k (normalizeReference k c) (s.ref j) else s.ref j) :=
      calm_written (configureSlot_calms k _ s)
    have own := monitors k
    rw [if_pos rfl] at own
    refine ⟨_, congrArg Host.Outcome.next (takeTyped_okWith h 0x08 tag run (by simp)),
      (congrArg Monitor.config own).trans (configuredMonitor_config _ _ _),
      (congrArg Monitor.lockedOut own).trans (configuredMonitor_lockedOut _ _ _),
      fun off => (congrArg Monitor.state own).trans (configuredMonitor_off off),
      fun on was => (congrArg Monitor.state own).trans (configuredMonitor_enabled on was),
      fun on was change => (congrArg Monitor.state own).trans (configuredMonitor_restarted on was change),
      fun on same => ?_, fun j hj => (monitors j).trans (by rw [if_neg hj]; rfl), rfl, by simp⟩
    have on : (normalizeReference k c).enabled = true := on
    rw [configureSlot_same on same]
    rfl

end Sys2Proof.Machine
end

section
set_option Elab.async false

namespace Sys2Proof.Machine

open Sys2Proof.Safety

/-! ## Timers of a monitor (R24, R25) -/

/-- The monitor that the qualify timer qualifies (R24). -/
def qualifiedMonitor (m : Monitor) : Monitor :=
  { m with state := .qualified, qualify := m.qualify.taken }

/-- The monitor at the end of its wait (R25). -/
def awaitedMonitor (k : Slot) (m : Monitor) : Monitor :=
  if m.signal then startedMonitor m else absentMonitor k m

section Timers

variable {k : Slot} {s : State}

theorem qualifies_idle (h : (s.ref k).qualify.due = false) : qualifies k s = s := by
  unfold qualifies
  rw [h]
  rfl

theorem waitEnds_idle (h : (s.ref k).wait.due = false) : waitEnds k s = s := by
  unfold waitEnds
  rw [h]
  rfl

theorem qualifies_calms (due : (s.ref k).qualify.due = true) (h : (s.ref k).state = .checking) :
    calms (qualifies k s).refs = calms (modRef k qualifiedMonitor s).refs := by
  have checking : ((modRef k (fun m => { m with qualify := m.qualify.taken }) s).ref k).state = .checking := by
    rw [modRef_ref, if_pos rfl]
    exact h
  unfold qualifies
  dsimp only
  rw [if_pos due, if_pos checking, modRef_modRef]
  have evaluated (t : State) : calms (reportToSelector t).refs = calms t.refs := by simp
  exact evaluated _

theorem waitEnds_calms (due : (s.ref k).wait.due = true) (h : (s.ref k).state = .failed) :
    calms (waitEnds k s).refs = calms (modRef k (awaitedMonitor k) s).refs := by
  have own : (modRef k (fun m => { m with wait := m.wait.taken }) s).ref k
      = { s.ref k with wait := (s.ref k).wait.taken } := by
    rw [modRef_ref, if_pos rfl]
  unfold waitEnds
  dsimp only
  rw [if_pos due, own, if_pos h]
  split
  · rename_i present
    have as : modRef k (awaitedMonitor k) s = modRef k startedMonitor s := modRef_congr (if_pos present)
    rw [as, enterChecking_calms, modRef_modRef]
    rfl
  · rename_i lost
    have as : modRef k (awaitedMonitor k) s = modRef k (absentMonitor k) s := modRef_congr (if_neg lost)
    rw [as, enterAbsent_calms, modRef_modRef]
    rfl

end Timers

/-- Settles O54. -/
theorem monitorTimersExpire : Obligations.MonitorTimersExpire := by
  refine fun k s => ⟨fun idle => congrArg Host.Outcome.next (qualifies_idle idle),
    fun idle => congrArg Host.Outcome.next (waitEnds_idle idle), fun due checking => ?_, fun due failed => ?_⟩
  · have monitors := calm_written (qualifies_calms due checking)
    have own := monitors k
    rw [if_pos rfl] at own
    exact ⟨_, rfl, own, fun j hj => (monitors j).trans (by rw [if_neg hj]; rfl), by simp⟩
  · have monitors := calm_written (waitEnds_calms due failed)
    have own := monitors k
    rw [if_pos rfl] at own
    refine ⟨_, rfl, (congrArg Monitor.state own).trans ?_, (congrArg Monitor.failCause own).trans ?_,
      (congrArg Monitor.wait own).trans ?_, fun j hj => (monitors j).trans (by rw [if_neg hj]; rfl), by simp⟩
    all_goals
      unfold awaitedMonitor
      split <;> rfl

/-! ## Loss (R23, R25) -/

/-- A monitor that a check or a loss fails, if it judges (R25). -/
def failing (c : FailCause) (m : Monitor) : Monitor := if judging m then failedMonitor c m else m

/-- A monitor whose loss is declared (R23). -/
def lostMonitor (m : Monitor) : Monitor := failing .loss { m with signal := false }

theorem failSlot_calms (c : FailCause) (k : Slot) (s : State) :
    calms (failSlot c k s).refs = calms (modRef k (failing c) s).refs := by
  funext j
  show calm ((failSlot c k s).ref j) = calm ((modRef k (failing c) s).ref j)
  rw [failSlot_calm, modRef_ref]
  by_cases e : j = k <;> simp [afterFail, failing, e]

theorem declareLoss_calms {k : Slot} {s : State} (h : (s.ref k).signal = true) :
    calms (declareLoss k s).refs = calms (modRef k lostMonitor s).refs := by
  unfold declareLoss
  dsimp only
  rw [if_pos h, failSlot_calms]
  have same (t : State) : calms (modRef k (failing .loss) (monitorConditions k t)).refs
      = calms (modRef k (failing .loss) t).refs := by
    simp [modRef, State.setRef, State.ref]
  rw [same, modRef_modRef]
  rfl

theorem lostMonitor_signal (m : Monitor) : (lostMonitor m).signal = false := by
  unfold lostMonitor failing
  split <;> rfl

theorem lostMonitor_judging {m : Monitor} (h : judging m = true) :
    (lostMonitor m).state = .failed ∧ (lostMonitor m).failCause = some .loss := by
  unfold lostMonitor failing
  have still : judging { m with signal := false } = true := h
  rw [if_pos still]
  exact ⟨rfl, rfl⟩

theorem lostMonitor_state {m : Monitor} (h : judging m = false) : (lostMonitor m).state = m.state := by
  unfold lostMonitor failing
  have still : judging { m with signal := false } = false := h
  rw [still]
  rfl

/-! ## Satellite windows (R26) -/

theorem judgesEpochs_iff {m : Monitor} :
    judgesEpochs m = true ↔ m.state = .checking ∨ m.state = .qualified ∨ m.state = .failed := by
  simp [judgesEpochs]

/-- A monitor whose window has closed: the next one opens (R26). -/
def reopened (w : SatWindow) (m : Monitor) : Monitor :=
  { m with window := some { second := w.second + 1, pulses := 0 } }

section Window

variable {k : SatSlot} {s : State} {w : SatWindow}

theorem exec_satWindowClose (hp : s.part ≠ .loading) (hf : 500000000000 ≤ s.time.frac) :
    exec (.satWindowClose k) s = .next (closeWindow k s) := by
  have stays : advanceTo Config.half s = s := by
    unfold advanceTo
    have past : ¬ s.time.frac < Config.half := Nat.not_lt.mpr hf
    simp [past]
  show Host.Outcome.next (if s.started then closeWindow k (advanceTo Config.half s) else s) = _
  rw [stays, if_pos (started_iff.mpr hp)]

/-- A window that the count has passed the close of is judged. -/
theorem closeWindow_reached (hw : (s.ref (satSlot k)).window = some w) (hb : w.second = s.time.base)
    (hf : 500000000000 ≤ s.time.frac) (hj : judgesEpochs (s.ref (satSlot k)) = true) :
    closeWindow k s = if w.pulses = 1 then goodEpoch (satSlot k) (modRef (satSlot k) (reopened w) s)
      else missEpoch 3 (satSlot k) (modRef (satSlot k) (reopened w) s) := by
  have reached : windowReached s (satSlot k) = some w := by
    unfold windowReached
    rw [hw]
    exact if_pos ⟨hb, hf⟩
  have judges : judgesEpochs ((modRef (satSlot k) (reopened w) s).ref (satSlot k)) = true := by
    rw [modRef_ref, if_pos rfl]
    exact hj
  unfold closeWindow
  rw [reached]
  exact if_pos judges

end Window

theorem missedEpoch_eq (m : Monitor) : missedEpoch m =
    { m with missing := min 65535 (m.missing + 1), totalMissing := min 65535 (m.totalMissing + 1) } := by
  unfold missedEpoch
  rw [satSucc_eq_min, satSucc_eq_min]

theorem missEpoch_below {limit : Nat} {k : Slot} {s : State} (h : (s.ref k).missing + 1 < limit) :
    missEpoch limit k s = modRef k missedEpoch s := by
  unfold missEpoch
  dsimp only
  rw [if_neg]
  rw [modRef_ref, if_pos rfl]
  rw [missedEpoch_eq]
  dsimp only
  omega

theorem missEpoch_reached {limit : Nat} {k : Slot} {s : State} (h : limit ≤ (s.ref k).missing + 1)
    (hl : limit ≤ 65535) : missEpoch limit k s = declareLoss k (modRef k missedEpoch s) := by
  unfold missEpoch
  dsimp only
  rw [if_pos]
  rw [modRef_ref, if_pos rfl]
  rw [missedEpoch_eq]
  dsimp only
  omega

/-- Settles O52. -/
theorem satelliteWindowsAreJudged : Obligations.SatelliteWindowsAreJudged := by
  intro k s w hp m next hw hb hf hj
  have run := exec_satWindowClose (k := k) hp hf
  rw [closeWindow_reached hw hb hf (judgesEpochs_iff.mpr hj)] at run
  have missing : ((modRef (satSlot k) (reopened w) s).ref (satSlot k)).missing = m.missing := by
    rw [modRef_ref, if_pos rfl]
    rfl
  refine ⟨fun one => ?_, fun other below => ?_, fun other third signal => ?_⟩
  · rw [run, if_pos one, goodEpoch, modRef_modRef]
    rfl
  · have count : min 65535 (m.missing + 1) = m.missing + 1 := by omega
    rw [run, if_neg other, missEpoch_below (by omega), modRef_modRef, modRef, Function.comp_apply,
      missedEpoch_eq, ← count]
    rfl
  · rw [if_neg other, missEpoch_reached (by omega) (by decide), modRef_modRef] at run
    have before : (modRef (satSlot k) (missedEpoch ∘ reopened w) s).ref (satSlot k)
        = missedEpoch (reopened w m) := by
      rw [modRef_ref, if_pos rfl]
      rfl
    have judges (h : m.state ≠ .failed) : judging (missedEpoch (reopened w m)) = true := by
      have judged : m.state = .checking ∨ m.state = .qualified := by simpa [h] using hj
      exact judging_iff.mpr judged
    have own := calm_written (declareLoss_calms (k := satSlot k)
      (s := modRef (satSlot k) (missedEpoch ∘ reopened w) s) (by rw [before]; exact signal)) (satSlot k)
    rw [if_pos rfl, before] at own
    refine ⟨_, run, (congrArg Monitor.signal own).trans (lostMonitor_signal _),
      (congrArg Monitor.state own).trans ?_, fun h => (congrArg Monitor.failCause own).trans ?_, by simp⟩
    · by_cases h : m.state = .failed
      · exact (lostMonitor_state (m := missedEpoch (reopened w m))
          (by simp [judging, missedEpoch, reopened, h])).trans h
      · exact (lostMonitor_judging (judges h)).1
    · exact (lostMonitor_judging (judges h)).2

/-! ## Level (R30 to R32) -/

section Level

variable {k : Slot} {s : State} {value : Int}

theorem demandRaise_below {immediate : Bool} (h : (s.ref k).level < levelMax (s.ref k).config) :
    demandRaise immediate k s = modRef k (raisedMonitor immediate) s := if_pos h

theorem demandRaise_ceiling {immediate : Bool} (h : levelMax (s.ref k).config ≤ (s.ref k).level) :
    demandRaise immediate k s = failSlot .wander k s := if_neg (Nat.not_lt.mpr h)

/-- A demanded raise at the level ceiling fails the slot, and leaves its level and its counts (R25, R31). -/
theorem demandRaise_fails {immediate : Bool} (h : levelMax (s.ref k).config ≤ (s.ref k).level)
    (hj : judging (s.ref k) = true) :
    calm ((demandRaise immediate k s).ref k) = calm (failedMonitor .wander (s.ref k)) := by
  rw [demandRaise_ceiling h, failSlot_calm, afterFail, if_pos ⟨rfl, hj⟩]

/-- The monitor whose observation period has just ended (R32). -/
def periodTaken (m : Monitor) : Monitor := { m with period := m.period.taken }

/-- What the count of the period's violations does to the level (R32). -/
def periodJudged (k : Slot) (count : Nat) (s : State) : State :=
  if (s.ref k).config.delayed ≤ count then demandRaise false k s
  else if count = 0 then modRef k loweredMonitor s
  else s

/-- A new period begins, if the monitor still judges (R32). -/
def periodBegun (k : Slot) (s : State) : State :=
  if judging (s.ref k) then modRef k newPeriod s else s

theorem periodTaken_ref : (modRef k periodTaken s).ref k = periodTaken (s.ref k) := by
  rw [modRef_ref, if_pos rfl]

theorem periodEnds_idle (h : (s.ref k).period.due = false
    ∨ (s.ref k).state ≠ .checking ∧ (s.ref k).state ≠ .qualified) : periodEnds k s = s := by
  unfold periodEnds
  rw [if_neg]
  simp only [Bool.and_eq_true, judging_iff, not_and, not_or]
  intro due
  rcases h with h | h
  · rw [h] at due; cases due
  · exact h

theorem periodEnds_due (due : (s.ref k).period.due = true) (hj : judging (s.ref k) = true) :
    periodEnds k s = periodBegun k (periodJudged k (s.ref k).periodCount (modRef k periodTaken s)) :=
  if_pos (by rw [due, hj]; rfl)

/-- A period whose count of violations writes the monitor alone ends with the next one (R32). -/
theorem periodEnds_written {f : Monitor → Monitor} (due : (s.ref k).period.due = true)
    (hj : judging (s.ref k) = true)
    (judged : periodJudged k (s.ref k).periodCount (modRef k periodTaken s)
      = modRef k f (modRef k periodTaken s))
    (still : (f (periodTaken (s.ref k))).state = (s.ref k).state) :
    periodEnds k s = s.setRef k (newPeriod (f (periodTaken (s.ref k)))) := by
  rw [periodEnds_due due hj, judged, modRef_modRef]
  unfold periodBegun
  rw [if_pos, modRef_modRef]
  · rfl
  · rw [modRef_ref, if_pos rfl]
    unfold judging at hj ⊢
    rwa [Function.comp_apply, still]

theorem periodEnds_kept (due : (s.ref k).period.due = true) (hj : judging (s.ref k) = true)
    (few : (s.ref k).periodCount < (s.ref k).config.delayed) (present : 0 < (s.ref k).periodCount) :
    periodEnds k s = s.setRef k (newPeriod (s.ref k)) := by
  refine periodEnds_written (f := id) due hj ?_ rfl
  unfold periodJudged
  rw [periodTaken_ref]
  exact (if_neg (Nat.not_le.mpr few)).trans ((if_neg (Nat.ne_of_gt present)).trans (modRef_of_same rfl).symm)

theorem periodEnds_lowered (due : (s.ref k).period.due = true) (hj : judging (s.ref k) = true)
    (quiet : (s.ref k).periodCount = 0) (delayed : 0 < (s.ref k).config.delayed) :
    periodEnds k s = s.setRef k (newPeriod (loweredMonitor (s.ref k))) := by
  refine periodEnds_written (f := loweredMonitor) due hj ?_ rfl
  unfold periodJudged
  rw [periodTaken_ref, quiet]
  exact (if_neg (Nat.not_le.mpr delayed)).trans (if_pos rfl)

theorem periodEnds_raised (due : (s.ref k).period.due = true) (hj : judging (s.ref k) = true)
    (many : (s.ref k).config.delayed ≤ (s.ref k).periodCount)
    (below : (s.ref k).level < levelMax (s.ref k).config) :
    periodEnds k s = s.setRef k (newPeriod (raisedMonitor false (s.ref k))) := by
  refine periodEnds_written (f := raisedMonitor false) due hj ?_ rfl
  unfold periodJudged
  rw [periodTaken_ref]
  exact (if_pos many).trans (demandRaise_below (by rw [periodTaken_ref]; exact below))

theorem periodEnds_fails (due : (s.ref k).period.due = true) (hj : judging (s.ref k) = true)
    (many : (s.ref k).config.delayed ≤ (s.ref k).periodCount)
    (ceiling : levelMax (s.ref k).config ≤ (s.ref k).level) :
    calm ((periodEnds k s).ref k) = calm (failedMonitor .wander (periodTaken (s.ref k))) := by
  have fails := demandRaise_fails (immediate := false) (k := k) (s := modRef k periodTaken s)
    (by rw [periodTaken_ref]; exact ceiling) (by rw [periodTaken_ref]; exact hj)
  rw [periodTaken_ref] at fails
  have judged : periodJudged k (s.ref k).periodCount (modRef k periodTaken s)
      = demandRaise false k (modRef k periodTaken s) := by
    unfold periodJudged
    rw [periodTaken_ref]
    exact if_pos many
  have state : ((demandRaise false k (modRef k periodTaken s)).ref k).state = .failed :=
    congrArg Monitor.state fails
  rw [periodEnds_due due hj, judged]
  unfold periodBegun
  rw [if_neg (by simp [judging, state])]
  exact fails

/-! ### Violations (R30) -/

theorem violates_iff : violates k value (s.ref k) = true ↔ (s.ref k).skipNext = false ∧
    ∃ v, lastValue k (s.ref k) = some v ∧ wanderLimit (s.ref k).config (s.ref k).level < (value - v).natAbs := by
  unfold violates
  split
  · rename_i v hv
    simp [hv]
  · rename_i hv
    simp [hv]

theorem wanderJudge_idle (h : ¬ violates k value (s.ref k) = true) : wanderJudge k value s = s := if_neg h

theorem violatedMonitor_eq (m : Monitor) : violatedMonitor m =
    { m with
      periodCount := min 15 (m.periodCount + 1), totalViolations := min 255 (m.totalViolations + 1) } := by
  unfold violatedMonitor
  rw [satSucc_eq_min, satSucc_eq_min]

theorem violated_ref : (modRef k violatedMonitor s).ref k = violatedMonitor (s.ref k) := by
  rw [modRef_ref, if_pos rfl]

theorem wanderJudge_counted (h : violates k value (s.ref k) = true)
    (few : min 15 ((s.ref k).periodCount + 1) < (s.ref k).config.immediate) :
    wanderJudge k value s = modRef k violatedMonitor s := by
  unfold wanderJudge
  rw [if_pos h]
  dsimp only
  rw [if_neg]
  rw [violated_ref, violatedMonitor_eq]
  exact Nat.not_le.mpr few

theorem wanderJudge_demands (h : violates k value (s.ref k) = true)
    (many : (s.ref k).config.immediate ≤ min 15 ((s.ref k).periodCount + 1)) :
    wanderJudge k value s = demandRaise true k (modRef k violatedMonitor s) := by
  unfold wanderJudge
  rw [if_pos h]
  dsimp only
  rw [if_pos]
  rw [violated_ref, violatedMonitor_eq]
  exact many

end Level

/-- Settles O55. -/
theorem observationPeriodsMoveTheLevel : Obligations.ObservationPeriodsMoveTheLevel := by
  intro k s m fresh qualify
  refine ⟨fun idle => congrArg Host.Outcome.next (periodEnds_idle idle),
    fun due hj few present =>
      congrArg Host.Outcome.next (periodEnds_kept due (judging_iff.mpr hj) few present),
    fun due hj quiet delayed =>
      congrArg Host.Outcome.next (periodEnds_lowered due (judging_iff.mpr hj) quiet delayed),
    fun due hj many below =>
      congrArg Host.Outcome.next (periodEnds_raised due (judging_iff.mpr hj) many below),
    fun due hj many ceiling => ?_, ?_⟩
  · have own := periodEnds_fails due (judging_iff.mpr hj) many ceiling
    exact ⟨_, rfl, congrArg Monitor.state own, congrArg Monitor.failCause own,
      (congrArg Monitor.level own).trans rfl, by simp⟩
  · intro value last count total
    refine ⟨fun h => wanderJudge_idle fun g => ?_, fun v hv within => wanderJudge_idle fun g => ?_,
      fun v hv counts beyond => ?_⟩
    · obtain ⟨skip, v, hv, -⟩ := violates_iff.mp g
      rcases h with h | h
      · exact absurd (h.symm.trans hv) (by simp)
      · exact absurd (h.symm.trans skip) (by simp)
    · obtain ⟨-, u, hu, beyond⟩ := violates_iff.mp g
      cases hv.symm.trans hu
      exact absurd within (Nat.not_le.mpr beyond)
    · have violation : violates k value (s.ref k) = true := violates_iff.mpr ⟨counts, v, hv, beyond⟩
      refine ⟨fun few => ?_, fun many below => ?_, fun many ceiling hj => ?_⟩
      · rw [wanderJudge_counted violation few, modRef, violatedMonitor_eq]
      · rw [wanderJudge_demands violation many, demandRaise_below (by rw [violated_ref]; exact below),
          modRef_modRef, modRef, Function.comp_apply, violatedMonitor_eq]
        rfl
      · have own := demandRaise_fails (immediate := true) (k := k) (s := modRef k violatedMonitor s)
          (by rw [violated_ref]; exact ceiling) (by rw [violated_ref]; exact judging_iff.mpr hj)
        rw [violated_ref, violatedMonitor_eq] at own
        intro t
        have run : t = demandRaise true k (modRef k violatedMonitor s) := wanderJudge_demands violation many
        rw [run]
        exact ⟨congrArg Monitor.state own, congrArg Monitor.failCause own,
          (congrArg Monitor.level own).trans rfl, (congrArg Monitor.totalViolations own).trans rfl, by simp⟩

end Sys2Proof.Machine
end

section
set_option Elab.async false

namespace Sys2Proof.Machine

open Sys2Proof.Safety

/-! ## Samples (R45, R47, R48) -/

theorem sampleInRange_iff {sequence delay : Nat} {offset : Int} :
    sampleInRange sequence offset delay = true
      ↔ ¬ (65535 < sequence ∨ 9000000000000000000 < offset.natAbs ∨ 1000000000 < delay) := by
  have limit : maxOffset = 9000000000000000000 := rfl
  simp only [sampleInRange, inRange, Bool.and_eq_true, decide_eq_true_eq]
  omega

/-- A sample that joins the window is in it, and the window keeps its room (R48). -/
theorem mem_joinWindow (x : Sample) (w : List Sample) : x ∈ joinWindow x w := by
  simp [joinWindow]

theorem length_joinWindow (x : Sample) {w : List Sample} (h : w.length ≤ 64) :
    (joinWindow x w).length ≤ 64 := by
  have fewer := List.length_filter_le (fun y : Sample => decide (y.sequence ≠ x.sequence)) w
  have size : Config.windowSize = 64 := rfl
  unfold joinWindow
  dsimp only
  split
  all_goals
    simp only [List.length_append, List.length_drop, List.length_singleton]
    omega

section Judgements

variable (x : Sample) (f : Filter)

theorem filterJudged_disabled : filterJudged .disabled x f
    = { f with disabled := min 65535 (f.disabled + 1) } := by
  rw [filterJudged, satSucc_eq_min]

theorem filterJudged_old : filterJudged .old x f = { f with old := min 65535 (f.old + 1) } := by
  rw [filterJudged, satSucc_eq_min]

theorem filterJudged_delayHigh : filterJudged .delayHigh x f
    = { f with delayHigh := min 65535 (f.delayHigh + 1) } := by
  rw [filterJudged, satSucc_eq_min]

theorem filterJudged_accepted : filterJudged .accepted x f
    = { f with
        accepted := min 65535 (f.accepted + 1)
        lost := min 65535 (f.lost + skippedSequences f.lastSequence x.sequence)
        lastSequence := some x.sequence
        window := joinWindow x f.window } := by
  rw [filterJudged, satSucc_eq_min]
  rfl

end Judgements

section Judged

variable {x : Sample} {s : State}

theorem sampleVerdict_enabled (h : (s.ref .pkt).state ≠ .disabled) :
    sampleVerdict (decide ((s.ref .pkt).state = .disabled)) x.sequence x.delay s.filter
      = if !newerSequence s.filter.lastSequence x.sequence then .old
        else if s.filter.config.ceiling < x.delay then .delayHigh else .accepted := by
  simp [sampleVerdict, h]

/-- A sample that is not accepted is counted (R47). -/
theorem judgeSample_rejected {v : SampleResult} (h : v ≠ .accepted)
    (hv : sampleVerdict (decide ((s.ref .pkt).state = .disabled)) x.sequence x.delay s.filter = v) :
    judgeSample x s = (s.setFilter (filterJudged v x s.filter), v) := by
  unfold judgeSample
  rw [hv]
  exact if_neg h

/-- An accepted sample is a signal event of the PKT slot (R23, R48). -/
theorem judgeSample_accepted
    (hv : sampleVerdict (decide ((s.ref .pkt).state = .disabled)) x.sequence x.delay s.filter = .accepted) :
    judgeSample x s
      = (signalAppears .pkt (s.setFilter (filterJudged .accepted x s.filter)), .accepted) := by
  unfold judgeSample
  rw [hv]
  exact if_pos rfl

end Judged

/-- The monitor of a slot at which a signal event arrives (R23). -/
theorem signalAppears_present {k : Slot} {s : State} (hd : (s.ref k).state ≠ .disabled) :
    ((signalAppears k s).ref k).signal = true
      ∧ ((s.ref k).state = .absent → (s.ref k).signal = false →
          ((signalAppears k s).ref k).state = .checking) := by
  by_cases hs : (s.ref k).signal = true
  · rw [signalAppears_same hs]
    exact ⟨hs, fun _ lost => absurd (hs.symm.trans lost) (by simp)⟩
  · have own := signalAppears_calm hd hs
    refine ⟨(congrArg Monitor.signal own).trans ?_, fun absent _ => (congrArg Monitor.state own).trans ?_⟩
    · show (appeared (s.ref k)).signal = true
      unfold appeared
      split <;> rfl
    · show (appeared (s.ref k)).state = .checking
      unfold appeared
      rw [if_pos absent]
      rfl

theorem requestSample_outside {sequence delay : Nat} {offset : Int} {grade : Grade} {s : State}
    (bad : 65535 < sequence ∨ 9000000000000000000 < offset.natAbs ∨ 1000000000 < delay) :
    requestSample sequence offset delay grade s = refuse .invalid s := by
  unfold requestSample
  rw [if_neg fun g => sampleInRange_iff.mp g bad]

/-- A sample in range is answered with its verdict and the entries that the window then holds (R45). -/
theorem requestSample_judged {x : Sample} {s t : State} {v : SampleResult}
    (good : ¬ (65535 < x.sequence ∨ 9000000000000000000 < x.offset.natAbs ∨ 1000000000 < x.delay))
    (arrival : x.arrival = s.time.base) (h : judgeSample x s = (t, v)) :
    requestSample x.sequence x.offset x.delay x.grade s
      = (t, okWith (putSampleResult v ++ putU 1 t.filter.window.length)) := by
  unfold requestSample
  rw [if_pos (sampleInRange_iff.mpr good), ← arrival]
  dsimp only
  rw [h]

/-- Settles O27. -/
theorem sampleIsJudgedInOrder : Obligations.SampleIsJudgedInOrder := by
  intro tag sequence offset delay grade s h bad x reply
  have replied {t : State} {v : SampleResult} (good : ¬ bad) (e : judgeSample x s = (t, v))
      (hl : t.link = s.link) : exec (.sample tag sequence offset delay grade) s
        = .next (t.setLink (reply v t.filter)) :=
    congrArg Host.Outcome.next (takeTyped_okWith h 0x10 tag (requestSample_judged (x := x) good rfl e) hl)
  refine ⟨fun bad => refusal_answers h 0x10 tag (requestSample_outside bad), fun good off => ?_,
    fun good on old => ?_, fun good on newer high => ?_, fun good on newer low => ?_⟩
  · have verdict : sampleVerdict (decide ((s.ref .pkt).state = .disabled)) x.sequence x.delay s.filter
        = .disabled := by simp [sampleVerdict, off]
    rw [replied good (judgeSample_rejected (by decide) verdict) rfl, filterJudged_disabled]
    rfl
  · have verdict : sampleVerdict (decide ((s.ref .pkt).state = .disabled)) x.sequence x.delay s.filter
        = .old := by rw [sampleVerdict_enabled on, old]; rfl
    rw [replied good (judgeSample_rejected (by decide) verdict) rfl, filterJudged_old]
    rfl
  · have verdict : sampleVerdict (decide ((s.ref .pkt).state = .disabled)) x.sequence x.delay s.filter
        = .delayHigh := by rw [sampleVerdict_enabled on, newer]; exact if_pos high
    rw [replied good (judgeSample_rejected (by decide) verdict) rfl, filterJudged_delayHigh]
    rfl
  · have verdict : sampleVerdict (decide ((s.ref .pkt).state = .disabled)) x.sequence x.delay s.filter
        = .accepted := by rw [sampleVerdict_enabled on, newer]; exact if_neg (Nat.not_lt.mpr low)
    have filter : (signalAppears .pkt (s.setFilter (filterJudged .accepted x s.filter))).filter
        = filterJudged .accepted x s.filter := by simp
    obtain ⟨present, checking⟩ := signalAppears_present (k := .pkt)
      (s := s.setFilter (filterJudged .accepted x s.filter)) on
    refine ⟨_, replied good (judgeSample_accepted verdict) (by simp),
      filter.trans (filterJudged_accepted x s.filter), ?_, fun room => ?_, present, checking,
      fun signal => ?_, rfl, by simp⟩
    · show x ∈ Filter.window (State.filter _)
      rw [State.setLink_filter, filter, filterJudged_accepted]
      exact mem_joinWindow x _
    · show (Filter.window (State.filter _)).length ≤ 64
      rw [State.setLink_filter, filter, filterJudged_accepted]
      exact length_joinWindow x room
    · have same : signalAppears .pkt (s.setFilter (filterJudged .accepted x s.filter))
          = s.setFilter (filterJudged .accepted x s.filter) := signalAppears_same signal
      rw [same]
      rfl

end Sys2Proof.Machine
end

section
set_option Elab.async false

namespace Sys2Proof.Machine

open Sys2Proof.Safety

/-! ## Line clocks: edges and silences (R23, R27) -/

section LineClock

variable {k : LineSlot} {s : State}

theorem exec_lineEdge {n : Nat} (hp : s.part ≠ .loading) :
    exec (.lineEdge k 0 n) s = .next (lineEdgeArrives k n s) := by
  show Host.Outcome.next (if s.started then lineEdgeArrives k n (advanceTo 0 s) else s) = _
  rw [advanceTo_zero, if_pos (started_iff.mpr hp)]

theorem lineEdgeArrives_disabled {n : Nat} (h : (s.ref (lineSlot k)).state = .disabled) :
    lineEdgeArrives k n s = s := if_pos (.inl h)

theorem lineEdgeArrives_enabled {n : Nat} (h : (s.ref (lineSlot k)).state ≠ .disabled) (hn : 0 < n) :
    lineEdgeArrives k n s = lineEdgeTaken k n s := if_neg (by simp [h, Nat.ne_of_gt hn])

/-- An edge while the signal is present is only counted (R27). -/
theorem lineEdgeTaken_further {n : Nat} (h : (s.ref (lineSlot k)).signal = true) :
    lineEdgeTaken k n s = modRef (lineSlot k) (edgedMonitor n) s := by
  unfold lineEdgeTaken
  dsimp only
  rw [signalAppears_same h, h]
  rfl

/-- The first edge after a loss is a signal event, and returns the missing-epoch count to 0 (R23, R27). -/
theorem lineEdgeTaken_first {n : Nat} (hd : (s.ref (lineSlot k)).state ≠ .disabled)
    (h : (s.ref (lineSlot k)).signal = false) : calm ((lineEdgeTaken k n s).ref (lineSlot k))
      = calm (edgedMonitor n { appeared (s.ref (lineSlot k)) with missing := 0 }) := by
  have own := signalAppears_calm hd (by simp [h])
  unfold lineEdgeTaken
  dsimp only
  rw [h, goodEpoch]
  simp only [Bool.not_false, if_true]
  rw [modRef_modRef, modRef_ref, if_pos rfl]
  exact congrArg (fun m => calm (edgedMonitor n { m with missing := 0 })) own

theorem lineLoss_started (hp : s.part ≠ .loading) (h : (s.ref (lineSlot k)).signal = true) :
    lineLoss k s = lineLossTaken k
      (advanceTo (s.time.frac + (1000000000 - (s.ref (lineSlot k)).line.sinceEdge)) s) :=
  if_pos (by rw [started_iff.mpr hp, h]; rfl)

theorem lineLoss_lost (h : (s.ref (lineSlot k)).signal = false) : lineLoss k s = s :=
  if_neg (by simp [h])

theorem lineLossTaken_before (h : (s.ref (lineSlot k)).line.sinceEdge < 1000000000) :
    lineLossTaken k s = s := if_neg fun g => absurd g.2 (Nat.not_le.mpr h)

/-- A silence of 1 ms empties the ring and declares loss (R27). -/
theorem lineLossTaken_silent (signal : (s.ref (lineSlot k)).signal = true)
    (silent : 1000000000 ≤ (s.ref (lineSlot k)).line.sinceEdge) :
    ((lineLossTaken k s).ref (lineSlot k)).signal = false ∧ ((lineLossTaken k s).ref (lineSlot k)).ring = []
      ∧ ((s.ref (lineSlot k)).state = .checking ∨ (s.ref (lineSlot k)).state = .qualified →
          ((lineLossTaken k s).ref (lineSlot k)).state = .failed
            ∧ ((lineLossTaken k s).ref (lineSlot k)).failCause = some .loss) := by
  have emptied : (modRef (lineSlot k) lostLine s).ref (lineSlot k) = lostLine (s.ref (lineSlot k)) := by
    rw [modRef_ref, if_pos rfl]
  have run : lineLossTaken k s = declareLoss (lineSlot k) (modRef (lineSlot k) lostLine s) :=
    if_pos ⟨signal, silent⟩
  have own := calm_written (declareLoss_calms (k := lineSlot k) (s := modRef (lineSlot k) lostLine s)
    (by rw [emptied]; exact signal)) (lineSlot k)
  rw [if_pos rfl, emptied, ← run] at own
  refine ⟨(congrArg Monitor.signal own).trans (lostMonitor_signal _), (congrArg Monitor.ring own).trans ?_,
    fun hj => ?_⟩
  · show (lostMonitor _).ring = []
    unfold lostMonitor failing
    split <;> rfl
  · have judges : judging (lostLine (s.ref (lineSlot k))) = true := judging_iff.mpr hj
    obtain ⟨state, cause⟩ := lostMonitor_judging judges
    exact ⟨(congrArg Monitor.state own).trans state, (congrArg Monitor.failCause own).trans cause⟩

theorem advanceTo_not_ahead {t : Nat} (h : ¬ s.time.frac < t) : advanceTo t s = s := by
  simp [advanceTo, h]

theorem advanceTo_beyond {t : Nat} (h : 1000000000000 ≤ t) : advanceTo t s = s := by
  have beyond : ¬ t < Config.second := Nat.not_lt.mpr h
  simp [advanceTo, beyond]

/-- A run of the count within its second that nothing disturbs (R2, R26). -/
theorem advanceTo_undisturbed {t : Nat} (u : Undisturbed t s) (hc : counting s = true)
    (h : s.time.frac < t) (ht : t < 1000000000000) : advanceTo t s = countPicos (t - s.time.frac) s := by
  have within : t < Config.second := ht
  unfold advanceTo
  rw [if_pos (by simp [hc, h, within]), u.settled, runPast_undisturbed u hc ht, runTo_of_counting hc h ht]

theorem countPicos_line (n : Nat) (k : LineSlot) (s : State) :
    (countPicos n s).ref (lineSlot k) = lineCounted n (s.ref (lineSlot k)) := by
  cases k <;> rfl

end LineClock

/-! ## Line clocks at a boundary (R27) -/

/-- What the marking of a boundary does to the monitor of a slot. -/
theorem countTimers_ref (counted : Nat) (k : Slot) (s : State) :
    (countTimers counted s).ref k = countMonitor counted k (s.ref k) := by
  simp [countTimers, State.ref, mapRefs_get]

theorem isLine_lineSlot (k : LineSlot) : isLine (lineSlot k) = true := by
  cases k <;> rfl

/-- What a boundary's timers leave of a monitor: its ring, its line input and its signal. -/
def lineSide (m : Monitor) : List Int × LineInput × Bool := (m.ring, m.line, m.signal)

theorem tickMonitor_lineSide (k : Slot) (m : Monitor) : lineSide (tickMonitor k m) = lineSide m := by
  unfold tickMonitor
  split <;> rfl

theorem countTimers_lineSide (counted : Nat) (k : LineSlot) (s : State) :
    lineSide ((countTimers counted s).ref (lineSlot k))
      = lineSide (lineBoundary counted (s.ref (lineSlot k))) := by
  rw [countTimers_ref, countMonitor, tickMonitor_lineSide, if_pos (isLine_lineSlot k)]

/-- Nominal periods of a whole number of picoseconds are taken at it, others at a neighbouring one (R27). -/
theorem periodsPhase_near {n f : Nat} (hf : 0 < f) :
    ((periodsPhase n f * f : Nat) : Int) - ((n * 1000000000000 : Nat) : Int) < f
      ∧ ((n * 1000000000000 : Nat) : Int) - ((periodsPhase n f * f : Nat) : Int) < f := by
  have whole : n * 1000000000000 / f * f + n * 1000000000000 % f = n * 1000000000000 :=
    Nat.div_add_mod' _ _
  have part : n * 1000000000000 % f < f := Nat.mod_lt _ hf
  have above : (n * 1000000000000 / f + 1) * f = n * 1000000000000 / f * f + f := Nat.succ_mul _ _
  unfold periodsPhase
  dsimp only [Config.second]
  split
  · omega
  · split
    · rw [above]; omega
    · omega

section Boundary

variable {counted : Nat} {m : Monitor}

/-- The interval that ends at the boundary gives its accumulation, unless a phase step fell in it (R27). -/
theorem lineBoundary_accumulates {a : Int} {r0 : Nat} (hj : judgesEpochs m = true) (signal : m.signal = true)
    (acc : accumulation counted m = some a) (ref : m.line.reference = some r0) :
    lineSide (lineBoundary counted m) =
      (if m.line.stepped then m.ring else joinRing a m.ring,
        { m.line with
          edges := 0, reference := some m.line.sinceEdge, stepped := false
          fresh := decide ((if m.line.stepped then m.ring else joinRing a m.ring).length = 16)
            && !m.line.stepped },
        true) := by
  unfold lineBoundary
  rw [if_pos (by rw [hj, signal]; rfl), acc, ref]
  simp [lineSide, signal]

/-- An interval that began without a signal, or whose signal is lost, gives no accumulation (R27). -/
theorem lineBoundary_idle (h : m.line.reference = none ∨ m.signal = false) :
    ∃ r, lineSide (lineBoundary counted m)
      = (m.ring, { m.line with edges := 0, reference := r, stepped := false, fresh := false }, m.signal) := by
  unfold lineBoundary
  split
  · rename_i judges
    have here : m.signal = true := (Bool.and_eq_true_iff.mp judges).2
    have began : m.line.reference = none := h.resolve_right (by simp [here])
    exact ⟨some m.line.sinceEdge, by simp [lineSide, accumulation, began]⟩
  · exact ⟨none, rfl⟩

end Boundary

section Epoch

variable {n : Nat} {k : LineSlot} {s : State}

theorem lineEpoch_disabled (h : (s.ref (lineSlot k)).state = .disabled) : lineEpoch k s = s := if_pos h

/-- A boundary without a signal is a missing epoch (R27). -/
theorem lineEpoch_missed (hd : (s.ref (lineSlot k)).state ≠ .disabled)
    (h : (s.ref (lineSlot k)).signal = false) : lineEpoch k s = modRef (lineSlot k) missedEpoch s := by
  unfold lineEpoch
  dsimp only
  rw [if_neg hd, h]
  rfl

/-- A boundary that gave an accumulation to a full ring is a measurement of its mean (R27). -/
theorem lineEpoch_measures (hd : (s.ref (lineSlot k)).state ≠ .disabled)
    (h : (s.ref (lineSlot k)).signal = true) : lineEpoch k s
      = if (s.ref (lineSlot k)).line.fresh then takeMeasurement (lineSlot k)
          { value := ringError (s.ref (lineSlot k)), ds := none, grade := none, allowance := none } s
        else s := by
  unfold lineEpoch
  dsimp only
  rw [if_neg hd, h]
  rfl

end Epoch

/-- Settles O53. -/
theorem lineClocksAreTimed : Obligations.LineClocksAreTimed := by
  intro k s hp m
  refine ⟨fun off n => ?_, fun on signal n hn => ?_, fun on lost n hn => ?_, fun lost => ?_,
    fun signal silent => ?_, fun signal before => ⟨fun held => ?_, fun running within u => ?_⟩,
    fun n => ⟨lineEpoch_disabled, fun on lost => ?_, lineEpoch_measures⟩,
    fun counted f r0 nominal hf ref signal hj => ?_, fun counted idle => ?_⟩
  · rw [exec_lineEdge hp, lineEdgeArrives_disabled off]
  · rw [exec_lineEdge hp, lineEdgeArrives_enabled on hn, lineEdgeTaken_further signal]
    rfl
  · have own := lineEdgeTaken_first (n := n) on lost
    refine ⟨_, exec_lineEdge hp, ?_⟩
    rw [lineEdgeArrives_enabled on hn]
    refine ⟨(congrArg Monitor.signal own).trans ?_, congrArg Monitor.missing own,
      congrArg (fun m => m.line.sinceEdge) own, fun absent => (congrArg Monitor.state own).trans ?_,
      fun here => (congrArg Monitor.state own).trans ?_, by simp⟩
    · show (appeared m).signal = true
      unfold appeared
      split <;> rfl
    · show (appeared m).state = .checking
      unfold appeared
      rw [if_pos absent]
      rfl
    · show (appeared m).state = m.state
      unfold appeared
      rw [if_neg here]
  · exact congrArg Host.Outcome.next (lineLoss_lost lost)
  · have run := lineLoss_started hp signal
    have past : 1000000000 - (s.ref (lineSlot k)).line.sinceEdge = 0 := Nat.sub_eq_zero_of_le silent
    rw [past, Nat.add_zero, advanceTo_not_ahead (Nat.lt_irrefl _)] at run
    obtain ⟨lost, ring, fails⟩ := lineLossTaken_silent signal silent
    exact ⟨_, congrArg Host.Outcome.next run, lost, ring, fails, by simp⟩
  · have stays : advanceTo (s.time.frac + (1000000000 - (s.ref (lineSlot k)).line.sinceEdge)) s = s :=
      held.elim (fun e => advanceTo_not_counting (by simp [counting, e])) advanceTo_beyond
    have run := lineLoss_started hp signal
    rw [stays, lineLossTaken_before before] at run
    exact congrArg Host.Outcome.next run
  · have rest : (s.ref (lineSlot k)).line.sinceEdge < 1000000000 := before
    obtain ⟨x, hx⟩ : ∃ x, x = s.time.frac + (1000000000 - (s.ref (lineSlot k)).line.sinceEdge) := ⟨_, rfl⟩
    have ahead : s.time.frac + (x - s.time.frac) = x := by omega
    have run := lineLoss_started hp signal
    have there := countPicos_line (x - s.time.frac) k s
    have time : (countPicos (x - s.time.frac) s).time = { s.time with
        frac := x, counted := s.time.counted + (x - s.time.frac), landed := false
        endOfRange := decide (s.time.base = Config.maxSeconds ∧ x = 999999999999) } := by
      rw [countPicos_eq running, ahead]
    rw [← hx, advanceTo_undisturbed (hx ▸ u) (counting_iff.mpr ⟨hp, running⟩) (by omega)
      (hx.trans_lt within)] at run
    obtain ⟨lost, ring, fails⟩ := lineLossTaken_silent (k := k) (s := countPicos (x - s.time.frac) s)
      (by rw [there]; exact signal) (by rw [there, lineCounted]; dsimp only; omega)
    rw [there] at fails
    refine ⟨_, congrArg Host.Outcome.next run, lost, ring, fails, ?_, by simp, by simp⟩
    dsimp only
    rw [← hx, ← time]
    simp
  · show lineEpoch k s = _
    rw [lineEpoch_missed on lost, modRef, missedEpoch_eq]
  · have near := periodsPhase_near (n := m.line.edges) hf
    have side := (countTimers_lineSide counted k s).trans (lineBoundary_accumulates (counted := counted)
      (judgesEpochs_iff.mpr hj) signal (by rw [accumulation, ref, nominal]) ref)
    simp only [lineSide, Prod.mk.injEq] at side
    obtain ⟨ring, line, present⟩ := side
    have fresh := congrArg LineInput.fresh line
    intro y
    refine ⟨periodsPhase m.line.edges f, near.1, near.2, fun whole => ?_, fun stepped => ?_,
      congrArg LineInput.reference line, congrArg LineInput.edges line, congrArg LineInput.stepped line,
      (congrArg LineInput.sinceEdge line).trans rfl, present⟩
    · have whole : (s.ref (lineSlot k)).line.stepped = false := whole
      rw [whole] at ring fresh
      have joined : y.ring = (((periodsPhase m.line.edges f : Int) + m.line.sinceEdge - r0 - counted)
          :: m.ring).take 16 := by
        rw [Int.add_sub_assoc]
        exact ring
      refine ⟨joined, fresh.trans ?_⟩
      show _ = decide (((countTimers counted s).ref (lineSlot k)).ring.length = 16)
      rw [ring]
      simp
    · have stepped : (s.ref (lineSlot k)).line.stepped = true := stepped
      rw [stepped] at ring fresh
      exact ⟨ring, fresh.trans (Bool.and_false _)⟩
  · obtain ⟨r, side⟩ := lineBoundary_idle (counted := counted) (m := m) idle
    have side := (countTimers_lineSide counted k s).trans side
    simp only [lineSide, Prod.mk.injEq] at side
    obtain ⟨ring, line, signal⟩ := side
    intro y
    exact ⟨ring, congrArg LineInput.fresh line, congrArg LineInput.edges line,
      congrArg LineInput.stepped line, signal⟩

end Sys2Proof.Machine
end

section
set_option Elab.async false

namespace Sys2Proof.Machine

open Sys2Proof.Safety

/-! ## Alarm entries at a restart (R169, R171, R181)

Every condition present is declared as an appearance to an alarm unit whose entries have just been reset. -/

theorem allAlarmKinds_alarmIndex (k : AlarmKind) : allAlarmKinds[(alarmIndex k).val]? = some k := by
  cases k <;> rfl

theorem alarmIndex_inj {j k : AlarmKind} (h : alarmIndex j = alarmIndex k) : j = k := by
  have e := allAlarmKinds_alarmIndex j
  rw [h, allAlarmKinds_alarmIndex] at e
  exact (Option.some.inj e).symm

theorem setGroup_group (u : AlarmUnit) (j k : AlarmKind) (g : AlarmGroup) :
    (u.setGroup k g).group j = if j = k then g else u.group j := by
  unfold AlarmUnit.group AlarmUnit.setGroup
  split
  · rename_i e
    rw [e]
    exact Vector.getElem_set_self _
  · rename_i ne
    exact Vector.getElem_set_ne (alarmIndex k).isLt (alarmIndex j).isLt fun e => ne (alarmIndex_inj (Fin.ext e.symm))

theorem setEntry_config (u : AlarmUnit) (j k : AlarmKind) (n : Nat) (e : AlarmEntry) :
    ((u.setEntry k n e).group j).config = (u.group j).config := by
  unfold AlarmUnit.setEntry
  rw [setGroup_group]
  split
  · rename_i h; rw [h]
  · rfl

theorem setEntry_entry {u : AlarmUnit} {k : AlarmKind} {n : Nat} {x : AlarmEntry} (h : u.entry? k n = some x)
    (e : AlarmEntry) (j : AlarmKind) (i : Nat) :
    (u.setEntry k n e).entry? j i = if (j, i) = (k, n) then some e else u.entry? j i := by
  have inside : n < (u.group k).entries.length := (List.getElem?_eq_some_iff.mp h).1
  unfold AlarmUnit.entry? AlarmUnit.setEntry
  rw [setGroup_group]
  by_cases kind : j = k
  · subst kind
    simp only [if_true, List.getElem?_set, Prod.mk.injEq, true_and]
    by_cases number : n = i
    · subst number
      simp [inside]
    · simp [number, Ne.symm number]
  · simp [kind]

/-- An entry that was at reset once its condition is declared (R171). -/
def declaredEntry (c : AlarmConfig) (now : Nat) (present : Bool) : AlarmEntry :=
  if present = false then entryAtReset
  else if c.raiseDelay = 0 then
    { entryAtReset with
      condition := true, state := .raised, raiseCount := 1, raisedAt := some now }
  else
    { entryAtReset with
      condition := true, state := .pendingRaise, timer := Timer.start c.raiseDelay }

/-- The notice of that declaration (R170, R171). -/
def declaredNotice (c : AlarmConfig) (now : Nat) (k : AlarmKind) (n : Nat) (present : Bool) : Option Notice :=
  if present = true ∧ c.raiseDelay = 0 ∧ c.severity ≠ .notReported then
    some { detail := .alarm k .raised c.severity 1, number := n, stamp := now }
  else none

theorem entryDeclared_fresh (present : Bool) (c : AlarmConfig) (now : Nat) :
    entryDeclared present c now entryAtReset = (declaredEntry c now present,
      if present = true ∧ c.raiseDelay = 0 then some .raised else none) := by
  cases present
  · rfl
  · by_cases h : c.raiseDelay = 0 <;>
      simp [entryDeclared, entryAppears, declaredEntry, entryAtReset, enterRaised, h, satSucc]

/-- The declaration of a condition to an entry at reset, with room for its notice. -/
theorem moveEntry_fresh {u : AlarmUnit} {k : AlarmKind} {n now : Nat} {present : Bool}
    (fresh : u.entry? k n = some entryAtReset) (room : u.queue.length < 32)
    (own : k = .noticeOverflow → present = false) :
    moveEntry (entryDeclared present) now k n u =
      { u.setEntry k n (declaredEntry (u.group k).config now present) with
        queue := u.queue ++ (declaredNotice (u.group k).config now k n present).toList } := by
  have entered : moveEntry (entryDeclared present) now k n u
      = postAlarm now k n (u.group k).config (declaredEntry (u.group k).config now present,
          if present = true ∧ (u.group k).config.raiseDelay = 0 then some .raised else none)
        (u.setEntry k n (declaredEntry (u.group k).config now present)) := by
    rw [← entryDeclared_fresh, moveEntry, fresh]
    dsimp only
    rw [entryDeclared_fresh]
  rw [entered]
  unfold postAlarm declaredNotice
  by_cases raised : present = true ∧ (u.group k).config.raiseDelay = 0
  · have other : k ≠ .noticeOverflow := fun e => by
      have gone := own e
      rw [raised.1] at gone
      cases gone
    have count : (declaredEntry (u.group k).config now present).raiseCount = 1 := by
      simp [declaredEntry, raised]
    rw [if_pos raised]
    dsimp only
    by_cases withheld : (u.group k).config.severity = .notReported
    · rw [if_pos (.inl withheld), if_neg fun g => g.2.2 withheld, Option.toList_none, List.append_nil]
      rfl
    · rw [if_neg fun g => g.elim withheld other, if_pos ⟨raised.1, raised.2, withheld⟩, count]
      exact if_pos room
  · rw [if_neg raised, if_neg fun g => raised ⟨g.1, g.2.1⟩, Option.toList_none, List.append_nil]
    rfl

/-! ### The conditions declared one after another -/

/-- The conditions read the alarm unit for its own overflow alone (R169). -/
theorem conditionPresent_setAlarms {u : State} {a : AlarmUnit} (h : a.dropped = u.alarms.dropped)
    (k : AlarmKind) (n : Nat) : conditionPresent (u.setAlarms a) k n = conditionPresent u k n := by
  cases k
  case noticeOverflow => simp [conditionPresent, h]
  all_goals rfl

/-- The notice that the state gives the declaration of an entry. -/
def noticeOf (u : State) (x : AlarmKind × Nat) : Option Notice :=
  declaredNotice (u.alarms.group x.1).config u.time.base x.1 x.2 (conditionPresent u x.1 x.2)

/-- The state `t` that `u`, its entries at reset, has become once the conditions of `done` are declared. -/
structure Declares (u : State) (done : List (AlarmKind × Nat)) (t : State) : Prop where
  blocks : u.setAlarms t.alarms = t
  config : ∀ k, (t.alarms.group k).config = (u.alarms.group k).config
  attentionOn : t.alarms.attentionOn = u.alarms.attentionOn
  dropped : t.alarms.dropped = 0
  entries : ∀ k n, n < alarmCount k → t.alarms.entry? k n = some (if (k, n) ∈ done then
    declaredEntry (u.alarms.group k).config u.time.base (conditionPresent u k n) else entryAtReset)
  queue : t.alarms.queue = done.filterMap (noticeOf u)

theorem Declares.present {u t : State} {done : List (AlarmKind × Nat)} (h : Declares u done t)
    (quiet : u.alarms.dropped = 0) (k : AlarmKind) (n : Nat) :
    conditionPresent t k n = conditionPresent u k n := by
  rw [← h.blocks]
  exact conditionPresent_setAlarms (h.dropped.trans quiet.symm) k n

theorem Declares.refresh {u t : State} {done : List (AlarmKind × Nat)} {k : AlarmKind} {n : Nat}
    (h : Declares u done t) (quiet : u.alarms.dropped = 0) (new : (k, n) ∉ done) (hn : n < alarmCount k)
    (room : (done.filterMap (noticeOf u)).length < 32) :
    Declares u (done ++ [(k, n)]) (t.refresh k n) := by
  have time : t.time = u.time := by rw [← h.blocks]; rfl
  have fresh : t.alarms.entry? k n = some entryAtReset := by rw [h.entries k n hn, if_neg new]
  have own : k = .noticeOverflow → conditionPresent t k n = false := by
    rintro rfl
    simp [conditionPresent, h.dropped]
  have move := moveEntry_fresh (now := t.time.base) fresh (by rw [h.queue]; exact room) own
  rw [h.config, time, h.present quiet] at move
  have run : (t.refresh k n).alarms = refreshOutputs
      { t.alarms.setEntry k n
          (declaredEntry (u.alarms.group k).config u.time.base (conditionPresent u k n)) with
        queue := t.alarms.queue ++ (noticeOf u (k, n)).toList } := by
    rw [noticeOf, ← move, ← time, ← h.present quiet]
    rfl
  refine ⟨?_, fun j => ?_, ?_, ?_, fun j i hi => ?_, ?_⟩
  · show (u.setAlarms t.alarms).setAlarms _ = _
    rw [h.blocks]
    rfl
  · rw [run]
    exact (setEntry_config _ _ _ _ _).trans (h.config j)
  · rw [run]
    exact h.attentionOn
  · rw [run]
    exact h.dropped
  · rw [run]
    refine (setEntry_entry fresh _ j i).trans ?_
    rw [h.entries j i hi]
    by_cases here : (j, i) = (k, n)
    · cases here
      simp
    · simp [here]
  · rw [run, List.filterMap_append, ← h.queue]
    rfl

theorem Declares.refreshAll {u t : State} {done todo : List (AlarmKind × Nat)} (h : Declares u done t)
    (quiet : u.alarms.dropped = 0) (once : (done ++ todo).Nodup)
    (inside : ∀ x ∈ todo, x.2 < alarmCount x.1)
    (room : ((done ++ todo).filterMap (noticeOf u)).length < 32) :
    Declares u (done ++ todo) (t.refreshAll todo) := by
  induction todo generalizing done t with
  | nil => rwa [List.append_nil]
  | cons x todo ih =>
    have split : done ++ x :: todo = done ++ [x] ++ todo := by simp
    have new : x ∉ done := fun g => List.disjoint_of_nodup_append once g List.mem_cons_self
    rw [split] at once room ⊢
    refine ih (h.refresh quiet new (inside x List.mem_cons_self) ?_) once
      (fun y hy => inside y (List.mem_cons_of_mem x hy)) room
    rw [List.filterMap_append, List.filterMap_append, List.length_append, List.length_append] at room
    omega

/-! ## Ports at a restart (R118, R122, R123, R137) -/

/-- A port that has judged the grade presented to it (R122, R123). -/
def judgedPort (g : Grade) (frac : Nat) (x : Port) : Port :=
  let meets := gradeMeets g x.config.minGrade
  if x.state = .active ∧ x.config.policy = .squelch ∧ meets = false then
    { x with state := .squelched, rearm := Timer.stopped, activated := false }
  else if x.state = .squelched ∧ meets = false then { x with rearm := Timer.stopped }
  else if x.state = .squelched ∧ x.rearm = Timer.stopped ∧ x.config.rearm = 0 then
    { x with state := .active, activated := decide (frac = 0) }
  else if x.state = .squelched ∧ x.rearm = Timer.stopped then
    { x with rearm := Timer.start x.config.rearm }
  else x

/-- A change of a port's state writes the state and the mark of an activation (R118). -/
theorem portMove_moved {p : Fin 12} {new : PortState} {s : State} (h : (s.port p).state ≠ new)
    (c : PortCause) : (portMove p new c s).port p = { s.port p with
      state := new, activated := decide (new = .active ∧ s.time.frac = 0) } := by
  have moved : (portMove p new c s).port p = (s.setPort p { s.port p with
      state := new, activated := decide (new = .active ∧ s.time.frac = 0) }).port p := by
    unfold portMove
    dsimp only
    rw [if_neg h]
    rfl
  rw [moved, State.setPort_port]

theorem portJudge_judged (g : Grade) (p : Fin 12) (s : State) :
    (portJudge g p s).port p = judgedPort g s.time.frac (s.port p) := by
  unfold portJudge judgedPort
  dsimp only
  cases state : (s.port p).state
  case active =>
    dsimp only
    split
    · rename_i low
      rw [portMove_moved (by simp [state])]
      simp [low]
    · rename_i fine
      simp only [reduceCtorEq, false_and, if_false, true_and, fine]
  case squelched =>
    simp only [reduceCtorEq, false_and, if_false, true_and]
    cases meets : gradeMeets g (s.port p).config.minGrade
    · simp [state]
    · simp only [if_true, reduceCtorEq, if_false]
      by_cases stopped : (s.port p).rearm = Timer.stopped
      · by_cases once : (s.port p).config.rearm = 0
        · simp [stopped, once, portMove_moved, state]
        · simp [stopped, once, state]
      · simp [stopped]
  all_goals simp

/-- Each port judges the grade that is presented (R109). -/
theorem presentGrade_port (g : Grade) (p : Fin 12) (s : State) :
    (presentGrade g s).port p = judgedPort g s.time.frac (s.port p) := by
  have fold (l : List (Fin 12)) (once : l.Nodup) (t : State) :
      (l.foldl (fun s p => portJudge g p s) t).port p
        = if p ∈ l then judgedPort g t.time.frac (t.port p) else t.port p := by
    induction l generalizing t with
    | nil => simp
    | cons q l ih =>
      obtain ⟨new, once⟩ := List.nodup_cons.mp once
      have time : (portJudge g q t).time = t.time := by simp
      rw [List.foldl_cons, ih once, time]
      by_cases e : p = q
      · subst e
        rw [if_neg new, if_pos List.mem_cons_self, portJudge_judged]
      · rw [portJudge_other g q t e]
        simp [e]
  have all : p ∈ allPorts := by simp [allPorts]; omega
  rw [presentGrade, fold allPorts (by decide) s, if_pos all]

/-! ## The soft restart (R190) -/

theorem setAlarms_self (t : State) : t.setAlarms t.alarms = t := rfl

theorem setAlarms_port (t : State) (a : AlarmUnit) (p : Fin 12) : (t.setAlarms a).port p = t.port p := rfl

theorem setHoldover_port (t : State) (h : Holdover) (p : Fin 12) : (t.setHoldover h).port p = t.port p := rfl

section SoftRestart

variable (s : State)

/-- The blocks and the grade at the restart, before the conditions are declared. -/
def restarted : State := restartedGrade (restartedBlocks s)

theorem softRestart_eq : softRestart s = declareAll (restarted s) := rfl

theorem restarted_ref (k : Slot) : (restarted s).ref k
    = monitorAtReset k (s.ref k).config (s.ref k).lockedOut := by
  simp only [State.ref, restarted, restartedGrade_frame, restartedBlocks, PerSlot.get_of]

theorem restarted_chain : (restarted s).chain = restartedChain s.chain := by
  simp [restarted, restartedBlocks]

theorem restarted_alarms : (restarted s).alarms
    = alarmsAtReset (fun k => (s.alarms.group k).config) s.alarms.attentionOn := rfl

theorem restarted_group (k : AlarmKind) : (restarted s).alarms.group k
    = groupAtReset (s.alarms.group k).config k := by
  rw [restarted_alarms]
  cases k <;> rfl

theorem restarted_grade : gradeNow (restartedBlocks s) = if s.time.timeSet then .E else .F := by
  cases h : s.time.timeSet <;> simp [gradeNow, restartedBlocks, servoAtReset, h]

theorem restarted_holdover : (restarted s).holdover = { s.holdover with
    openPart := emptyPart (s.time.base / 60 * 60) true
    leadPart := emptyPart (s.time.base / 60 * 60 + 60) false
    fh := none, u := none, used := 0, e0 := none, frozenAging := 0, frozenDrift := 0, n := 0
    tee := none, unavailable := false, grade := if s.time.timeSet then .E else .F } := by
  rw [← restarted_grade]
  simp [restarted, restartedGrade, restartedBlocks, restartedHoldover, spoilAtStep]

theorem restarted_port (p : Fin 12) : (restarted s).port p
    = judgedPort (if s.time.timeSet then .E else .F) s.time.frac { s.port p with queue := [] } := by
  have emptied : (restartedBlocks s).port p = { s.port p with queue := [] } := by
    simp [State.port, restartedBlocks]
  have time : (restartedBlocks s).time.frac = s.time.frac := rfl
  have presented (t : State) : (restartedGrade t).port p = judgedPort (gradeNow t) t.time.frac (t.port p) := by
    unfold restartedGrade
    dsimp only
    rw [setAlarms_port, presentGrade_port, setHoldover_port, State.setHoldover_time]
  rw [restarted, presented, restarted_grade, emptied, time]

/-- No slot has failed or misses its labels right after a restart, and no chain port is lost (R44, R159). -/
theorem restarted_quiet {k : AlarmKind} {n : Nat} (h : conditionPresent (restarted s) k n = true) :
    k ≠ .refFailed ∧ k ≠ .labelMissing ∧ k ≠ .chainLoss := by
  have failed (j : Slot) : refFailedPresent ((restarted s).ref j) = false := by
    rw [restarted_ref, refFailedPresent, monitorAtReset]
    cases (s.ref j).config.enabled <;> rfl
  have labels (j : Slot) : ((restarted s).ref j).labelMissing = false := by
    rw [restarted_ref]
    rfl
  refine ⟨?_, ?_, ?_⟩ <;> rintro rfl
  · cases slot : slotOfNumber n <;> simp [conditionPresent, slot, failed] at h
  · cases slot : slotOfNumber n <;> simp [conditionPresent, slot, labels] at h
  · simp [conditionPresent, restarted_chain, restartedChain, chainAtReset, chainRecordAtReset] at h

/-- Whether the condition of an entry can be present right after a restart (`restarted_quiet`). -/
def outlastsRestart (x : AlarmKind × Nat) : Bool :=
  decide (x.1 ≠ .refFailed ∧ x.1 ≠ .labelMissing ∧ x.1 ≠ .chainLoss)

/-- No more conditions can be present right after a restart than the notice queue holds (R176). -/
theorem restarted_room : (allEntries.filterMap (noticeOf (restarted s))).length < 32 := by
  have most : allEntries.countP outlastsRestart < 32 := by decide
  rw [List.length_filterMap_eq_countP]
  refine lt_of_le_of_lt (List.countP_mono_left fun x _ noticed => ?_) most
  unfold noticeOf declaredNotice at noticed
  split at noticed
  · rename_i posted
    exact decide_eq_true (restarted_quiet s posted.1)
  · cases noticed

theorem restarted_declares : Declares (restarted s) [] (restarted s) where
  blocks := setAlarms_self _
  config _ := rfl
  attentionOn := rfl
  dropped := by rw [restarted_alarms]; rfl
  entries k n hn := by
    rw [AlarmUnit.entry?, restarted_group, groupAtReset]
    simp [hn]
  queue := rfl

/-- Every condition present is declared as an appearance (R181). -/
theorem softRestart_declares : Declares (restarted s) allEntries (softRestart s) :=
  (restarted_declares s).refreshAll (todo := allEntries) rfl (by decide) (by decide) (restarted_room s)

theorem mem_allEntries {k : AlarmKind} {n : Nat} : (k, n) ∈ allEntries ↔ n < alarmCount k := by
  have kind : k ∈ allAlarmKinds := List.mem_of_getElem? (allAlarmKinds_alarmIndex k)
  simp [allEntries, kind]

end SoftRestart

section SoftRestartBlocks

variable (s : State)

/-- Which notice the declaration of an entry posts, if any (R170, R176). -/
theorem noticeOf_eq_some {u : State} {k : AlarmKind} {n : Nat} {x : Notice} : noticeOf u (k, n) = some x ↔
    conditionPresent u k n = true ∧ (u.alarms.group k).config.raiseDelay = 0
      ∧ (u.alarms.group k).config.severity ≠ .notReported
      ∧ x = { detail := .alarm k .raised (u.alarms.group k).config.severity 1, number := n,
              stamp := u.time.base } := by
  unfold noticeOf declaredNotice
  split
  · rename_i posted
    obtain ⟨present, once, reported⟩ := posted
    simp [present, once, reported, eq_comm]
  · rename_i withheld
    exact ⟨(nomatch ·), fun ⟨present, once, reported, _⟩ => absurd ⟨present, once, reported⟩ withheld⟩

theorem softRestart_ref (k : Slot) :
    (softRestart s).ref k = monitorAtReset k (s.ref k).config (s.ref k).lockedOut := by
  rw [← restarted_ref]
  simp only [State.ref, softRestart_eq, declareAll_frame]

theorem softRestart_holdover : (softRestart s).holdover = (restarted s).holdover := by
  simp only [softRestart_eq, declareAll_frame]

theorem softRestart_port (p : Fin 12) : (softRestart s).port p = (restarted s).port p := by
  simp only [State.port, softRestart_eq, declareAll_frame]

theorem softRestart_chain : (softRestart s).chain = restartedChain s.chain := by
  simp only [softRestart_eq, declareAll_frame, restarted_chain]

theorem softRestart_law : AlarmLaw (softRestart s).alarms :=
  (declareAll_keeps (restarted s)).alarms (by rw [restarted_alarms]; exact alarmsAtReset_law _ _)

end SoftRestartBlocks

/-! ### What waits is served next (R184) -/

theorem serveNext_idle {t : State} (h : t.link.waiting = [] ∨ t.link.replies ≠ []) : serveNext t = t := by
  unfold serveNext
  split
  · rename_i sent waits; simp [sent, waits] at h
  · rename_i sent waits; simp [sent, waits] at h
  all_goals rfl

theorem serveNext_request {t : State} {q : Request} {w : List Waiting} (sent : t.link.replies = [])
    (waits : t.link.waiting = .request q :: w) :
    serveNext t = takeRequest q (t.setLink { t.link with waiting := w }) := by
  unfold serveNext
  rw [sent, waits]

theorem serveNext_overrun {t : State} {kind tag : Byte} {w : List Waiting} (sent : t.link.replies = [])
    (waits : t.link.waiting = .overrun kind tag :: w) :
    serveNext t = t.setLink (answered { t.link with waiting := w } kind tag .overrun []) := by
  unfold serveNext
  rw [sent, waits]
  rfl

/-- Settles O44: the blocks are those of `restarted`, and the conditions are then declared to entries at
reset, one after another. -/
theorem softRestartKeepsWhatItsChaptersSay : Obligations.SoftRestartKeepsWhatItsChaptersSay := by
  intro s due g
  have run : exec .softRestart s = .next (serveNext (softRestart s)) := by
    show Host.Outcome.next (if s.link.restartDue then serveNext (softRestart s) else s) = _
    rw [if_pos due]
  have link := softRestart_link s
  have replies : (softRestart s).link.replies = s.link.replies := by rw [link]
  have waiting : (softRestart s).link.waiting = s.link.waiting := by rw [link]
  have declares := softRestart_declares s
  have condition : ∀ k n, conditionPresent (softRestart s) k n = conditionPresent (restarted s) k n :=
    declares.present rfl
  have record : ∀ k, ((restarted s).alarms.group k).config = (s.alarms.group k).config := fun k => by
    rw [restarted_group]
    rfl
  have base : (restarted s).time.base = s.time.base := by simp [restarted, restartedBlocks]
  refine ⟨softRestart s, fun idle => ?idle, fun q w sent waits => ?request,
    fun kind tag w sent waits => ?overrun, by simp, by simp, by simp, softRestart_time s, softRestart_ref s,
    by simp [softRestart, restartedBlocks], by simp [softRestart, restartedBlocks],
    by simp [softRestart, restartedBlocks], (softRestart_holdover s).trans (restarted_holdover s),
    fun p => (softRestart_port s p).trans (restarted_port s p), softRestart_chain s,
    by simp [softRestart, restartedBlocks], fun k => (declares.config k).trans (record k),
    declares.attentionOn, declares.dropped, softRestart_law s, fun k n hn => ?entry, fun x => ?queue, link⟩
  case idle => rw [run, serveNext_idle (by rwa [replies, waiting])]
  case request =>
    rw [run, serveNext_request (replies.trans sent) (waiting.trans waits)]
    rfl
  case overrun =>
    rw [run, serveNext_overrun (replies.trans sent) (waiting.trans waits)]
    rfl
  case entry =>
    rw [declares.entries k n hn, if_pos (mem_allEntries.mpr hn), condition, record, base]
    rfl
  case queue =>
    rw [declares.queue, List.mem_filterMap]
    constructor
    · rintro ⟨⟨k, n⟩, listed, noticed⟩
      rw [noticeOf_eq_some, ← condition, record, base] at noticed
      exact ⟨k, n, mem_allEntries.mp listed, noticed⟩
    · rintro ⟨k, n, hn, noticed⟩
      rw [condition, ← record, ← base] at noticed
      exact ⟨(k, n), mem_allEntries.mpr hn, noticeOf_eq_some.mpr noticed⟩

end Sys2Proof.Machine
end

section
set_option Elab.async false

namespace Sys2Proof.Machine

open Sys2Proof.Safety

/-! ## Sequence numbers (R46) -/

/-- The forward distance is the number of steps from one sequence number to the other, wrap included. -/
theorem forwardDistance_of_ahead {l q k : Nat} (hl : l ≤ 65535) (hk : k ≤ 65535)
    (ahead : (l + k) % 65536 = q) : forwardDistance l q = k := by
  unfold forwardDistance
  omega

theorem newerSequence_some (l q : Nat) : newerSequence (some l) q
    = decide (1 ≤ forwardDistance l q ∧ forwardDistance l q ≤ 32767) := rfl

theorem skippedSequences_some (l q : Nat) :
    skippedSequences (some l) q = forwardDistance l q - 1 := rfl

/-! ### No last sequence number (R46, R51) -/

@[simp] theorem filterFollows_pkt_filter (s : State) :
    (filterFollows .pkt s).filter = emptiedFilter s.filter := rfl

theorem pinReset_lastSequence (m : LinkMode) (s : State) :
    (pinReset m s).filter.lastSequence = none := rfl

theorem softRestart_lastSequence (s : State) : (softRestart s).filter.lastSequence = none := by
  have filter : (softRestart s).filter = filterAtReset s.filter.config := by
    simp [softRestart, restartedBlocks]
  rw [filter]
  rfl

theorem enterAbsent_pkt_filter (s : State) :
    (enterAbsent .pkt s).filter = emptiedFilter s.filter := by
  simp [enterAbsent]

theorem enterDisabled_pkt_filter (c : ReferenceConfig) (s : State) :
    (enterDisabled .pkt c s).filter = emptiedFilter s.filter := by
  simp [enterDisabled]

/-- Settles O16. -/
theorem sequenceNumbersCompareWithWrap : Obligations.SequenceNumbersCompareWithWrap := by
  refine ⟨fun q => rfl, fun l q k hl _ hk ahead => ?_, fun s m c =>
    ⟨pinReset_lastSequence m s, softRestart_lastSequence s, ?_, ?_⟩⟩
  · rw [newerSequence_some, skippedSequences_some, forwardDistance_of_ahead hl hk ahead]
    exact ⟨rfl, rfl⟩
  · rw [enterAbsent_pkt_filter]
    rfl
  · rw [enterDisabled_pkt_filter]
    rfl

/-! ## The chosen entry of the window (R53) -/

/-- An entry of the window with the least path delay, the newest of several: those before it are no
quicker, those after it slower. -/
def LeastNewest (w : List Sample) (x : Sample) : Prop :=
  ∃ before later, w = before ++ x :: later
    ∧ (∀ y ∈ before, x.delay ≤ y.delay) ∧ ∀ y ∈ later, x.delay < y.delay

theorem LeastNewest.least {w : List Sample} {x : Sample} (h : LeastNewest w x) :
    ∀ y ∈ w, x.delay ≤ y.delay := by
  obtain ⟨before, later, rfl, older, newer⟩ := h
  intro y hy
  rcases List.mem_append.mp hy with hy | hy
  · exact older y hy
  · rcases List.mem_cons.mp hy with rfl | hy
    · exact le_rfl
    · exact (newer y hy).le

/-- A newer entry that is no slower takes the choice over. -/
theorem LeastNewest.replaced {w : List Sample} {x y : Sample} (h : LeastNewest w x)
    (quick : y.delay ≤ x.delay) : LeastNewest (w ++ [y]) y :=
  ⟨w, [], rfl, fun z hz => quick.trans (h.least z hz), by simp⟩

/-- A newer entry that is slower leaves the choice. -/
theorem LeastNewest.kept {w : List Sample} {x y : Sample} (h : LeastNewest w x)
    (slow : x.delay < y.delay) : LeastNewest (w ++ [y]) x := by
  obtain ⟨before, later, rfl, older, newer⟩ := h
  refine ⟨before, later ++ [y], by simp, older, fun z hz => ?_⟩
  rcases List.mem_append.mp hz with hz | hz
  · exact newer z hz
  · rwa [List.mem_singleton.mp hz]

theorem chosenSample_concat {w : List Sample} {x : Sample} (h : chosenSample w = some x) (y : Sample) :
    chosenSample (w ++ [y]) = if y.delay ≤ x.delay then some y else some x := by
  unfold chosenSample at h ⊢
  rw [List.foldl_append, h]
  rfl

theorem exists_chosenSample {w : List Sample} (h : w ≠ []) :
    ∃ x, chosenSample w = some x ∧ LeastNewest w x := by
  induction w using List.reverseRecOn with
  | nil => exact absurd rfl h
  | append_singleton w y ih =>
    by_cases first : w = []
    · subst first
      exact ⟨y, rfl, [], [], rfl, by simp, by simp⟩
    · obtain ⟨x, chosen, best⟩ := ih first
      rw [chosenSample_concat chosen]
      split
      · rename_i quick
        exact ⟨y, rfl, best.replaced quick⟩
      · rename_i slow
        exact ⟨x, rfl, best.kept (Nat.lt_of_not_le slow)⟩

/-! ## Loss at a missing epoch (R23, R25, R28) -/

/-- A missing epoch below the limit, or with the signal already lost, is only counted. -/
theorem missEpoch_counted {limit : Nat} {k : Slot} {s : State}
    (h : (s.ref k).missing + 1 < limit ∨ (s.ref k).signal = false) :
    missEpoch limit k s = modRef k missedEpoch s := by
  rcases h with below | lost
  · exact missEpoch_below below
  · have still : ((modRef k missedEpoch s).ref k).signal = false := by
      rw [modRef_ref, if_pos rfl]
      exact lost
    unfold missEpoch
    dsimp only
    split
    · unfold declareLoss
      rw [still]
      rfl
    · rfl

theorem missEpoch_lost {limit : Nat} {k : Slot} {s : State} (hl : limit ≤ 65535)
    (h : limit ≤ (s.ref k).missing + 1) (present : (s.ref k).signal = true) :
    calm ((missEpoch limit k s).ref k) = calm (lostMonitor (missedEpoch (s.ref k))) := by
  have own : (modRef k missedEpoch s).ref k = missedEpoch (s.ref k) := by
    rw [modRef_ref, if_pos rfl]
  have lost := calm_written (declareLoss_calms (k := k) (s := modRef k missedEpoch s)
    (by rw [own]; exact present)) k
  rw [if_pos rfl, own] at lost
  rw [missEpoch_reached h hl]
  exact lost

theorem judgesEpochs_idle {m : Monitor} (h : m.state = .absent ∨ m.state = .disabled) :
    judgesEpochs m = false := by
  unfold judgesEpochs
  rcases h with state | state <;> rw [state] <;> rfl

theorem judging_of_judgesEpochs {m : Monitor} (h : judgesEpochs m = true) (hf : m.state ≠ .failed) :
    judging m = true :=
  judging_iff.mpr (by simpa [hf] using judgesEpochs_iff.mp h)

/-- A monitor that judges epochs is FAILED once its loss is declared, be it for this or before (R25). -/
theorem lostMonitor_failed {m : Monitor} (h : judgesEpochs m = true) :
    (lostMonitor m).state = .failed := by
  by_cases hf : m.state = .failed
  · exact (lostMonitor_state (by simp [judging, hf])).trans hf
  · exact (lostMonitor_judging (judging_of_judgesEpochs h hf)).1

theorem lostMonitor_cause {m : Monitor} (h : judgesEpochs m = true) (hf : m.state ≠ .failed) :
    (lostMonitor m).failCause = some .loss :=
  (lostMonitor_judging (judging_of_judgesEpochs h hf)).2

theorem lostMonitor_counts (m : Monitor) :
    (lostMonitor m).missing = m.missing ∧ (lostMonitor m).totalMissing = m.totalMissing := by
  unfold lostMonitor failing
  split <;> exact ⟨rfl, rfl⟩

/-! ## The filter at a boundary (R52, R53) -/

section Boundary

variable {n : Nat} {s : State}

/-- The state whose window has been aged at the boundary of second `n` (R52). -/
def agedFilter (n : Nat) (s : State) : State :=
  s.setFilter { s.filter with window := agedWindow n s.filter.config.length s.filter.window }

theorem filterBoundary_idle (h : judgesEpochs (s.ref .pkt) = false) : filterBoundary n s = s := by
  unfold filterBoundary
  rw [h]
  rfl

theorem filterBoundary_empty (h : judgesEpochs (s.ref .pkt) = true)
    (empty : agedWindow n s.filter.config.length s.filter.window = []) :
    filterBoundary n s = missEpoch 8 .pkt (agedFilter n s) := by
  unfold filterBoundary agedFilter
  rw [if_pos h, empty]
  rfl

theorem filterBoundary_counted (h : judgesEpochs (s.ref .pkt) = true)
    (empty : agedWindow n s.filter.config.length s.filter.window = [])
    (few : (s.ref .pkt).missing < 7 ∨ (s.ref .pkt).signal = false) :
    filterBoundary n s = modRef .pkt missedEpoch (agedFilter n s) :=
  (filterBoundary_empty h empty).trans (missEpoch_counted (few.imp_left Nat.succ_lt_succ))

/-- The eighth missing epoch running is a loss (R28). -/
theorem filterBoundary_lost (h : judgesEpochs (s.ref .pkt) = true)
    (empty : agedWindow n s.filter.config.length s.filter.window = [])
    (many : 7 ≤ (s.ref .pkt).missing) (present : (s.ref .pkt).signal = true) :
    calm ((filterBoundary n s).ref .pkt) = calm (lostMonitor (missedEpoch (s.ref .pkt))) := by
  rw [filterBoundary_empty h empty]
  exact missEpoch_lost (s := agedFilter n s) (by decide) (Nat.succ_le_succ many) present

theorem filterBoundary_empty_frame (h : judgesEpochs (s.ref .pkt) = true)
    (empty : agedWindow n s.filter.config.length s.filter.window = []) :
    (filterBoundary n s).filter = (agedFilter n s).filter ∧ (filterBoundary n s).time = s.time
      ∧ (filterBoundary n s).link = s.link ∧ (filterBoundary n s).pending = s.pending := by
  rw [filterBoundary_empty h empty]
  simp [agedFilter]

theorem filterBoundary_chosen {x newest : Sample} (h : judgesEpochs (s.ref .pkt) = true)
    (chosen : chosenSample (agedWindow n s.filter.config.length s.filter.window) = some x)
    (last : (agedWindow n s.filter.config.length s.filter.window).getLast? = some newest) :
    filterBoundary n s = takeMeasurement .pkt
      (packetMeasurement x newest ((s.ref .pkt).config.lockedAllowance.getD 0))
      (goodEpoch .pkt ((agedFilter n s).setFilter
        { (agedFilter n s).filter with copy := some (filterCopy n x) })) := by
  unfold filterBoundary
  rw [if_pos h]
  dsimp only
  rw [chosen, last]
  rfl

end Boundary

/-! ## Requests: the filter (R55, R56) -/

theorem requestSetFilter_good {c : FilterConfig} {s : State} (h : filterOk c = true) :
    requestSetFilter c s = (s.setFilter (configureFilter c s.filter), okWith []) := if_pos h

theorem requestSetFilter_bad {c : FilterConfig} {s : State} (h : filterOk c = false) :
    requestSetFilter c s = refuse .invalid s := if_neg (by rw [h]; decide)

/-- Settles O28: a boundary's clauses follow the window that ageing leaves, empty or not. -/
theorem filterIsConfiguredAndRead : Obligations.FilterIsConfiguredAndRead := by
  refine ⟨fun tag s h => ⟨fun c good => ?set, fun c bad => ?refused, ?get, ?clear⟩, ?boundary⟩
  case set =>
    exact congrArg Host.Outcome.next (takeTyped_okWith h 0x11 tag (requestSetFilter_good good) rfl)
  case refused => exact refusal_answers h 0x11 tag (requestSetFilter_bad bad)
  case get =>
    exact congrArg Host.Outcome.next (takeTyped_okWith h 0x12 tag (f := requestGetFilter false) rfl rfl)
  case clear =>
    exact congrArg Host.Outcome.next (takeTyped_okWith h 0x12 tag (f := requestGetFilter true) rfl rfl)
  case boundary =>
    intro n s m w missed aged
    refine ⟨fun idle => filterBoundary_idle (judgesEpochs_idle idle), fun judged => ?_⟩
    have judges : judgesEpochs m = true := judgesEpochs_iff.mpr judged
    refine ⟨fun empty few => ?_, fun empty many present => ?_, fun remain => ?_⟩
    · have run := filterBoundary_counted judges empty few
      rw [modRef, missedEpoch_eq] at run
      exact run
    · have own := filterBoundary_lost judges empty many present
      obtain ⟨missing, total⟩ := lostMonitor_counts (missedEpoch m)
      have counted : missedEpoch m = missed := missedEpoch_eq m
      exact ⟨(congrArg Monitor.signal own).trans (lostMonitor_signal _),
        (congrArg Monitor.state own).trans (lostMonitor_failed judges),
        fun h => (congrArg Monitor.failCause own).trans (lostMonitor_cause judges h),
        (congrArg Monitor.missing own).trans (missing.trans (congrArg Monitor.missing counted)),
        (congrArg Monitor.totalMissing own).trans (total.trans (congrArg Monitor.totalMissing counted)),
        filterBoundary_empty_frame judges empty⟩
    · obtain ⟨x, chosen, before, later, split, older, newer⟩ := exists_chosenSample remain
      have last : w.getLast? = some (w.getLast remain) := List.getLast?_eq_some_getLast remain
      exact ⟨before, later, x, w.getLast remain, split, last, older, newer,
        filterBoundary_chosen judges chosen last⟩

end Sys2Proof.Machine
end

section
set_option Elab.async false

namespace Sys2Proof.Machine

open Sys2Proof.Safety

/-! ## The selector's choice (R60 to R64, R67, R69) -/

section Choice

variable {c : EvalCause} {s t : State}

/-- The exclusions read the selector's record and the monitors alone (R60). -/
theorem exclusion_same (refs : SameRefs s t) (config : t.selector.config = s.selector.config) (k : Slot) :
    exclusion t k = exclusion s k := by
  have grade : declaredGrade k (t.ref k) = declaredGrade k (s.ref k) := declaredGrade_same (refs k) k
  have state : (t.ref k).state = (s.ref k).state := (refs k).state
  have lockedOut : (t.ref k).lockedOut = (s.ref k).lockedOut := (refs k).lockedOut
  have record : (t.ref k).config = (s.ref k).config := (refs k).config
  unfold exclusion
  dsimp only
  rw [grade, state, lockedOut, record, config]

theorem candidate_same (refs : SameRefs s t) (config : t.selector.config = s.selector.config) (k : Slot) :
    candidate t k = candidate s k := by
  rw [candidate, candidate, exclusion_same refs config]

/-- While there is a candidate one of them ranks first (R61). -/
theorem bestCandidate_ne_none {k : Slot} (h : candidate s k = true) : bestCandidate s ≠ none := by
  have listed : k ∈ candidates s := List.mem_filter.mpr ⟨by cases k <;> decide, h⟩
  rcases List.eq_nil_or_concat' (candidates s) with empty | ⟨l, last, split⟩
  · rw [empty] at listed
    cases listed
  · unfold bestCandidate
    rw [split, List.foldl_concat]
    (repeat' split) <;> nofun

/-- No slot ranks above itself (R61). -/
theorem ranksAbove_irrefl (s : State) (k : Slot) : ranksAbove s k k = false := by
  simp [ranksAbove]

/-- What a switch writes in the selector beside the slot selected (R64, R65, R69). -/
theorem switchTo_writes (k : Option Slot) (c : EvalCause) (s : State) :
    (switchTo k c s).selector.saved = s.selector.saved
      ∧ (switchTo k c s).selector.dwell = Timer.start s.selector.config.minDwell
      ∧ (switchTo k c s).selector.pendingSwitch = none := by
  simp [switchTo]

theorem choose_selected (k : Option Slot) (c : EvalCause) (s : State) :
    (choose k c s).selector.selected = k := by
  unfold choose
  split
  · rename_i same
    exact same.symm
  · exact (switchTo_spec k c s).1

theorem choose_saved (k : Option Slot) (c : EvalCause) (s : State) :
    (choose k c s).selector.saved = s.selector.saved := by
  unfold choose
  split
  · rfl
  · exact (switchTo_writes k c s).1

theorem evaluateAuto_saved (c : EvalCause) (s : State) :
    (evaluateAuto c s).selector.saved = s.selector.saved := by
  unfold evaluateAuto
  (repeat' split) <;> simp [choose_saved]

theorem evaluate_saved (c : EvalCause) (s : State) :
    (evaluate c s).selector.saved = s.selector.saved := by
  unfold evaluate
  dsimp only
  split <;> simp [evaluateAuto_saved, choose_saved]

/-- In AUTO a slot is selected while there is a candidate (R63). -/
theorem evaluateAuto_ne_none {k : Slot} (h : candidate s k = true) :
    (evaluateAuto c s).selector.selected ≠ none := by
  have best : (choose (bestCandidate s) c s).selector.selected ≠ none := by
    rw [choose_selected]
    exact bestCandidate_ne_none h
  unfold evaluateAuto
  split
  · exact best
  · rename_i old selected
    have kept : s.selector.selected ≠ none := by rw [selected]; nofun
    split
    · exact best
    · split
      · split
        · split
          · rw [choose_selected]; nofun
          · exact kept
        · exact kept
      · exact kept

/-- An evaluation leaves every slot a candidate or not, as it was. -/
theorem evaluate_candidate (c : EvalCause) (s : State) (k : Slot) :
    candidate (evaluate c s) k = candidate s k :=
  have done := evaluate_evaluated c s
  candidate_same done.refs done.config k

theorem evaluate_auto (mode : s.selector.config.mode = .auto) {k : Slot}
    (h : candidate (evaluate c s) k = true) : (evaluate c s).selector.selected ≠ none := by
  rw [evaluate_candidate] at h
  unfold evaluate
  rw [mode]
  simp [evaluateAuto_ne_none h]

theorem evaluate_forced {f : Slot} (mode : s.selector.config.mode = .forced f) :
    (evaluate c s).selector.selected = some f ↔ candidate (evaluate c s) f = true := by
  rw [evaluate_candidate]
  unfold evaluate
  rw [mode]
  simp [choose_selected]

theorem evaluate_hold (mode : s.selector.config.mode = .hold) :
    (evaluate c s).selector.selected = none := by
  unfold evaluate
  rw [mode]
  simp [choose_selected]

end Choice

/-! ## SET_SELECTION (R72) -/

/-- The record of SET_SELECTION written, before the selector evaluates (R72). -/
def selectionWritten (c : SelectionConfig) (s : State) : State :=
  s.setSelector
    { s.selector with
      config := c
      saved := none
      pendingSwitch := none
      dwell := reducedDwell c.minDwell s.selector.dwell }

theorem configureSelection_evaluates (c : SelectionConfig) (s : State) :
    ∃ cause, configureSelection c s = evaluate cause (selectionWritten c s) := ⟨_, rfl⟩

theorem selectionOk_iff {c : SelectionConfig} : selectionOk c = true ↔ c.minDwell ≤ 600 := by
  simp [selectionOk, inRange]

theorem requestSetSelection_good {c : SelectionConfig} (h : c.minDwell ≤ 600) (s : State) :
    requestSetSelection c s = (configureSelection c s, okWith []) := if_pos (selectionOk_iff.mpr h)

theorem requestSetSelection_bad {c : SelectionConfig} (h : 600 < c.minDwell) (s : State) :
    requestSetSelection c s = refuse .invalid s :=
  if_neg fun ok => absurd (selectionOk_iff.mp ok) (Nat.not_le.mpr h)

/-- Settles O29: what an evaluation selects, read in the state with the record written. -/
theorem setSelectionEvaluatesAtOnce : Obligations.SetSelectionEvaluatesAtOnce := by
  intro tag c s h
  refine ⟨fun high => refusal_answers h 0x14 tag (requestSetSelection_bad high s), fun low => ?_⟩
  obtain ⟨cause, run⟩ := configureSelection_evaluates c s
  obtain ⟨part, time, filter, chain, scheduler, link, flash, pending⟩ := configureSelection_frame c s
  refine ⟨_, congrArg Host.Outcome.next
    (takeTyped_okWith h 0x14 tag (requestSetSelection_good low s) link), ?_⟩
  rw [run] at part time filter chain scheduler flash pending ⊢
  have done := evaluate_evaluated cause (selectionWritten c s)
  exact ⟨done.config, evaluate_saved cause _, done.selection, fun mode => evaluate_hold mode,
    fun f mode => evaluate_forced mode, fun mode k present => evaluate_auto mode present,
    evaluate_monitors cause _, rfl, part, time, filter, chain, scheduler, flash, pending⟩

end Sys2Proof.Machine
end

section
set_option Elab.async false

namespace Sys2Proof.Machine

open Sys2Proof.Safety

/-! ## The dwell timer's expiry (R65) -/

section Dwell

variable {s : State}

theorem dwellExpires_idle (h : s.selector.dwell.due = false) : dwellExpires s = s := by
  unfold dwellExpires
  rw [h]
  rfl

/-- What the expiry switches to, once the timer is stopped (R65). -/
def dwellActs (s : State) : State :=
  match s.selector.config.mode, s.selector.selected with
  | .auto, some k =>
    if s.selector.config.revertive then
      match betterThan s k with
      | some b => selectorConditions (choose (some b) .dwell s)
      | none => s
    else s
  | _, _ => s

/-- The state with the dwell timer stopped. -/
def dwellStopped (s : State) : State := s.setSelector { s.selector with dwell := Timer.stopped }

theorem dwellExpires_due (h : s.selector.dwell.due = true) :
    dwellExpires s = (dwellActs (dwellStopped s)).setSelector
      { (dwellActs (dwellStopped s)).selector with pendingSwitch := none } := if_pos h

/-- Without AUTO and reversion nothing is switched (R64, R65). -/
theorem dwellActs_kept (h : s.selector.config.revertive = false ∨ s.selector.config.mode ≠ .auto) :
    dwellActs s = s := by
  unfold dwellActs
  split
  · rename_i mode _
    rw [h.resolve_right fun other => other mode]
    rfl
  · rfl

/-- The switch is made to a candidate that ranks above the slot selected (R65). -/
theorem dwellActs_switches {k b : Slot} (revertive : s.selector.config.revertive = true)
    (mode : s.selector.config.mode = .auto) (selected : s.selector.selected = some k)
    (best : bestCandidate s = some b) (above : ranksAbove s b k = true) :
    dwellActs s = selectorConditions (switchTo (some b) .dwell s) := by
  have better : betterThan s k = some b := by
    unfold betterThan
    rw [best]
    exact if_pos above
  have other : some b ≠ s.selector.selected := by
    rw [selected]
    rintro ⟨⟩
    rw [ranksAbove_irrefl] at above
    cases above
  unfold dwellActs
  rw [mode, selected]
  dsimp only
  rw [if_pos revertive, better]
  exact congrArg selectorConditions (if_neg other)

theorem dwellExpires_kept (due : s.selector.dwell.due = true)
    (h : s.selector.config.revertive = false ∨ s.selector.config.mode ≠ .auto) :
    dwellExpires s = s.setSelector { s.selector with dwell := Timer.stopped, pendingSwitch := none } := by
  rw [dwellExpires_due due, dwellActs_kept (s := dwellStopped s) h]
  rfl

theorem dwellExpires_switches {k b : Slot} (due : s.selector.dwell.due = true)
    (revertive : s.selector.config.revertive = true) (mode : s.selector.config.mode = .auto)
    (selected : s.selector.selected = some k) (best : bestCandidate s = some b)
    (above : ranksAbove s b k = true) :
    (dwellExpires s).selector.selected = some b
      ∧ (dwellExpires s).selector.dwell = Timer.start s.selector.config.minDwell := by
  rw [dwellExpires_due due, dwellActs_switches (s := dwellStopped s) revertive mode selected best above]
  simp [switchTo_spec, switchTo_writes, dwellStopped]

end Dwell

/-! ## The re-arm timer's expiry (R118, R123) -/

/-- A change of a port's state writes the port, and reports to the alarm unit (R118). -/
theorem portMove_writes {p : Fin 12} {new : PortState} {s : State} (h : (s.port p).state ≠ new)
    (c : PortCause) : ∃ a, portMove p new c s = { s.setPort p { s.port p with
      state := new, activated := decide (new = .active ∧ s.time.frac = 0) } with alarms := a } := by
  unfold portMove
  dsimp only
  rw [if_neg h]
  exact ⟨_, rfl⟩

theorem rearmExpires_idle {p : Fin 12} {s : State} (h : (s.port p).rearm.due = false) :
    rearmExpires p s = s := by
  unfold rearmExpires
  rw [h]
  rfl

theorem rearmExpires_squelched {p : Fin 12} {s : State} (due : (s.port p).rearm.due = true)
    (h : (s.port p).state = .squelched) : ∃ a, rearmExpires p s = { s.setPort p { s.port p with
      rearm := Timer.stopped, state := .active, activated := decide (s.time.frac = 0) } with
        alarms := a } := by
  have squelched : ((portRearm p Timer.stopped s).port p).state = .squelched := by
    simp [portRearm, h]
  obtain ⟨a, move⟩ := portMove_writes (new := .active) (by rw [squelched]; decide) .rearm
  refine ⟨a, ?_⟩
  unfold rearmExpires
  dsimp only
  rw [if_pos due, if_pos squelched, move]
  simp [portRearm, setPort_setPort]

/-! ## A move of an alarm entry (R169 to R172, R176) -/

/-- What a notice changes in the alarm table is the entry of NOTICE_OVERFLOW (R176). -/
theorem postNotice_entry (now : Nat) (x : Notice) (u : AlarmUnit) {k : AlarmKind}
    (h : k ≠ .noticeOverflow) (n : Nat) : (postNotice now x u).entry? k n = u.entry? k n := by
  unfold postNotice
  split
  · rfl
  · dsimp only
    split
    · rename_i e present
      rw [setEntry_entry present, if_neg (by simp [h])]
      rfl
    · rfl

theorem postAlarm_entry (now : Nat) (k : AlarmKind) (n : Nat) (c : AlarmConfig) (r : EntryStep)
    (u : AlarmUnit) : (postAlarm now k n c r u).entry? k n = u.entry? k n := by
  unfold postAlarm
  split
  · split
    · rfl
    · rename_i reported
      exact postNotice_entry _ _ _ (fun own => reported (.inr own)) _
  · rfl

theorem postAlarm_noticeOverflow (now n : Nat) (c : AlarmConfig) (r : EntryStep) (u : AlarmUnit) :
    postAlarm now .noticeOverflow n c r u = u := by
  unfold postAlarm
  split
  · exact if_pos (.inr rfl)
  · rfl

/-- Outputs that obey their law stand as they are (R174, R178). -/
theorem refreshOutputs_of_law {u : AlarmUnit} (h : AlarmLaw u) : refreshOutputs u = u := by
  have crit : contactAsserted .critical u = u.crit :=
    Bool.eq_iff_iff.mpr ((outstanding_iff .critical u).trans h.crit.symm)
  have maj : contactAsserted .major u = u.maj :=
    Bool.eq_iff_iff.mpr ((outstanding_iff .major u).trans h.maj.symm)
  have attention : (!u.queue.isEmpty && u.attentionOn) = u.attention :=
    Bool.eq_iff_iff.mpr (by simp [h.attention])
  unfold refreshOutputs
  rw [crit, maj, attention]

section Move

variable {f : AlarmConfig → Nat → AlarmEntry → EntryStep} {k : AlarmKind} {n : Nat} {s : State}
  {e : AlarmEntry}

theorem moveAlarm_idle (law : AlarmLaw s.alarms) (h : s.alarms.entry? k n = some e)
    (idle : f (s.alarms.group k).config s.time.base e = (e, none)) : s.moveAlarm f k n = s := by
  have same : moveEntry f s.time.base k n s.alarms = s.alarms :=
    moveEntry_same f _ k n _ fun x hx => by
      rw [h] at hx
      cases hx
      exact idle
  unfold State.moveAlarm
  rw [same, refreshOutputs_of_law law, setAlarms_self]

/-- A move writes its entry, and no notice where the entry is NOTICE_OVERFLOW's own (R170, R176). -/
theorem moveAlarm_writes (h : s.alarms.entry? k n = some e) : ∃ a : AlarmUnit,
    s.moveAlarm f k n = { s with alarms := a }
      ∧ a.entry? k n = some (f (s.alarms.group k).config s.time.base e).1
      ∧ (k = .noticeOverflow → a.queue = s.alarms.queue ∧ a.dropped = s.alarms.dropped) := by
  have moved : moveEntry f s.time.base k n s.alarms = postAlarm s.time.base k n (s.alarms.group k).config
      (f (s.alarms.group k).config s.time.base e)
      (s.alarms.setEntry k n (f (s.alarms.group k).config s.time.base e).1) := by
    unfold moveEntry
    rw [h]
  refine ⟨_, rfl, ?_, ?_⟩
  · rw [moved]
    refine (postAlarm_entry _ k n _ _ _).trans ?_
    rw [setEntry_entry h, if_pos rfl]
  · rintro rfl
    rw [moved, postAlarm_noticeOverflow]
    exact ⟨rfl, rfl⟩

end Move

/-! ## The raise and the clear delay (R171, R172) -/

section Delay

variable {c : AlarmConfig} {now : Nat} {e : AlarmEntry}

theorem entryRaiseExpires_idle (h : e.state ≠ .pendingRaise ∨ e.timer.due = false) :
    entryRaiseExpires c now e = (e, none) :=
  if_neg fun ⟨state, due⟩ => h.elim (fun other => other state) fun off => by rw [due] at off; cases off

theorem entryClearExpires_idle (h : e.state ≠ .pendingClear ∨ e.timer.due = false) :
    entryClearExpires c now e = (e, none) :=
  if_neg fun ⟨state, due⟩ => h.elim (fun other => other state) fun off => by rw [due] at off; cases off

theorem entryRaiseExpires_raised (state : e.state = .pendingRaise) (due : e.timer.due = true) :
    (entryRaiseExpires c now e).1 = { e with
      state := .raised, timer := Timer.stopped, acknowledged := false
      raiseCount := min 255 (e.raiseCount + 1), raisedAt := some now } := by
  unfold entryRaiseExpires
  rw [if_pos ⟨state, due⟩, ← satSucc_eq_min]
  rfl

theorem entryClearExpires_ended (state : e.state = .pendingClear) (due : e.timer.due = true) :
    (entryClearExpires c now e).1 = { e with
      state := if c.latch = true ∧ e.acknowledged = false then .latched else .clear
      timer := Timer.stopped, clearedAt := some now, acknowledged := false } := by
  unfold entryClearExpires endClear
  rw [if_pos ⟨state, due⟩]
  by_cases latches : c.latch = true ∧ e.acknowledged = false
  · rw [if_pos (by simpa using latches), if_pos latches, ← latches.2]
  · rw [if_neg (by simpa using latches), if_neg latches]

end Delay

/-- Settles O58: the selector's clauses, then those of the ports, then those of the alarm entries. -/
theorem selectorPortAndAlarmTimersExpire : Obligations.SelectorPortAndAlarmTimersExpire := by
  refine ⟨fun s => ⟨fun idle => ?dwellIdle, fun due => ?dwell⟩,
    fun p s => ⟨fun idle => ?rearmIdle, fun due squelched => ?rearm⟩,
    fun k n s e law h => ⟨fun idle => ?raiseIdle, fun idle => ?clearIdle, fun state due => ?raise,
      fun state due => ?clear⟩⟩
  case dwellIdle => exact congrArg Host.Outcome.next (dwellExpires_idle idle)
  case dwell =>
    obtain ⟨part, time, filter, chain, scheduler, link, flash, pending⟩ := dwellExpires_frame s
    exact ⟨dwellExpires s, rfl, by rw [dwellExpires_due due]; rfl, dwellExpires_kept due,
      fun k b => dwellExpires_switches due, time, filter, chain, scheduler, link, part, flash, pending⟩
  case rearmIdle => exact congrArg Host.Outcome.next (rearmExpires_idle idle)
  case rearm =>
    obtain ⟨a, run⟩ := rearmExpires_squelched due squelched
    exact ⟨a, congrArg Host.Outcome.next run⟩
  case raiseIdle =>
    exact congrArg Host.Outcome.next (moveAlarm_idle law h (entryRaiseExpires_idle idle))
  case clearIdle =>
    exact congrArg Host.Outcome.next (moveAlarm_idle law h (entryClearExpires_idle idle))
  case raise =>
    obtain ⟨a, run, entry, quiet⟩ := moveAlarm_writes (f := entryRaiseExpires) h
    rw [entryRaiseExpires_raised state due] at entry
    exact ⟨a, congrArg Host.Outcome.next run, entry, quiet⟩
  case clear =>
    obtain ⟨a, run, entry, quiet⟩ := moveAlarm_writes (f := entryClearExpires) h
    rw [entryClearExpires_ended state due] at entry
    exact ⟨a, congrArg Host.Outcome.next run, entry, quiet⟩

end Sys2Proof.Machine
end

section
set_option Elab.async false

namespace Sys2Proof.Machine

open Sys2Proof.Safety

/-! ## Saving the profile (R74, R187, R189) -/

section Save

variable {s : State}

theorem requestSaveProfile_busy (h : s.part = .saving) : requestSaveProfile s = refuse .busy s := if_pos h

theorem requestSaveProfile_running (h : s.part = .running) :
    requestSaveProfile s = (beginSave s, okWith []) := if_neg (by rw [h]; decide)

/-- The success of a save writes the image, and reports to the alarm unit (R189). -/
theorem saveSucceeds_writes {p : Profile} (h : s.link.saving = some p) :
    ∃ a : AlarmUnit, saveSucceeds s = { s with
      part := .running
      flash := some { markerCorrect := true, checkMatches := true, profile := p }
      link := { s.link with saving := none, defaulted := false }
      alarms := a } := by
  unfold saveSucceeds
  rw [h]
  exact ⟨_, rfl⟩

/-- The failure of a save leaves the flash without an image, and reports to the alarm unit (R189). -/
theorem saveFails_writes (s : State) : ∃ a : AlarmUnit, saveFails s = { s with
    part := .running, link := { s.link with saving := none }, alarms := a } := ⟨_, rfl⟩

theorem saveDone_matches (h : s.part = .saving) : saveDone .readBackMatches s = saveSucceeds s := if_pos h

theorem saveDone_fails (h : s.part = .saving) {r : SaveResult} (failed : r ≠ .readBackMatches) :
    saveDone r s = saveFails s := by
  cases r
  case readBackMatches => exact absurd rfl failed
  case refused | readBackDiffers => exact if_pos h

theorem saveTimeout_fails (h : s.part = .saving) : saveTimeout s = saveFails s := if_pos h

theorem saveDone_idle (h : s.part ≠ .saving) (r : SaveResult) : saveDone r s = s := if_neg h

theorem saveTimeout_idle (h : s.part ≠ .saving) : saveTimeout s = s := if_neg h

end Save

/-! ### The snapshot -/

theorem snapshot_refs (s : State) (k : Slot) : (snapshot s).refs.get k = (s.ref k).config :=
  PerSlot.get_of _ k

theorem snapshot_ports (s : State) (p : Fin 12) : (snapshot s).ports[p] = (s.port p).config := by
  simp [snapshot, State.port]

theorem snapshot_alarms (s : State) (k : AlarmKind) :
    (snapshot s).alarms[alarmIndex k] = (s.alarms.group k).config := by
  simp [snapshot, AlarmUnit.group]

/-- Settles O42: how a save begins and ends, then the records of the snapshot. -/
theorem profileIsSaved : Obligations.ProfileIsSaved := by
  refine ⟨fun tag s => ⟨fun h saving => ?busy, fun h running => ?begun, fun saving p held => ?succeeds,
    fun saving => ?fails, fun other => ⟨fun r => ?idleDone, ?idleTimeout⟩⟩, fun s => ?snapshot⟩
  case busy => exact refusal_answers h 0x3D tag (requestSaveProfile_busy saving)
  case begun =>
    refine congrArg Host.Outcome.next ((takeTyped_of_takes h 0x3D tag requestSaveProfile).trans ?_)
    rw [requestSaveProfile_running running]
    rfl
  case succeeds =>
    obtain ⟨a, run⟩ := saveSucceeds_writes held
    exact ⟨a, congrArg Host.Outcome.next ((saveDone_matches saving).trans run)⟩
  case fails =>
    obtain ⟨a, run⟩ := saveFails_writes s
    exact ⟨a, congrArg Host.Outcome.next ((saveDone_fails saving (r := .refused) (by decide)).trans run),
      congrArg Host.Outcome.next ((saveDone_fails saving (r := .readBackDiffers) (by decide)).trans run),
      congrArg Host.Outcome.next ((saveTimeout_fails saving).trans run)⟩
  case idleDone => exact congrArg Host.Outcome.next (saveDone_idle other r)
  case idleTimeout => exact congrArg Host.Outcome.next (saveTimeout_idle other)
  case snapshot =>
    exact ⟨snapshot_refs s, rfl, rfl, rfl, rfl, snapshot_ports s, snapshot_alarms s, rfl, rfl, rfl⟩

end Sys2Proof.Machine
end

section
set_option Elab.async false

namespace Sys2Proof.Machine

open Sys2Proof.Safety

/-! ## SET_SERVO and ALLOW_STEP (R89, R90, R92) -/

section ServoRequests

variable {c : ServoConfig} {s : State}

theorem requestSetServo_good (h : servoOk c = true) : requestSetServo c s = (configureServo c s, okWith []) :=
  if_pos h

theorem requestSetServo_bad (h : servoOk c = false) : requestSetServo c s = refuse .invalid s :=
  if_neg (by rw [h]; decide)

theorem configureServo_same (h : s.servo.config.pullRange = c.pullRange) :
    configureServo c s = s.setServo { s.servo with config := c } :=
  if_neg (by simp [h])

/-- A changed pull range clamps I and F to it and clears the pull runs; the condition that goes away with
them reaches the alarm unit alone (R89). -/
theorem configureServo_changed (h : s.servo.config.pullRange ≠ c.pullRange) :
    ∃ a : AlarmUnit, configureServo c s = { s with
      servo := { s.servo with
        config := c, estimate := clampTo c.pullRange s.servo.estimate, clampRun := 0, unclampRun := 0
        pullLimit := false }
      time := { s.time with correction := clampTo c.pullRange s.time.correction }
      alarms := a } :=
  ⟨_, if_pos (by simpa using h)⟩

end ServoRequests

/-- Settles O30. -/
theorem servoIsConfiguredAndAllowedAStep : Obligations.ServoIsConfiguredAndAllowedAStep := by
  refine ⟨fun tag c s h => ⟨fun bad => ?refused, fun good same => ?same, fun good changed => ?changed⟩,
    fun tag s h => ?token⟩
  case refused => exact refusal_answers h 0x18 tag (requestSetServo_bad bad)
  case same =>
    have run := (requestSetServo_good good).trans (congrArg (·, okWith []) (configureServo_same same))
    exact congrArg Host.Outcome.next (takeTyped_okWith h 0x18 tag run rfl)
  case changed =>
    obtain ⟨a, run⟩ := configureServo_changed changed
    have run := (requestSetServo_good good).trans (congrArg (·, okWith []) run)
    exact ⟨a, congrArg Host.Outcome.next (takeTyped_okWith h 0x18 tag run rfl)⟩
  case token =>
    exact congrArg Host.Outcome.next (takeTyped_okWith h 0x1A tag (f := requestAllowStep) rfl rfl)

end Sys2Proof.Machine
end

section
set_option Elab.async false

namespace Sys2Proof.Machine

/-! ## A step that reaches no pending action (R8 to R11, R33, R164) -/

theorem eventAmount_stepEvent (kind : StepKind) (a : Int) (s : State) :
    eventAmount (stepEvent kind a s) = appliedAmount a s :=
  Int.tdiv_mul_add_tmod _ _

theorem chainStep_capture (ev : StepEvent) (c : ChainUnit) (p : ChainPort) :
    ((chainStep ev c).record p).capture = (c.record p).capture.map (· + eventAmount ev) := by
  cases p <;> rfl

/-- A window given up at a step leaves what the step itself writes in the monitor. -/
theorem windowStep_runs (n : Nat) (m : Monitor) :
    (windowStep n m).mismatch = m.mismatch ∧ (windowStep n m).skipNext = m.skipNext := by
  unfold windowStep
  (repeat' split) <;> exact ⟨rfl, rfl⟩

theorem monitorStep_phase {ev : StepEvent} {k : Slot} (kind : ev.kind = .phase) (slot : isLine k = false)
    (m : Monitor) : (monitorStep ev k m).skipNext = true := by
  simp [monitorStep, kind, isPhase, slot]

theorem monitorStep_seconds {ev : StepEvent} (kind : ev.kind = .seconds) (k : Slot) (m : Monitor) :
    (monitorStep ev k m).mismatch = { count := 0, value := 0 }
      ∧ (monitorStep ev k m).skipNext = m.skipNext := by
  simp [monitorStep, kind]

theorem monitorsStep_ref (ev : StepEvent) (s : State) (k : Slot) : (monitorsStep ev s).ref k
    = windowStep (windowOf s.reading) (monitorStep ev k (s.ref k)) := State.setRefs_refs_ref _ _ k

theorem schedulerStep_quiet {ev : StepEvent} {s : State}
    (quiet : ∀ a ∈ s.scheduler.table, dueAtStep ev a = false) : schedulerStep ev s = s := by
  have none : s.scheduler.table.filter (dueAtStep ev) = [] := by simpa using quiet
  unfold schedulerStep
  rw [none]
  rfl

/-- A presented step that makes no action due leaves the time base, the servo and the scheduler (R10). -/
theorem presentStep_quiet {ev : StepEvent} {s : State}
    (quiet : ∀ a ∈ s.scheduler.table, dueAtStep ev a = false) :
    (presentStep ev s).time = s.time ∧ (presentStep ev s).servo = s.servo
      ∧ (presentStep ev s).scheduler = s.scheduler ∧ (presentStep ev s).chain = chainStep ev s.chain
      ∧ ∀ k, (presentStep ev s).ref k
        = windowStep (windowOf s.reading) (monitorStep ev k (s.ref k)) := by
  unfold presentStep
  dsimp only
  rw [schedulerStep_quiet (by simpa using quiet)]
  refine ⟨by simp, by simp, by simp, by simp, fun k => ?_⟩
  rw [State.ref, (portsStep_frame ..).2.2.1, (holdoverStep_frame _).2.2.1]
  exact monitorsStep_ref ev _ k

/-- A step forward makes no action due that lies ahead of the reading it leads to (R164). -/
theorem dueAtStep_ahead {kind : StepKind} {a : Int} {s : State} {x : Action}
    (ahead : clampReading ((s.reading : Int) + a) < x.due * 1000000000000) :
    dueAtStep (stepEvent kind a s) x = false := by
  have later : ¬ x.due ≤ clampReading ((s.reading : Int) + a) / 1000000000000 := by omega
  simp [dueAtStep, stepEvent, moveTime_base, Config.second, later]

theorem clampReading_eq {r : Int} {n : Nat}
    (h : (n : Int) = max 0 (min 281474976710655999999999999 r)) : clampReading r = n := by
  simp only [clampReading, Config.lastInstant, Config.second, Config.maxSeconds]
  omega

/-- Where a step that moved the reading to `n` and took no action leaves the state: it is counted, it
consumed the token, and it was presented to the chain unit and the monitors (R9 to R11, R91). -/
structure SteppedTo (kind : StepKind) (n : Nat) (s t : State) : Prop where
  time : t.time = { s.time with
    base := n / 1000000000000, frac := n % 1000000000000
    endOfRange := decide (n = 281474976710655999999999999), landed := true
    stepCount := min 65535 (s.time.stepCount + 1) }
  token : t.servo.token = false
  scheduler : t.scheduler = s.scheduler
  capture : ∀ p, (t.chain.record p).capture
    = (s.chain.record p).capture.map fun x => x + ((n : Int) - s.reading)
  monitors : ∃ ev, ev.kind = kind ∧ ∀ k, t.ref k = windowStep (windowOf n) (monitorStep ev k (s.ref k))

section Step

variable {kind : StepKind} {a : Int} {n : Nat} {s : State}

theorem appliedAmount_eq (lands : clampReading ((s.reading : Int) + a) = n) :
    appliedAmount a s = (n : Int) - s.reading := by
  unfold appliedAmount
  rw [lands]

theorem appliedAmount_eq_zero (lands : clampReading ((s.reading : Int) + a) = n) :
    appliedAmount a s = 0 ↔ n = s.reading := by
  rw [appliedAmount_eq lands]
  omega

theorem performStep_still (lands : clampReading ((s.reading : Int) + a) = n) (still : n = s.reading) :
    performStep kind a s = s := performStep_of_zero ((appliedAmount_eq_zero lands).mpr still)

theorem stepped_time_eq (lands : clampReading ((s.reading : Int) + a) = n) (moved : n ≠ s.reading) :
    (stepped kind a s).time = { s.time with
      base := n / 1000000000000, frac := n % 1000000000000
      endOfRange := decide (n = 281474976710655999999999999), landed := true
      stepCount := min 65535 (s.time.stepCount + 1) } := by
  have landed : (s.time.landed || decide (n ≠ s.time.base * Config.second + s.time.frac)) = true := by
    rw [decide_eq_true (p := n ≠ s.time.base * Config.second + s.time.frac) moved, Bool.or_true]
  rw [stepped_time, moved_time, lands, landed, satSucc_eq_min]
  rfl

theorem stepped_quiet (lands : clampReading ((s.reading : Int) + a) = n)
    (ahead : ∀ x ∈ s.scheduler.table, n < x.due * 1000000000000) :
    ∀ x ∈ (stepped kind a s).scheduler.table, dueAtStep (stepEvent kind a s) x = false := by
  rw [stepped_scheduler]
  exact fun x hx => dueAtStep_ahead (lands ▸ ahead x hx)

/-- A step writes the token of the servo alone, and the scheduler stays where it makes no action due. -/
theorem performStep_servo (lands : clampReading ((s.reading : Int) + a) = n)
    (ahead : ∀ x ∈ s.scheduler.table, n < x.due * 1000000000000) :
    (performStep kind a s).scheduler = s.scheduler
      ∧ ∃ held, (performStep kind a s).servo = { s.servo with token := held } := by
  by_cases still : n = s.reading
  · rw [performStep_still lands still]
    exact ⟨rfl, s.servo.token, rfl⟩
  · rw [performStep_of_applied fun zero => still ((appliedAmount_eq_zero lands).mp zero)]
    obtain ⟨-, servo, table, -, -⟩ := presentStep_quiet (stepped_quiet (kind := kind) lands ahead)
    exact ⟨table.trans (stepped_scheduler kind a s), false, servo.trans (by simp [stepped])⟩

theorem performStep_moved (lands : clampReading ((s.reading : Int) + a) = n) (moved : n ≠ s.reading)
    (ahead : ∀ x ∈ s.scheduler.table, n < x.due * 1000000000000) :
    SteppedTo kind n s (performStep kind a s) := by
  have reading : (stepped kind a s).reading = n := by
    rw [reading_eq, stepped_time_eq lands moved]
    exact Nat.div_add_mod' n _
  rw [performStep_of_applied fun zero => moved ((appliedAmount_eq_zero lands).mp zero)]
  obtain ⟨time, servo, table, chain, monitors⟩ :=
    presentStep_quiet (stepped_quiet (kind := kind) lands ahead)
  refine ⟨time.trans (stepped_time_eq lands moved), ?_, table.trans (stepped_scheduler kind a s),
    fun p => ?_, stepEvent kind a s, rfl, fun k => ?_⟩
  · rw [servo, stepped_token]
  · rw [chain, chainStep_capture, eventAmount_stepEvent, appliedAmount_eq lands]
    simp [stepped]
  · rw [monitors k, reading]
    simp [stepped, State.ref]

end Step

theorem SteppedTo.of_blocks {kind : StepKind} {n : Nat} {s u t : State} (h : SteppedTo kind n s u)
    (time : t.time = u.time) (token : t.servo.token = u.servo.token) (scheduler : t.scheduler = u.scheduler)
    (chain : t.chain = u.chain) (refs : t.refs = u.refs) : SteppedTo kind n s t where
  time := time.trans h.time
  token := token.trans h.token
  scheduler := scheduler.trans h.scheduler
  capture := chain ▸ h.capture
  monitors := by
    unfold State.ref
    rw [refs]
    exact h.monitors

theorem SteppedTo.skipNext {n : Nat} {s t : State} (h : SteppedTo .phase n s t) {k : Slot}
    (slot : isLine k = false) : (t.ref k).skipNext = true := by
  obtain ⟨ev, kind, run⟩ := h.monitors
  rw [run, (windowStep_runs _ _).2, monitorStep_phase kind slot]

theorem SteppedTo.mismatch {n : Nat} {s t : State} (h : SteppedTo .seconds n s t) (k : Slot) :
    (t.ref k).mismatch = { count := 0, value := 0 } ∧ (t.ref k).skipNext = (s.ref k).skipNext := by
  obtain ⟨ev, kind, run⟩ := h.monitors
  rw [run, (windowStep_runs _ _).1, (windowStep_runs _ _).2]
  exact monitorStep_seconds kind k _

end Sys2Proof.Machine
end

section
set_option Elab.async false

namespace Sys2Proof.Machine

/-! ## The servo while it moves the loop and judges the lock (R83 to R88) -/

/-- The pull-limit run writes its own fields alone (R85). -/
theorem countPull_servo (b : Bool) (s : State) : ∃ x y z, (countPull b s).servo =
    { s.servo with clampRun := x, unclampRun := y, pullLimit := z } := by
  have counted : (countPull b s).servo = if b then clampedRuns s.servo else unclampedRuns s.servo := by
    simp [countPull]
  rw [counted]
  unfold clampedRuns unclampedRuns
  dsimp only
  (repeat' split) <;> exact ⟨_, _, _, rfl⟩

/-- A move written and its pull-limit run counted: the state that the lock judgement reads. -/
def movedLoop (m : Move) (s : State) : State := countPull m.terms.clamped (writeMove m s)

theorem movedLoop_servo (m : Move) (s : State) : ∃ x y z, (movedLoop m s).servo =
    { s.servo with estimate := m.estimate, clampRun := x, unclampRun := y, pullLimit := z } :=
  countPull_servo _ _

theorem movedLoop_time (m : Move) (s : State) :
    (movedLoop m s).time = { s.time with correction := m.correction } := by
  simp [movedLoop, writeMove]

theorem servoEnter_writes {new : ServoState} {c : ServoCause} {s : State} (h : s.servo.state ≠ new) :
    (servoEnter new c s).servo = { s.servo with state := new, since := s.time.base } := by
  unfold servoEnter
  dsimp only
  rw [if_neg h]
  split <;> simp

/-! ### The lock judgement (R86) -/

section Judgement

variable {e : Int} {s : State}

theorem judgeAcquiring_outside (far : s.servo.config.lockThreshold < e.natAbs) :
    (judgeAcquiring e s).servo = { s.servo with lockRun := 0 } := by
  unfold judgeAcquiring
  dsimp only
  rw [if_neg (Nat.not_le.mpr far)]
  rfl

theorem judgeAcquiring_counts (near : e.natAbs ≤ s.servo.config.lockThreshold)
    (few : min 255 (s.servo.lockRun + 1) < s.servo.config.lockCount) :
    (judgeAcquiring e s).servo = { s.servo with lockRun := min 255 (s.servo.lockRun + 1) } := by
  unfold judgeAcquiring
  dsimp only
  rw [if_pos near, satSucc_eq_min, if_neg (Nat.not_le.mpr few)]
  rfl

theorem judgeAcquiring_locks (state : s.servo.state = .acquiring)
    (near : e.natAbs ≤ s.servo.config.lockThreshold)
    (enough : s.servo.config.lockCount ≤ min 255 (s.servo.lockRun + 1)) :
    (judgeAcquiring e s).servo =
      { s.servo with lockRun := 0, unlockRun := 0, state := .locked, since := s.time.base } := by
  have other : (s.setServo (clearLockRuns s.servo)).servo.state ≠ .locked :=
    fun h => nomatch state.symm.trans h
  unfold judgeAcquiring
  dsimp only
  rw [if_pos near, satSucc_eq_min, if_pos enough, servoEnter_writes other]
  rfl

theorem judgeLocked_inside (near : e.natAbs ≤ s.servo.config.unlockThreshold) :
    (judgeLocked e s).servo = { s.servo with unlockRun := 0 } := by
  unfold judgeLocked
  dsimp only
  rw [if_neg (Nat.not_lt.mpr near)]
  rfl

theorem judgeLocked_counts (far : s.servo.config.unlockThreshold < e.natAbs)
    (few : s.servo.unlockRun < 2) :
    (judgeLocked e s).servo = { s.servo with unlockRun := s.servo.unlockRun + 1 } := by
  have run : satSucc 3 s.servo.unlockRun = s.servo.unlockRun + 1 := by rw [satSucc_eq_min]; omega
  unfold judgeLocked
  dsimp only
  rw [if_pos far, run, if_neg (by omega)]
  rfl

theorem judgeLocked_unlocks (state : s.servo.state = .locked)
    (far : s.servo.config.unlockThreshold < e.natAbs) (enough : 2 ≤ s.servo.unlockRun) :
    (judgeLocked e s).servo =
      { s.servo with lockRun := 0, unlockRun := 0, state := .acquiring, since := s.time.base } := by
  have run : 3 ≤ satSucc 3 s.servo.unlockRun := by rw [satSucc_eq_min]; omega
  have other : (s.setServo (clearLockRuns s.servo)).servo.state ≠ .acquiring :=
    fun h => nomatch state.symm.trans h
  unfold judgeLocked
  dsimp only
  rw [if_pos far, if_pos run, servoEnter_writes other]
  rfl

end Judgement

/-- What the lock judgement leaves of the servo: its record, I and the token. -/
def loopOf (v : Servo) : ServoConfig × Int × Bool := (v.config, v.estimate, v.token)

theorem servoEnter_loop (new : ServoState) (c : ServoCause) (s : State) :
    loopOf (servoEnter new c s).servo = loopOf s.servo := by
  by_cases h : s.servo.state = new
  · unfold servoEnter
    rw [if_pos h]
  · rw [servoEnter_writes h]
    rfl

theorem judgeAcquiring_loop (e : Int) (s : State) :
    loopOf (judgeAcquiring e s).servo = loopOf s.servo := by
  unfold judgeAcquiring
  dsimp only
  (repeat' split)
  · exact servoEnter_loop ..
  · rfl
  · rfl

theorem judgeLocked_loop (e : Int) (s : State) : loopOf (judgeLocked e s).servo = loopOf s.servo := by
  unfold judgeLocked
  dsimp only
  (repeat' split)
  · exact servoEnter_loop ..
  · rfl
  · rfl

/-! ## An update that slews (R82 to R87) -/

/-- What an update without a step leaves: I and F at these values, and the other blocks as they were. -/
def Slews (s : State) (u : Update) (i f : Int) : Prop :=
  u.made = s.servo.state ∧ u.step = none ∧ u.result.servo.estimate = i
    ∧ u.result.time = { s.time with correction := f } ∧ u.result.servo.config = s.servo.config
    ∧ u.result.servo.token = s.servo.token ∧ u.result.selector = s.selector
    ∧ u.result.filter = s.filter ∧ u.result.chain = s.chain ∧ u.result.scheduler = s.scheduler
    ∧ u.result.link = s.link ∧ u.result.part = s.part

/-- Where the lock judgement of an update leaves the servo. -/
def Judged (s : State) (u : Update) (state : ServoState) (lock unlock : Nat) : Prop :=
  u.result.servo.state = state ∧ u.result.servo.lockRun = lock ∧ u.result.servo.unlockRun = unlock
    ∧ u.result.servo.since = (if state = s.servo.state then s.servo.since else s.time.base)

theorem loopOf_movedLoop (m : Move) (s : State) :
    loopOf (movedLoop m s).servo = (s.servo.config, m.estimate, s.servo.token) := by
  obtain ⟨x, y, z, servo⟩ := movedLoop_servo m s
  rw [servo]
  rfl

/-- The move of a slewing update in this state. -/
def slewMove (e : Int) (level : Nat) (s : State) : Move :=
  phaseMove s.servo.config s.servo.state level e s.servo.estimate s.time.correction

theorem slewUpdate_result (e : Int) (level : Nat) (s : State) : (slewUpdate e level s).result =
    if s.servo.state = .acquiring then judgeAcquiring e (movedLoop (slewMove e level s) s)
    else judgeLocked e (movedLoop (slewMove e level s) s) := rfl

theorem slewUpdate_loop (e : Int) (level : Nat) (s : State) : loopOf (slewUpdate e level s).result.servo
    = (s.servo.config, (slewMove e level s).estimate, s.servo.token) := by
  rw [slewUpdate_result, ← loopOf_movedLoop]
  split
  · exact judgeAcquiring_loop ..
  · exact judgeLocked_loop ..

theorem slewUpdate_slews (e : Int) (level : Nat) (s : State) : Slews s (slewUpdate e level s)
    (slewMove e level s).estimate (slewMove e level s).correction := by
  obtain ⟨part, filter, selector, chain, scheduler, link, -, -⟩ := slewUpdate_frame e level s
  have loop := slewUpdate_loop e level s
  have time : (slewUpdate e level s).result.time
      = { s.time with correction := (slewMove e level s).correction } := by
    rw [slewUpdate_result, ← movedLoop_time]
    split <;> simp
  exact ⟨rfl, rfl, congrArg (·.2.1) loop, time, congrArg (·.1) loop, congrArg (·.2.2) loop, selector,
    filter, chain, scheduler, link, part⟩

theorem freqUpdate_slews {s : State} (fe : Int) (state : s.servo.state = .freqLocked) :
    Slews s (freqUpdate fe s)
      (freqMove s.servo.config fe s.servo.estimate s.time.correction).estimate
      (freqMove s.servo.config fe s.servo.estimate s.time.correction).correction := by
  obtain ⟨part, -, filter, selector, -, -, chain, scheduler, link, -, -⟩ := freqUpdate_frame fe s
  have loop := loopOf_movedLoop (freqMove s.servo.config fe s.servo.estimate s.time.correction) s
  exact ⟨state.symm, rfl, congrArg (·.2.1) loop, movedLoop_time _ s, congrArg (·.1) loop,
    congrArg (·.2.2) loop, selector, filter, chain, scheduler, link, part⟩

section Slew

variable {e : Int} {level : Nat} {s : State}

theorem slewUpdate_acquiring (state : s.servo.state = .acquiring) :
    (slewUpdate e level s).result = judgeAcquiring e (movedLoop (slewMove e level s) s) :=
  (slewUpdate_result e level s).trans (if_pos state)

theorem slewUpdate_locked (state : s.servo.state = .locked) :
    (slewUpdate e level s).result = judgeLocked e (movedLoop (slewMove e level s) s) :=
  (slewUpdate_result e level s).trans (if_neg (by rw [state]; decide))

/-- The lock judgement of an update in ACQUIRING (R86). -/
theorem slewUpdate_judgesAcquiring (state : s.servo.state = .acquiring) :
    (s.servo.config.lockThreshold < e.natAbs →
        Judged s (slewUpdate e level s) .acquiring 0 s.servo.unlockRun)
    ∧ (e.natAbs ≤ s.servo.config.lockThreshold →
        min 255 (s.servo.lockRun + 1) < s.servo.config.lockCount →
        Judged s (slewUpdate e level s) .acquiring (min 255 (s.servo.lockRun + 1)) s.servo.unlockRun)
    ∧ (e.natAbs ≤ s.servo.config.lockThreshold →
        s.servo.config.lockCount ≤ min 255 (s.servo.lockRun + 1) →
        Judged s (slewUpdate e level s) .locked 0 0) := by
  obtain ⟨x, y, z, servo⟩ := movedLoop_servo (slewMove e level s) s
  have time := movedLoop_time (slewMove e level s) s
  unfold Judged
  rw [slewUpdate_acquiring state, state]
  generalize movedLoop (slewMove e level s) s = t at servo time
  refine ⟨fun far => ?_, fun near few => ?_, fun near enough => ?_⟩
  · rw [judgeAcquiring_outside (by rwa [servo]), servo]
    exact ⟨state, rfl, rfl, rfl⟩
  · rw [judgeAcquiring_counts (by rwa [servo]) (by rwa [servo]), servo]
    exact ⟨state, rfl, rfl, rfl⟩
  · rw [judgeAcquiring_locks (by rwa [servo]) (by rwa [servo]) (by rwa [servo]), servo, time]
    exact ⟨rfl, rfl, rfl, rfl⟩

/-- The lock judgement of an update in LOCKED (R86). -/
theorem slewUpdate_judgesLocked (state : s.servo.state = .locked) :
    (e.natAbs ≤ s.servo.config.unlockThreshold →
        Judged s (slewUpdate e level s) .locked s.servo.lockRun 0)
    ∧ (s.servo.config.unlockThreshold < e.natAbs → s.servo.unlockRun < 2 →
        Judged s (slewUpdate e level s) .locked s.servo.lockRun (s.servo.unlockRun + 1))
    ∧ (s.servo.config.unlockThreshold < e.natAbs → 2 ≤ s.servo.unlockRun →
        Judged s (slewUpdate e level s) .acquiring 0 0) := by
  obtain ⟨x, y, z, servo⟩ := movedLoop_servo (slewMove e level s) s
  have time := movedLoop_time (slewMove e level s) s
  unfold Judged
  rw [slewUpdate_locked state, state]
  generalize movedLoop (slewMove e level s) s = t at servo time
  refine ⟨fun near => ?_, fun far few => ?_, fun far enough => ?_⟩
  · rw [judgeLocked_inside (by rwa [servo]), servo]
    exact ⟨state, rfl, rfl, rfl⟩
  · rw [judgeLocked_counts (by rwa [servo]) (by rwa [servo]), servo]
    exact ⟨state, rfl, rfl, rfl⟩
  · rw [judgeLocked_unlocks (by rwa [servo]) (by rwa [servo]) (by rwa [servo]), servo, time]
    exact ⟨rfl, rfl, rfl, rfl⟩

end Slew

/-- The shifts of an update in LOCKED, widened by the level with adaptive on (R83). -/
theorem phaseShifts_locked (c : ServoConfig) (level : Nat) : phaseShifts c .locked level =
    (if c.adaptive then min 31 (c.kp + level) else c.kp,
      if c.adaptive then min 31 (c.ki + 2 * level) else c.ki) := by
  unfold phaseShifts capShift
  rw [if_neg (by decide)]
  split <;> rfl

/-! ## Which update a servo state makes (R78, R80, R82) -/

section Made

variable {e : Int} {level : Nat} {s : State}

/-- ACQUIRING and LOCKED follow a phase slot. -/
def InPhase (s : State) : Prop := s.servo.state = .acquiring ∨ s.servo.state = .locked

theorem servoUpdate_phase (h : InPhase s) (e : Int) (level : Nat) :
    servoUpdate e level s = some (phaseUpdate e level s) := by
  unfold servoUpdate
  rcases h with h | h <;> rw [h]

theorem servoUpdate_freq (h : s.servo.state = .freqLocked) (e : Int) (level : Nat) :
    servoUpdate e level s = some (freqUpdate e s) := by
  unfold servoUpdate
  rw [h]

theorem servoUpdate_none (h : s.servo.state = .freerun ∨ s.servo.state = .holdover) (e : Int)
    (level : Nat) : servoUpdate e level s = none := by
  unfold servoUpdate
  rcases h with h | h <;> rw [h]

theorem firstUpdate_settled (h : s.servo.replacement = false) (e : Int) : firstUpdate e s = s :=
  if_neg (by rw [h]; decide)

theorem servoUpdate_slew (h : InPhase s) (settled : s.servo.replacement = false)
    (held : ¬ (s.servo.config.stepThreshold < e.natAbs ∧ s.servo.token = true)) :
    servoUpdate e level s = some (slewUpdate e level s) := by
  rw [servoUpdate_phase h, phaseUpdate, firstUpdate_settled settled]
  exact congrArg some (if_neg held)

theorem servoUpdate_step (h : InPhase s) (settled : s.servo.replacement = false)
    (far : s.servo.config.stepThreshold < e.natAbs) (token : s.servo.token = true) :
    servoUpdate e level s = some (phaseStepUpdate e s) := by
  rw [servoUpdate_phase h, phaseUpdate, firstUpdate_settled settled]
  exact congrArg some (if_pos ⟨far, token⟩)

end Made

/-! ## An update that a step ends (R81, R82, R93) -/

theorem stepKind_of_applied {kind : StepKind} {a : Int} {n : Nat} {s : State}
    (lands : clampReading ((s.reading : Int) + a) = n) :
    (if decide (appliedAmount a s ≠ 0) then some kind else none)
      = if n = s.reading then none else some kind := by
  have zero := appliedAmount_eq_zero lands
  by_cases still : n = s.reading
  · simp [still, zero.mpr still]
  · simp [still, mt zero.mp still]

/-- The measurement of a phase slot is recorded in last e and the allowance (R80). -/
theorem recordHandoff_phase {k : Slot} (slot : isLine k = false) (m : Measurement) (s : State) :
    recordHandoff k m s = s.setServo
      { s.servo with lastE := some m.value, allowance := m.allowance.getD s.servo.allowance } := by
  unfold recordHandoff
  rw [slot]
  rfl

theorem handoffUpdate_seconds {k : Slot} {m : Measurement} {d : Int} (level : Nat) (s : State)
    (ds : m.ds = some d) : handoffUpdate k m level true s =
      reportUpdate k m.value level (recordHandoff k m s) (secondsUpdate d (recordHandoff k m s)) := by
  unfold handoffUpdate
  dsimp only
  rw [ds]

/-- The record of an update, and what its report leaves (R93). -/
theorem reportUpdate_writes (k : Slot) (value : Int) (level : Nat) (before : State) (u : Update) :
    (reportUpdate k value level before u).servo = { u.result.servo with
        updates := min 255 (u.result.servo.updates + 1)
        lastUpdate := some
          { second := before.time.base, slot := k, value := value, state := u.made, terms := u.terms
            estimate := u.result.servo.estimate, fBefore := before.time.correction
            fAfter := u.result.time.correction, step := u.step } }
      ∧ (reportUpdate k value level before u).time = u.result.time
      ∧ (reportUpdate k value level before u).refs = u.result.refs
      ∧ (reportUpdate k value level before u).chain = u.result.chain
      ∧ (reportUpdate k value level before u).scheduler = u.result.scheduler := by
  simp [reportUpdate, satSucc_eq_min]

end Sys2Proof.Machine
end

section
set_option Elab.async false

namespace Sys2Proof.Machine

/-! ## The phase step and the seconds step of an update (R9, R81, R82, R93) -/

section StepEnds

variable {kind : StepKind} {a : Int} {n : Nat} {s : State}

/-- A step leaves F. -/
theorem performStep_correction (lands : clampReading ((s.reading : Int) + a) = n)
    (ahead : ∀ x ∈ s.scheduler.table, n < x.due * 1000000000000) :
    (performStep kind a s).time.correction = s.time.correction := by
  by_cases still : n = s.reading
  · rw [performStep_still lands still]
  · rw [(performStep_moved (kind := kind) lands still ahead).time]

end StepEnds

/-- The state in which the step check performs its step: both lock runs have returned to 0 (R82). -/
def runsCleared (s : State) : State := s.setServo (clearLockRuns s.servo)

theorem phaseStepUpdate_result (e : Int) (s : State) :
    (phaseStepUpdate e s).result = performStep .phase e (runsCleared s) := rfl

section PhaseStep

variable {e : Int} {n : Nat} {s : State}

theorem phaseStepUpdate_step (lands : clampReading ((s.reading : Int) + e) = n) :
    (phaseStepUpdate e s).step = if n = s.reading then none else some .phase :=
  stepKind_of_applied lands

theorem phaseStepUpdate_still (lands : clampReading ((s.reading : Int) + e) = n) (still : n = s.reading) :
    (phaseStepUpdate e s).result = runsCleared s :=
  performStep_still (s := runsCleared s) lands still

theorem phaseStepUpdate_moved (lands : clampReading ((s.reading : Int) + e) = n) (moved : n ≠ s.reading)
    (ahead : ∀ x ∈ s.scheduler.table, n < x.due * 1000000000000) :
    SteppedTo .phase n (runsCleared s) (phaseStepUpdate e s).result :=
  performStep_moved (s := runsCleared s) lands moved ahead

theorem phaseStepUpdate_servo (lands : clampReading ((s.reading : Int) + e) = n)
    (ahead : ∀ x ∈ s.scheduler.table, n < x.due * 1000000000000) :
    (phaseStepUpdate e s).result.scheduler = s.scheduler ∧ ∃ held,
      (phaseStepUpdate e s).result.servo = { s.servo with lockRun := 0, unlockRun := 0, token := held } :=
  performStep_servo (s := runsCleared s) lands ahead

end PhaseStep

section SecondsStep

variable {k : Slot} {m : Measurement} {d : Int} {n : Nat} {s : State}

/-- A measurement of the followed phase slot, recorded before its update (R80). -/
def recordedPhase (m : Measurement) (s : State) : State := s.setServo
  { s.servo with lastE := some m.value, allowance := m.allowance.getD s.servo.allowance }

/-- With time set a seconds-step request makes the update of the measurement's seconds (R80, R81). -/
theorem handoff_seconds (slot : isLine k = false) (followed : s.servo.followed = some k)
    (set : s.time.timeSet = true) (ds : m.ds = some d) : handoff k m true s =
      reportUpdate k m.value (s.ref k).level (recordedPhase m s) (secondsUpdate d (recordedPhase m s)) := by
  rw [handoff_set m true set, if_pos followed, handoffUpdate_seconds _ _ ds, recordHandoff_phase slot]
  rfl

theorem secondsUpdate_result (d : Int) (s : State) :
    (secondsUpdate d s).result = performStep .seconds (d * 1000000000000) s := rfl

theorem secondsUpdate_step (lands : clampReading ((s.reading : Int) + d * 1000000000000) = n) :
    (secondsUpdate d s).step = if n = s.reading then none else some .seconds :=
  stepKind_of_applied lands

/-- What the seconds step leaves in the servo, and the record of the update that it ends (R81, R93). -/
theorem secondsReport_servo (lands : clampReading ((s.reading : Int) + d * 1000000000000) = n)
    (ahead : ∀ x ∈ s.scheduler.table, n < x.due * 1000000000000) (level : Nat) :
    (reportUpdate k m.value level s (secondsUpdate d s)).scheduler = s.scheduler
      ∧ ∃ held, (reportUpdate k m.value level s (secondsUpdate d s)).servo = { s.servo with
      token := held
      updates := min 255 (s.servo.updates + 1)
      lastUpdate := some
        { second := s.time.base, slot := k, value := m.value, state := s.servo.state, terms := none
          estimate := s.servo.estimate, fBefore := s.time.correction, fAfter := s.time.correction
          step := if n = s.reading then none else some .seconds } } := by
  obtain ⟨scheduler, held, servo⟩ := performStep_servo (kind := .seconds) lands ahead
  have correction := performStep_correction (kind := .seconds) lands ahead
  obtain ⟨writes, -, -, -, table⟩ := reportUpdate_writes k m.value level s (secondsUpdate d s)
  refine ⟨table.trans scheduler, held, writes.trans ?_⟩
  rw [secondsUpdate_step lands, secondsUpdate_result, servo, correction]
  rfl

/-- The report leaves the other blocks as the seconds step left them (R93). -/
theorem secondsReport_blocks (k : Slot) (m : Measurement) (level : Nat) (d : Int) (s : State) :
    let t := reportUpdate k m.value level s (secondsUpdate d s)
    let u := performStep .seconds (d * 1000000000000) s
    t.time = u.time ∧ t.servo.token = u.servo.token ∧ t.scheduler = u.scheduler ∧ t.chain = u.chain
      ∧ t.refs = u.refs := by
  obtain ⟨-, time, refs, chain, scheduler⟩ := reportUpdate_writes k m.value level s (secondsUpdate d s)
  exact ⟨time, poise_token (reportUpdate_poise ..), scheduler, chain, refs⟩

theorem secondsReport_still (lands : clampReading ((s.reading : Int) + d * 1000000000000) = n)
    (still : n = s.reading) (level : Nat) :
    let t := reportUpdate k m.value level s (secondsUpdate d s)
    t.time = s.time ∧ t.servo.token = s.servo.token ∧ t.refs = s.refs := by
  obtain ⟨time, token, -, -, refs⟩ := secondsReport_blocks k m level d s
  rw [performStep_still lands still] at time token refs
  exact ⟨time, token, refs⟩

theorem secondsReport_moved (lands : clampReading ((s.reading : Int) + d * 1000000000000) = n)
    (moved : n ≠ s.reading) (ahead : ∀ x ∈ s.scheduler.table, n < x.due * 1000000000000) (level : Nat) :
    SteppedTo .seconds n s (reportUpdate k m.value level s (secondsUpdate d s)) := by
  obtain ⟨time, token, scheduler, chain, refs⟩ := secondsReport_blocks k m level d s
  exact (performStep_moved lands moved ahead).of_blocks time token scheduler chain refs

end SecondsStep

/-- Settles O18: the four servo states without a step, then the update that a phase step ends and the
one that a seconds step ends. -/
theorem updatesMoveTheLoop : Obligations.UpdatesMoveTheLoop := by
  intro e level s
  refine ⟨fun state settled held => ?acquiring, fun state settled held => ?locked, fun state => ?freq,
    fun idle => servoUpdate_none idle e level,
    fun phase settled far token n hn ahead => ?phase, fun k m d n slot followed set ds hn ahead => ?seconds⟩
  case acquiring =>
    have slews := slewUpdate_slews e level s
    rw [slewMove, state] at slews
    exact ⟨_, servoUpdate_slew (.inl state) settled held, slews, slewUpdate_judgesAcquiring state⟩
  case locked =>
    have slews := slewUpdate_slews e level s
    rw [slewMove, state, phaseMove, phaseShifts_locked] at slews
    exact ⟨_, servoUpdate_slew (.inr state) settled held, slews, slewUpdate_judgesLocked state⟩
  case freq =>
    have slews := freqUpdate_slews e state
    have target (i : Int) : i + (none : Option Int).getD 0 = i := Int.add_zero i
    simp only [freqMove, moveLoop, target] at slews
    exact ⟨_, servoUpdate_freq state e level, slews⟩
  case phase =>
    have lands := clampReading_eq hn
    obtain ⟨scheduler, held, servo⟩ := phaseStepUpdate_servo lands ahead
    obtain ⟨part, link, -, -⟩ := phaseStepUpdate_frame e s
    refine ⟨_, servoUpdate_step phase settled far token, rfl, rfl, by rw [servo], by rw [servo],
      congrArg Servo.lockRun servo, congrArg Servo.unlockRun servo, scheduler, link, part,
      fun still => ?_, fun moved => ?_⟩
    · rw [phaseStepUpdate_still lands still]
      exact ⟨(phaseStepUpdate_step lands).trans (if_pos still), rfl, token, rfl, rfl⟩
    · have step := phaseStepUpdate_moved lands moved ahead
      exact ⟨(phaseStepUpdate_step lands).trans (if_neg moved), step.time, step.token,
        fun k slot => step.skipNext slot, step.capture⟩
  case seconds =>
    have lands := clampReading_eq hn
    intro t v
    obtain ⟨part, link, -, -⟩ := handoff_frame k m true s
    have run : t = _ := handoff_seconds slot followed set ds
    obtain ⟨scheduler, held, servo⟩ := secondsReport_servo (k := k) (m := m) (s := recordedPhase m s)
      lands ahead (s.ref k).level
    rw [← run] at scheduler servo
    refine ⟨by rw [servo]; rfl, by rw [servo]; rfl, by rw [servo]; rfl, by rw [servo]; rfl,
      by rw [servo]; rfl, by rw [servo]; rfl, congrArg Servo.updates servo,
      congrArg Servo.lastUpdate servo, scheduler, link, part, fun still => ?_, fun moved => ?_⟩
    · rw [run]
      exact secondsReport_still (s := recordedPhase m s) lands still _
    · have step := secondsReport_moved (k := k) (m := m) (s := recordedPhase m s) lands moved ahead
        (s.ref k).level
      rw [← run] at step
      exact ⟨step.time, step.token, fun j => (step.mismatch j).1, fun j => (step.mismatch j).2,
        step.capture⟩

end Sys2Proof.Machine
end

section
set_option Elab.async false

namespace Sys2Proof.Machine

open Sys2Proof.Safety

/-! ## Ports under the grade (R110, R121 to R124) -/

/-- Every transition keeps the grade F while time is unset and the ports under the grade; a start makes
both hold. -/
theorem Transition.ports {s t : State} (h : Transition s t) (law : GradeLaw s ∧ SquelchLaw s) :
    GradeLaw t ∧ SquelchLaw t := by
  obtain kept | ⟨-, started⟩ := h.keeps
  · exact kept.ports law
  · exact started.ports

/-- Settles O9: PIN_RESET and a start leave no port ACTIVE or SQUELCHED and the grade F; in every other transition the
grade is written only where it is presented to the ports, each of which then judges it. -/
theorem stepsKeepPortsUnderTheGrade : Obligations.StepsKeepPortsUnderTheGrade :=
  step_keeps (fun m s => (pinReset_lawful m s).ports) (fun _ _ => Transition.ports) fun _ _ law => law

end Sys2Proof.Machine
end

section
set_option Elab.async false

namespace Sys2Proof.Machine

open Sys2Proof.Safety

/-! ## The grade and what its judgement writes (R106, R108, R109) -/

theorem gradeNow_of_blocks {s t : State} (time : t.time = s.time) (refs : t.refs = s.refs)
    (servo : t.servo = s.servo) (holdover : t.holdover = s.holdover) : gradeNow t = gradeNow s := by
  cases s
  cases t
  cases time
  cases refs
  cases servo
  cases holdover
  rfl

/-- Once written, the grade stands as the table gives it: LOCKED without a declared grade reads the grade
back, and no other row reads it (R108). -/
theorem gradeNow_written {s t : State} (time : t.time = s.time) (refs : t.refs = s.refs)
    (servo : t.servo = s.servo) (holdover : t.holdover = { s.holdover with grade := gradeNow s }) :
    gradeNow t = gradeNow s := by
  have followed : followedGrade t = followedGrade s := by simp only [followedGrade, State.ref, servo, refs]
  have above (n : Nat) : teeAbove t n = teeAbove s n := by simp only [teeAbove, holdover]
  unfold gradeNow
  rw [time, servo, followed]
  simp only [above, holdover]
  split
  · rfl
  · rename_i set
    cases state : s.servo.state
    case locked =>
      cases declared : followedGrade s
      case none => simp [gradeNow, set, state, declared]
      case some => rfl
    all_goals rfl

@[simp] theorem recomputeGrade_holdover (s : State) :
    (recomputeGrade s).holdover = { s.holdover with grade := gradeNow s } := by
  unfold recomputeGrade
  dsimp only
  split
  · rename_i same
    rw [same]
  · simp

@[simp] theorem judgeEstimate_holdover (s : State) :
    (judgeEstimate s).holdover = { s.holdover with grade := gradeNow s } := by
  have judged : gradeNow (estimateConditions s) = gradeNow s :=
    gradeNow_of_blocks (by simp) (by simp) (by simp) (by simp)
  rw [judgeEstimate, recomputeGrade_holdover, judged]
  simp

/-- The judgement of the estimate writes the grade, and beside it the ports and the alarm unit alone. -/
theorem judgeEstimate_writes (s : State) : judgeEstimate s = { s with
    holdover := { s.holdover with grade := gradeNow s }
    ports := (judgeEstimate s).ports
    alarms := (judgeEstimate s).alarms } := by
  obtain ⟨part, time, refs, filter, selector, servo, chain, scheduler, link, flash, pending⟩ :=
    judgeEstimate_frame s
  have holdover := judgeEstimate_holdover s
  generalize judgeEstimate s = t at *
  cases t
  simp_all

/-! ## SET_HOLDOVER and CLEAR_HISTORY (R99, R108, R109, R111, R114) -/

section HoldoverRequests

variable {c : HoldoverConfig} {s : State}

/-- The new record written, before the conditions and the grade follow it. -/
def holdoverWritten (c : HoldoverConfig) (s : State) : State :=
  s.setHoldover { s.holdover with config := c }

theorem requestSetHoldover_good (h : holdoverOk c = true) : requestSetHoldover c s
    = (judgeEstimate (holdoverWritten c s), okWith (putU 4 (c.budget * c.warnPercent / 100))) := if_pos h

theorem requestSetHoldover_bad (h : holdoverOk c = false) : requestSetHoldover c s = refuse .invalid s :=
  if_neg (by rw [h]; decide)

theorem declaredGrade_eq (k : Slot) (m : Monitor) : declaredGrade k m
    = if k = .pkt ∨ k = .chain then m.declared else m.config.declaredGrade := by
  cases k <;> rfl

theorem followedGrade_some {k : Slot} (h : s.servo.followed = some k) :
    followedGrade s = declaredGrade k (s.ref k) := by
  rw [followedGrade, h]

theorem gradeNow_locked (set : s.time.timeSet = true) (state : s.servo.state = .locked) :
    gradeNow s = (followedGrade s).getD s.holdover.grade := by
  simp [gradeNow, set, state]

theorem gradeNow_acquiring (set : s.time.timeSet = true) (state : s.servo.state = .acquiring) :
    gradeNow s = .C := by
  simp [gradeNow, set, state]

theorem gradeNow_freerun (set : s.time.timeSet = true) (state : s.servo.state = .freerun) :
    gradeNow s = .E := by
  simp [gradeNow, set, state]

theorem not_teeAbove {x : Nat} (tee : s.holdover.tee = some x) (limit : Nat) :
    (!teeAbove s limit) = decide (x ≤ limit) := by
  rw [teeAbove, tee, ← decide_not]
  exact decide_eq_decide.mpr Nat.not_lt

/-- In the two states whose estimate is judged, the grade follows TEE (R108). -/
theorem gradeNow_estimated (set : s.time.timeSet = true)
    (state : s.servo.state = .holdover ∨ s.servo.state = .freqLocked) {x : Nat}
    (tee : s.holdover.tee = some x) :
    gradeNow s = if x ≤ s.holdover.config.budget * s.holdover.config.warnPercent / 100 then .B
      else if x ≤ s.holdover.config.budget then .C else .D := by
  rcases state with state | state <;> simp [gradeNow, set, state, not_teeAbove tee, warningLevel]

end HoldoverRequests

/-- Settles O31. -/
theorem holdoverIsConfiguredAndItsHistoryCleared : Obligations.HoldoverIsConfiguredAndItsHistoryCleared := by
  refine ⟨fun tag c s h => ⟨fun bad => ?refused, fun good => ?written⟩, fun tag s h => ?cleared,
    fun s => ⟨gradeNow_unset s,
      fun set state => ⟨fun k g slot grade => ?declared, fun silent => ?undeclared⟩,
      gradeNow_acquiring, fun set state x tee => gradeNow_estimated set state tee, gradeNow_freerun⟩⟩
  case refused => exact refusal_answers h 0x1C tag (requestSetHoldover_bad bad)
  case written =>
    refine ⟨_, congrArg Host.Outcome.next
      (takeTyped_okWith h 0x1C tag (requestSetHoldover_good good) (by simp [holdoverWritten])), ?_, ?_⟩
    · rw [judgeEstimate_writes]
      rfl
    · simp only [State.setLink_holdover, judgeEstimate_holdover]
      exact (gradeNow_written (by simp) (by simp) (by simp) (by simp)).symm
  case cleared => exact congrArg Host.Outcome.next (takeTyped_okWith h 0x1F tag (f := requestClearHistory) rfl rfl)
  case declared =>
    rw [gradeNow_locked set state, followedGrade_some slot, (declaredGrade_eq k _).trans grade]
    rfl
  case undeclared =>
    rw [gradeNow_locked set state]
    cases slot : s.servo.followed with
    | none => rw [followedGrade, slot]; rfl
    | some k => rw [followedGrade_some slot, (declaredGrade_eq k _).trans (silent k slot)]; rfl

end Sys2Proof.Machine
end

section
set_option Elab.async false

namespace Sys2Proof.Machine

/-! ## The minute accumulator (R97, R98, R100) -/

section Reports

variable {r : UpdateReport} {p : MinutePart}

/-- A report that leaves a part clean: no step ended it, it was not made in ACQUIRING, and it is of the part's
slot and state, if the part has them yet, and no more than its 60th (R98). -/
structure Accepted (r : UpdateReport) (p : MinutePart) : Prop where
  clean : p.spoiled = false
  made : r.state ≠ .acquiring
  unstepped : r.step = none
  state : p.state = none ∨ p.state = some r.state
  slot : p.slot = none ∨ p.slot = some r.slot
  room : p.count < 60

theorem filePart_spoiled (h : p.spoiled = true) : filePart r p = p := if_pos h

theorem filePart_accepted (h : Accepted r p) : filePart r p = { p with
    count := p.count + 1, sum := p.sum + r.estimate, state := some r.state, slot := some r.slot
    level := max p.level r.level } := by
  have state : ¬ (p.state.isSome ∧ p.state ≠ some r.state) := by
    rcases h.state with e | e <;> simp [e]
  have slot : ¬ (p.slot.isSome ∧ p.slot ≠ some r.slot) := by
    rcases h.slot with e | e <;> simp [e]
  unfold filePart
  rw [if_neg (by simp [h.clean]), if_neg]
  simp only [h.made, h.unstepped, state, slot, Nat.not_le.mpr h.room, Option.isSome_none,
    Bool.false_eq_true, or_self, not_false_eq_true]

/-- A part that is still clean after a report was clean before it and has accepted it. -/
theorem accepted_of_clean (h : (filePart r p).spoiled = false) : Accepted r p := by
  unfold filePart at h
  split at h
  · rename_i spoiled
    exact absurd (spoiled.symm.trans h) (by decide)
  · rename_i clean
    split at h
    · exact absurd h (by simp [spoilPart])
    · rename_i fits
      simp only [not_or, not_and, ne_eq, not_not, Nat.not_le, Bool.not_eq_true] at fits clean
      obtain ⟨made, unstepped, state, slot, room⟩ := fits
      refine ⟨clean, made, by simpa using unstepped, ?_, ?_, room⟩
      · cases e : p.state <;> simp_all
      · cases e : p.slot <;> simp_all

@[simp] theorem filePart_start (r : UpdateReport) (p : MinutePart) : (filePart r p).start = p.start := by
  unfold filePart
  (repeat' split) <;> rfl

end Reports

/-- Every report of a list filed in one part, whatever its report second. -/
def fileAll (l : List (UpdateReport × Nat)) (p : MinutePart) : MinutePart :=
  l.foldl (fun p x => filePart x.1 p) p

section Minute

variable {l : List (UpdateReport × Nat)} {p : MinutePart} {h : Holdover} {m : Nat}

theorem fileAll_cons (x : UpdateReport × Nat) (l : List (UpdateReport × Nat)) (p : MinutePart) :
    fileAll (x :: l) p = fileAll l (filePart x.1 p) := rfl

@[simp] theorem fileAll_start (l : List (UpdateReport × Nat)) (p : MinutePart) :
    (fileAll l p).start = p.start := by
  induction l generalizing p with
  | nil => rfl
  | cons x l ih => exact (ih _).trans (filePart_start _ _)

theorem fileAll_spoiled (spoiled : p.spoiled = true) : fileAll l p = p := by
  induction l with
  | nil => rfl
  | cons x l ih =>
    rw [fileAll_cons, filePart_spoiled spoiled, ih]

/-- Reports of the open part's minute are filed there (R98). -/
theorem fileReports_open (start : h.openPart.start = m)
    (within : ∀ x ∈ l, (m : Int) ≤ nearestSecond x.2 ∧ nearestSecond x.2 ≤ m + 59) :
    l.foldl (fun h x => fileReport x.1 x.2 h) h = { h with openPart := fileAll l h.openPart } := by
  induction l generalizing h with
  | nil => rfl
  | cons x l ih =>
    obtain ⟨here, rest⟩ := List.forall_mem_cons.mp within
    have filed : fileReport x.1 x.2 h = { h with openPart := filePart x.1 h.openPart } :=
      if_pos (start ▸ here)
    rw [List.foldl_cons, filed, ih ((filePart_start _ _).trans start) rest]
    rfl

/-- A part that is clean after a list of reports has counted all of them, and each of them was of its slot and
state, not made in ACQUIRING and not ended by a step (R98). -/
theorem fileAll_clean (clean : (fileAll l p).spoiled = false) :
    (fileAll l p).count = p.count + l.length
    ∧ (∀ v, p.state = some v → (fileAll l p).state = some v)
    ∧ (∀ k, p.slot = some k → (fileAll l p).slot = some k)
    ∧ ∀ x ∈ l, x.1.state ≠ .acquiring ∧ x.1.step = none ∧ (fileAll l p).state = some x.1.state
      ∧ (fileAll l p).slot = some x.1.slot := by
  induction l generalizing p with
  | nil => exact ⟨rfl, fun _ => id, fun _ => id, by simp⟩
  | cons x l ih =>
    rw [fileAll_cons] at clean ⊢
    have accepted : Accepted x.1 p := accepted_of_clean (by
      by_contra spoiled
      rw [Bool.not_eq_false] at spoiled
      rw [fileAll_spoiled spoiled, spoiled] at clean
      cases clean)
    obtain ⟨count, state, slot, each⟩ := ih clean
    rw [filePart_accepted accepted] at count state slot each
    rw [filePart_accepted accepted]
    have itsState := state _ rfl
    have itsSlot := slot _ rfl
    refine ⟨count.trans (by simp only [List.length_cons]; omega), fun v e => ?_, fun k e => ?_,
      List.forall_mem_cons.mpr ⟨⟨accepted.made, accepted.unstepped, itsState, itsSlot⟩, each⟩⟩
    · obtain none | some := accepted.state
      · exact absurd (none.symm.trans e) nofun
      · exact itsState.trans (some.symm.trans e)
    · obtain none | some := accepted.slot
      · exact absurd (none.symm.trans e) nofun
      · exact itsSlot.trans (some.symm.trans e)

/-- What clean reports of one slot and state leave in a part that has begun with that slot and state (R98). -/
theorem fileAll_accepted {k : Slot} {state : ServoState} (made : state ≠ .acquiring)
    (alike : ∀ x ∈ l, x.1.state = state ∧ x.1.slot = k ∧ x.1.step = none)
    (clean : p.spoiled = false) (itsState : p.state = some state) (itsSlot : p.slot = some k)
    (room : p.count + l.length ≤ 60) : fileAll l p = { p with
      count := p.count + l.length
      sum := p.sum + (l.map fun x => x.1.estimate).sum
      level := (l.map fun x => x.1.level).foldl max p.level } := by
  induction l generalizing p with
  | nil => simp [fileAll]
  | cons x l ih =>
    obtain ⟨⟨rfl, rfl, unstepped⟩, rest⟩ := List.forall_mem_cons.mp alike
    rw [List.length_cons] at room
    have accepted : Accepted x.1 p := ⟨clean, made, unstepped, .inr itsState, .inr itsSlot, by omega⟩
    have filed := filePart_accepted accepted
    rw [fileAll_cons, ih rest (by rw [filed, clean]) (by rw [filed]) (by rw [filed])
      (by rw [filed]; simp only; omega), filed]
    simp only [List.map_cons, List.sum_cons, List.foldl_cons, List.length_cons, itsState, itsSlot,
      MinutePart.mk.injEq, and_true, true_and]
    omega

/-- A part that is spoiled, or has not counted 60 reports, forms no entry (R100). -/
theorem historyEntry_none (bad : p.spoiled = true ∨ p.count ≠ 60) : historyEntry p = none := by
  unfold historyEntry
  split
  · exact if_neg fun ⟨clean, count⟩ => bad.elim (by simp [clean]) (absurd count)
  · rfl

theorem historyEntry_whole {k : Slot} {state : ServoState} (itsState : p.state = some state)
    (itsSlot : p.slot = some k) (clean : p.spoiled = false) (count : p.count = 60) :
    historyEntry p = some
      { average := roundDiv p.sum 60, stamp := p.start, slot := k, state := state, level := p.level } := by
  unfold historyEntry
  rw [itsState, itsSlot]
  exact if_pos ⟨clean, count⟩

/-- Sixty clean reports of one slot and state form the minute's entry (R97, R100). -/
theorem historyEntry_clean {k : Slot} {state : ServoState} (made : state ≠ .acquiring)
    (alike : ∀ x ∈ l, x.1.state = state ∧ x.1.slot = k ∧ x.1.step = none) (sixty : l.length = 60) :
    historyEntry (fileAll l (emptyPart m false)) = some
      { average := roundDiv (l.map fun x => x.1.estimate).sum 60, stamp := m, slot := k, state := state,
        level := (l.map fun x => x.1.level).foldl max 0 } := by
  cases l with
  | nil => cases sixty
  | cons x l =>
    obtain ⟨⟨rfl, rfl, unstepped⟩, rest⟩ := List.forall_mem_cons.mp alike
    rw [List.length_cons] at sixty
    have accepted : Accepted x.1 (emptyPart m false) :=
      ⟨rfl, made, unstepped, .inl rfl, .inl rfl, Nat.zero_lt_succ _⟩
    rw [fileAll_cons, filePart_accepted accepted,
      fileAll_accepted made rest rfl rfl rfl (by simp only [emptyPart]; omega),
      historyEntry_whole rfl rfl rfl (by simp only [emptyPart]; omega)]
    simp [emptyPart]

/-- Any other minute forms none: a part that is still clean has counted every report, all of them alike
(R98, R100). -/
theorem historyEntry_mixed (bad : (∃ x ∈ l, x.1.state = .acquiring ∨ x.1.step.isSome = true)
    ∨ (∃ x ∈ l, ∃ y ∈ l, x.1.state ≠ y.1.state ∨ x.1.slot ≠ y.1.slot) ∨ l.length ≠ 60) :
    historyEntry (fileAll l (emptyPart m false)) = none := by
  refine historyEntry_none (or_iff_not_imp_left.mpr fun clean sixty => ?_)
  obtain ⟨count, -, -, each⟩ := fileAll_clean (Bool.not_eq_true _ ▸ clean)
  obtain ⟨x, hx, acquiring | stepped⟩ | ⟨x, hx, y, hy, states | slots⟩ | length := bad
  · exact (each x hx).1 acquiring
  · simp [(each x hx).2.1] at stepped
  · exact states (Option.some.inj ((each x hx).2.2.1.symm.trans (each y hy).2.2.1))
  · exact slots (Option.some.inj ((each x hx).2.2.2.symm.trans (each y hy).2.2.2))
  · exact length (by simpa [emptyPart] using count.symm.trans sixty)

/-- The next minute's boundary closes the open part (R100). -/
theorem closeMinute_closes (start : h.openPart.start = m) : closeMinute (m + 60) h = { h with
    history := joinHistory (historyEntry h.openPart) h.history
    openPart := { h.leadPart with start := m + 60 }
    leadPart := emptyPart (m + 120) false } :=
  if_pos (by omega)

end Minute

/-- Settles O19. -/
theorem minutesFormHistoryEntries : Obligations.MinutesFormHistoryEntries := by
  intro h m l start within g
  have closed : g = _ :=
    (congrArg (closeMinute (m + 60)) (fileReports_open start within)).trans
      (closeMinute_closes ((fileAll_start _ _).trans start))
  rw [closed]
  refine ⟨rfl, rfl, fun spoiled => ?_, fun empty => ⟨fun k state made alike sixty => ?_, fun bad => ?_⟩⟩
  · simp only [fileAll_spoiled spoiled, historyEntry_none (.inl spoiled), joinHistory]
  · simp only [empty, historyEntry_clean made alike sixty, joinHistory]
  · simp only [empty, historyEntry_mixed bad, joinHistory]

end Sys2Proof.Machine
end

section
set_option Elab.async false

namespace Sys2Proof.Machine

/-! ## The estimate at a marked boundary (R103, R105) -/

section Boundary

variable {s : State}

theorem ceilDiv_pos (n : Nat) {d : Nat} (h : 0 < d) : ceilDiv n d = (n + (d - 1)) / d :=
  congrArg (· / d) (Nat.add_sub_assoc h n)

theorem estimateSecond_holdover (state : s.servo.state = .holdover) : estimateSecond s = holdoverSecond s := by
  rw [estimateSecond, state]

theorem estimateSecond_freqLocked (state : s.servo.state = .freqLocked) :
    estimateSecond s = freqLockedSecond s := by
  rw [estimateSecond, state]

theorem holdoverSecond_time (s : State) : (holdoverSecond s).time = { s.time with
    correction := holdoverF s.holdover s.servo.config.pullRange (satSucc 4294967295 s.holdover.n) } := by
  simp [holdoverSecond]

theorem holdoverSecond_holdover (s : State) : ∃ g, (holdoverSecond s).holdover = { s.holdover with
    n := satSucc 4294967295 s.holdover.n
    tee := some (holdoverTee s.holdover (satSucc 4294967295 s.holdover.n))
    grade := g } :=
  ⟨_, judgeEstimate_holdover _⟩

theorem freqLockedSecond_holdover {k : Slot} {u : Nat} (followed : s.servo.followed = some k)
    (line : (s.ref k).config.uLine = some u) : ∃ g, (freqLockedSecond s).holdover = { s.holdover with
      tee := s.holdover.tee.map fun t => min Config.maxTee (t + u)
      grade := g } := by
  refine ⟨(freqLockedSecond s).holdover.grade, ?_⟩
  simp [freqLockedSecond, followed, line]

/-- F at the n-th boundary, with a holdover frequency (R103). -/
theorem holdoverF_formed {h : Holdover} {f : Int} (frequency : h.fh = some f) (pull n : Nat) :
    holdoverF h pull n = clampTo pull (f + roundDiv (h.frozenDrift * n) 3600) := by
  rw [holdoverF, frequency]
  rfl

/-- TEE at the n-th boundary, with a starting estimate and an uncertainty (R103). -/
theorem holdoverTee_formed {h : Holdover} {e u : Nat} (start : h.e0 = some e) (uncertainty : h.u = some u)
    (n : Nat) : holdoverTee h n
      = min 1000000000000 (e + u * n + (h.frozenAging * n ^ 2 + 7199) / 7200) := by
  rw [holdoverTee, start, uncertainty, ceilDiv_pos _ (by decide)]
  rfl

end Boundary

/-! ## The holdover that a switch forms from the ring (R79, R101, R102, R107) -/

section Deselection

variable {s t : State}

/-- The spread is the largest average less the smallest. -/
theorem spread_eq {l : List Int} {lo hi : Int} (low : lo ∈ l) (high : hi ∈ l)
    (between : ∀ x ∈ l, lo ≤ x ∧ x ≤ hi) : spread l = (hi - lo).toNat := by
  cases l with
  | nil => cases low
  | cons a rest =>
    have largest : (a :: rest).max? = some hi :=
      List.max?_eq_some_iff.mpr ⟨high, fun x hx => (between x hx).2⟩
    have smallest : (a :: rest).min? = some lo :=
      List.min?_eq_some_iff.mpr ⟨low, fun x hx => (between x hx).1⟩
    rw [spread, Option.some.inj (List.max?_cons'.symm.trans largest),
      Option.some.inj (List.min?_cons'.symm.trans smallest)]

theorem ceilDiv_spread {l : List Int} {lo hi : Int} (low : lo ∈ l) (high : hi ∈ l)
    (between : ∀ x ∈ l, lo ≤ x ∧ x ≤ hi) : ceilDiv (spread l) 2 = ((hi - lo + 1) / 2).toNat := by
  have order := (between hi high).1
  rw [spread_eq low high between, ceilDiv]
  omega

/-- The starting estimate by the state that ends (R102). -/
theorem startingEstimate_eq (s : State) : ∃ e, startingEstimate s = min 1000000000000 e
    ∧ (s.servo.state = .locked →
      e = s.holdover.config.eBase + (s.servo.lastE.getD 0).natAbs + s.servo.allowance)
    ∧ (s.servo.state = .freqLocked → ∀ x, s.holdover.tee = some x → e = x)
    ∧ (s.servo.state = .acquiring → e = max (s.holdover.tee.getD 0)
        (s.holdover.config.eBase + (s.servo.lastE.getD 0).natAbs)) := by
  refine ⟨_, rfl, fun state => ?_, fun state x tee => ?_, fun state => ?_⟩
  · rw [state]
  · rw [state, tee]; rfl
  · rw [state]

theorem servoEntered_holdover (old new : ServoState) (s : State) :
    (servoEntered old new s).holdover = { spoilAtSwitch s.holdover with
      tee := teeAtEntry s new
      unavailable := if old = .freerun then false else s.holdover.unavailable
      grade := (servoEntered old new s).holdover.grade } := by
  simp [servoEntered, spoilAtSwitch]

theorem teeAtEntry_of_blocks (allowance : t.servo.allowance = s.servo.allowance)
    (holdover : t.holdover = s.holdover) (new : ServoState) : teeAtEntry t new = teeAtEntry s new := by
  cases new <;> simp only [teeAtEntry, allowance, holdover]

/-- A change of servo state spoils the accumulator and writes TEE, the flag and the grade (R99, R104, R107). -/
theorem servoEnter_holdover {new : ServoState} {c : ServoCause} (other : s.servo.state ≠ new) :
    (servoEnter new c s).holdover = { spoilAtSwitch s.holdover with
      tee := teeAtEntry s new
      unavailable := if s.servo.state = .freerun then false else s.holdover.unavailable
      grade := (servoEnter new c s).holdover.grade } := by
  unfold servoEnter
  dsimp only
  rw [if_neg other, servoEntered_holdover, teeAtEntry_of_blocks (s := s)]
  all_goals split <;> simp

/-- The servo follows a slot. -/
def Following (s : State) : Prop :=
  s.servo.state = .acquiring ∨ s.servo.state = .locked ∨ s.servo.state = .freqLocked

theorem servoSwitch_none (h : Following s) : servoSwitch none s = servoDeselected (follow none s) := by
  unfold servoSwitch
  dsimp only
  have state : (follow none s).servo.state = s.servo.state := rfl
  rw [state]
  rcases h with h | h | h <;> rw [h]

/-- The state in which the deselected servo leaves its state: the lock runs and the pull runs cleared. -/
def runsEnded (s : State) : State := clearPullRuns (s.setServo (clearLockRuns s.servo))

theorem servoDeselected_available (h : s.holdover.config.guard < s.holdover.history.length) :
    servoDeselected s = servoEnter .holdover .deselected (runsEnded (formHoldover s)) := by
  have available : holdoverAvailable s.holdover = true := decide_eq_true h
  unfold servoDeselected
  simp only [available, if_true]
  rfl

theorem servoDeselected_unavailable (h : s.holdover.history.length ≤ s.holdover.config.guard) :
    servoDeselected s = servoEnter .freerun .noHoldover
      (runsEnded (s.setHoldover { s.holdover with unavailable := true })) := by
  have unavailable : holdoverAvailable s.holdover = false := decide_eq_false (Nat.not_lt.mpr h)
  unfold servoDeselected
  simp only [unavailable]
  rfl

theorem runsEnded_servo (s : State) : (runsEnded s).servo = { s.servo with
    lockRun := 0, unlockRun := 0, clampRun := 0, unclampRun := 0, pullLimit := false } := by
  simp [runsEnded, clearPullRuns, clearLockRuns]

theorem runsEnded_holdover (s : State) : (runsEnded s).holdover = s.holdover := by
  simp [runsEnded]

/-- What the change of state leaves when the servo loses its slot: I stands, and TEE is that of the state
entered (R76, R79, R104). -/
theorem runsEnded_enters (following : Following s) {new : ServoState} {c : ServoCause}
    (idle : new = .holdover ∨ new = .freerun) :
    (servoEnter new c (runsEnded s)).servo.state = new
    ∧ (servoEnter new c (runsEnded s)).servo.estimate = s.servo.estimate
    ∧ (servoEnter new c (runsEnded s)).holdover = { spoilAtSwitch s.holdover with
      tee := teeAtEntry s new
      grade := (servoEnter new c (runsEnded s)).holdover.grade } := by
  have servo := runsEnded_servo s
  have holdover := runsEnded_holdover s
  have state : (runsEnded s).servo.state = s.servo.state := by rw [servo]
  have running : s.servo.state ≠ .freerun := by rcases following with e | e | e <;> rw [e] <;> decide
  have other : (runsEnded s).servo.state ≠ new := by
    rcases following with e | e | e <;> rcases idle with rfl | rfl <;> rw [state, e] <;> decide
  refine ⟨(servoEnter_servo _ _ _).1, ?_, ?_⟩
  · rw [servoEnter_writes other, servo]
  · rw [servoEnter_holdover other, holdover, state, if_neg running,
      teeAtEntry_of_blocks (by rw [servo]) holdover]
    rfl

/-- With more entries than the guard the switch forms HOLDOVER from the ring and enters it (R79, R101). -/
theorem servoSwitch_none_available (h : Following s)
    (entries : s.holdover.config.guard < s.holdover.history.length) :
    (servoSwitch none s).servo.state = .holdover
    ∧ (servoSwitch none s).servo.estimate = s.servo.estimate
    ∧ (servoSwitch none s).holdover = { spoilAtSwitch (formHoldover s).holdover with
      grade := (servoSwitch none s).holdover.grade } := by
  have run : servoSwitch none s = servoEnter .holdover .deselected (runsEnded (formHoldover (follow none s))) :=
    (servoSwitch_none h).trans (servoDeselected_available entries)
  rw [run]
  exact runsEnded_enters (s := formHoldover (follow none s)) h (.inl rfl)

/-- With no more entries than the guard the servo enters FREERUN and the flag is set (R101, R104, R107). -/
theorem servoSwitch_none_unavailable (h : Following s)
    (entries : s.holdover.history.length ≤ s.holdover.config.guard) :
    (servoSwitch none s).servo.state = .freerun
    ∧ (servoSwitch none s).servo.estimate = s.servo.estimate
    ∧ (servoSwitch none s).holdover = { spoilAtSwitch s.holdover with
      unavailable := true
      tee := none
      grade := (servoSwitch none s).holdover.grade } := by
  have run : servoSwitch none s = servoEnter .freerun .noHoldover
      (runsEnded ((follow none s).setHoldover { s.holdover with unavailable := true })) :=
    (servoSwitch_none h).trans (servoDeselected_unavailable entries)
  rw [run]
  exact runsEnded_enters (s := (follow none s).setHoldover { s.holdover with unavailable := true }) h (.inr rfl)

/-- The ring and the record stand, whichever state the switch enters. -/
theorem servoSwitch_none_keeps (h : Following s) :
    (servoSwitch none s).holdover.history = s.holdover.history
    ∧ (servoSwitch none s).holdover.config = s.holdover.config
    ∧ (servoSwitch none s).servo.estimate = s.servo.estimate := by
  obtain entries | entries := Nat.lt_or_ge s.holdover.config.guard s.holdover.history.length
  · obtain ⟨-, estimate, holdover⟩ := servoSwitch_none_available h entries
    exact ⟨by rw [holdover]; rfl, by rw [holdover]; rfl, estimate⟩
  · obtain ⟨-, estimate, holdover⟩ := servoSwitch_none_unavailable h entries
    exact ⟨by rw [holdover]; rfl, by rw [holdover]; rfl, estimate⟩

end Deselection

/-- Settles O17: the boundary in HOLDOVER, the switch that leaves no slot, and the boundary in FREQ_LOCKED. -/
theorem holdoverFollowsItsClosedForm : Obligations.HoldoverFollowsItsClosedForm := by
  refine ⟨fun s f e u state frequency start uncertainty room => ?boundary, fun s following => ?deselection,
    fun s k e u state followed line tee => ?growth⟩
  case boundary =>
    have counted : satSucc 4294967295 s.holdover.n = s.holdover.n + 1 := if_pos room
    have time := holdoverSecond_time s
    obtain ⟨g, holdover⟩ := holdoverSecond_holdover s
    rw [counted, holdoverF_formed frequency] at time
    rw [counted, holdoverTee_formed start uncertainty] at holdover
    obtain ⟨-, refs, -, -, servo, -⟩ := estimateSecond_frame s
    refine ⟨?_, ?_, ?_, ?_, ?_, servo, refs⟩
    all_goals rw [estimateSecond_holdover state]
    · rw [holdover]
    · rw [time]
    · rw [holdover]
    · rw [time]
    · rw [time]
  case deselection =>
    intro h l fromLast t
    obtain ⟨part, time, -, -, -, -, link, -, pending⟩ := servoSwitch_frame none s
    obtain ⟨history, config, estimate⟩ := servoSwitch_none_keeps following
    refine ⟨time, history, config, (servoSwitch_servo none s).2, estimate, part, link, pending,
      fun entries => ?_, fun entries => ?_⟩
    · obtain ⟨state, -, holdover⟩ := servoSwitch_none_available following entries
      obtain ⟨e, start, sources⟩ := startingEstimate_eq s
      have held : t.holdover = _ := holdover
      refine ⟨state, by rw [held]; rfl, by rw [held]; rfl, by rw [held]; rfl, fun lo low hi high between => ?_,
        by rw [held]; rfl, by rw [held]; rfl, by rw [held]; rfl, e, ?_, ?_, sources⟩
      · rw [held, ← ceilDiv_spread low high between]
        rfl
      · rw [held, ← start]
        rfl
      · rw [held, ← start]
        rfl
    · obtain ⟨state, -, holdover⟩ := servoSwitch_none_unavailable following entries
      have held : t.holdover = _ := holdover
      exact ⟨state, by rw [held], by rw [held], by rw [held]; rfl, by rw [held]; rfl, by rw [held]; rfl,
        by rw [held]; rfl, by rw [held]; rfl⟩
  case growth =>
    obtain ⟨g, holdover⟩ := freqLockedSecond_holdover followed line
    rw [estimateSecond_freqLocked state, holdover, tee]
    obtain ⟨-, time, refs, -, -, servo, -⟩ := freqLockedSecond_frame s
    exact ⟨rfl, rfl, rfl, time, servo, refs⟩

end Sys2Proof.Machine
end

section
set_option Elab.async false

namespace Sys2Proof.Machine

open Sys2Proof.Safety

/-! ## Requests: ports (R118 to R120, R131, R135) -/

theorem portOfNumber_inRange {n : Nat} {p : Fin 12} (h : portOfNumber n = some p) : ¬ 11 < n :=
  fun outside => by simp [portOfNumber_none outside] at h

theorem onPort_val (p : Fin 12) (f : Fin 12 → Request.Effect) (s : State) : onPort p.val f s = f p s := by
  simp only [onPort, portOfNumber_val]

theorem onPort_outside {n : Nat} (h : 11 < n) (f : Fin 12 → Request.Effect) (s : State) :
    onPort n f s = refuse .invalid s := by
  simp only [onPort, portOfNumber_none h]

/-- A port written, with a report to the alarm unit. -/
theorem written_port (s : State) (p : Fin 12) (x : Port) (a : AlarmUnit) :
    ({ s.setPort p x with alarms := a } : State).port p = x :=
  State.setPort_port s p x

/-- A port written and then moved out of the state it was written in (R118). -/
theorem portMove_written {p : Fin 12} {new : PortState} {x : Port} (h : x.state ≠ new) (c : PortCause)
    (s : State) : ∃ a : AlarmUnit, portMove p new c (s.setPort p x) = { s.setPort p { x with
      state := new, activated := decide (new = .active ∧ s.time.frac = 0) } with alarms := a } := by
  obtain ⟨a, moved⟩ := portMove_writes (p := p) (s := s.setPort p x) (by rwa [State.setPort_port]) c
  refine ⟨a, moved.trans ?_⟩
  rw [State.setPort_port, setPort_setPort]
  rfl

section PortRequests

variable {p : Fin 12} {s : State}

/-! ### SET_PORT -/

/-- A record that stays in OFF or HELD is written alone (R135). -/
theorem configurePort_idle (c : PortConfig) (h : (s.port p).state = .off ∨ (s.port p).state = .held) :
    configurePort c p s
      = s.setPort p { s.port p with config := c, delay := c.delayComp, queue := [] } := by
  unfold configurePort
  obtain off | held := h
  · simp only [off]
  · simp only [held]

/-- A port in any other state is cleared and held (R135). -/
theorem configurePort_holds (c : PortConfig) (off : (s.port p).state ≠ .off)
    (held : (s.port p).state ≠ .held) : ∃ a : AlarmUnit, configurePort c p s = { s.setPort p
      { s.port p with
        config := c, state := .held, delay := c.delayComp, queue := []
        rearm := Timer.stopped, pendingMessage := none, stepSeen := false
        suppressNext := false, activated := false } with alarms := a } := by
  have moves : configurePort c p s = portMove p .held .request
      (s.setPort p (portCleared { s.port p with config := c, delay := c.delayComp, queue := [] })) := by
    unfold configurePort
    cases state : (s.port p).state
    case off => exact absurd state off
    case held => exact absurd state held
    all_goals simp only [state]
  obtain ⟨a, moved⟩ := portMove_written (p := p) (new := .held)
    (x := portCleared { s.port p with config := c, delay := c.delayComp, queue := [] }) held .request s
  exact ⟨a, moves.trans moved⟩

theorem requestSetPort_val {c : PortConfig} (h : portOk c = true) : requestSetPort p.val c s
    = (configurePort c p s,
       okWith (putPortState ((configurePort c p s).port p).state ++ putU 1 (s.port p).queue.length)) :=
  (onPort_val p _ s).trans (if_pos h)

theorem requestSetPort_refused {n : Nat} {c : PortConfig} (h : 11 < n ∨ portOk c = false) :
    requestSetPort n c s = refuse .invalid s := by
  unfold requestSetPort onPort
  split
  · rename_i q inside
    exact if_neg (by simp [h.resolve_left (portOfNumber_inRange inside)])
  · rfl

/-! ### ENABLE_PORT and DISABLE_PORT -/

/-- ENABLE_PORT arms a port in OFF or HELD (R119). -/
theorem portEnable_arms (c : PortCause) (h : (s.port p).state = .off ∨ (s.port p).state = .held) :
    ∃ a : AlarmUnit, portEnable p c s = ({ s.setPort p
      { s.port p with state := .armed, rearm := Timer.stopped, activated := false } with
        alarms := a }, true) := by
  have moves : portEnable p c s = (portMove p .armed c (portRearm p Timer.stopped s), true) := by
    unfold portEnable
    obtain off | held := h
    · simp only [off]
    · simp only [held]
  have other : (s.port p).state ≠ .armed := fun armed => by simp [armed] at h
  obtain ⟨a, moved⟩ := portMove_written (p := p) (x := { s.port p with rearm := Timer.stopped }) other c s
  exact ⟨a, moves.trans (congrArg (·, true) moved)⟩

theorem portEnable_idle (c : PortCause) (off : (s.port p).state ≠ .off)
    (held : (s.port p).state ≠ .held) : portEnable p c s = (s, false) := by
  unfold portEnable
  cases state : (s.port p).state
  case off => exact absurd state off
  case held => exact absurd state held
  all_goals rfl

theorem portDisable_off (c : PortCause) (h : (s.port p).state = .off) : portDisable p c s = (s, false) :=
  if_pos h

/-- DISABLE_PORT turns a port OFF and clears its timer and flags (R120). -/
theorem portDisable_turnsOff (c : PortCause) (h : (s.port p).state ≠ .off) :
    ∃ a : AlarmUnit, portDisable p c s = ({ s.setPort p
      { s.port p with
        state := .off, rearm := Timer.stopped, pendingMessage := none, stepSeen := false
        suppressNext := false, activated := false } with alarms := a }, true) := by
  obtain ⟨a, moved⟩ := portMove_written (p := p) (x := portCleared (s.port p)) h c s
  exact ⟨a, (if_neg h).trans (congrArg (·, true) moved)⟩

theorem requestEnablePort_of {t : State} {moved : Bool} (h : portEnable p .request s = (t, moved)) :
    requestEnablePort p.val s = (t, okWith (putB (!moved) ++ putPortState (t.port p).state)) := by
  exact (onPort_val p _ s).trans (by rw [h])

theorem requestDisablePort_of {t : State} {moved : Bool} (h : portDisable p .request s = (t, moved)) :
    requestDisablePort p.val s = (t, okWith (putB (!moved))) := by
  exact (onPort_val p _ s).trans (by rw [h])

/-! ### ADJUST_PORT -/

theorem requestAdjustPort_refused {n : Nat} {amount : Int}
    (h : 11 < n ∨ amount = 0 ∨ 10000000 < amount.natAbs) :
    requestAdjustPort n amount s = refuse .invalid s := by
  unfold requestAdjustPort onPort
  split
  · rename_i q inside
    exact if_pos (h.resolve_left (portOfNumber_inRange inside))
  · rfl

theorem requestAdjustPort_val {amount : Int} (nonzero : amount ≠ 0) (small : amount.natAbs ≤ 10000000) :
    requestAdjustPort p.val amount s = if Config.adjustSize ≤ (s.port p).queue.length then refuse .full s
      else (s.setPort p (joinAdjustment amount (s.port p)), okWith (putU 1 ((s.port p).queue.length + 1))) :=
  (onPort_val p _ s).trans (if_neg (by simp [nonzero, small]))

end PortRequests

/-- Settles O32: the record is refused, written alone, or written with the port held. -/
theorem setPortHoldsThePort : Obligations.SetPortHoldsThePort := by
  refine fun tag s h => ⟨fun n c bad => refusal_answers h 0x20 tag (requestSetPort_refused bad),
    fun p c good => ⟨fun idle => ?idle, fun off held => ?holds⟩⟩
  case idle =>
    have run := requestSetPort_val (p := p) (s := s) good
    rw [configurePort_idle c idle, State.setPort_port] at run
    exact congrArg Host.Outcome.next (takeTyped_okWith h 0x20 tag run rfl)
  case holds =>
    obtain ⟨a, moved⟩ := configurePort_holds c off held
    have run := requestSetPort_val (p := p) (s := s) good
    rw [moved, written_port] at run
    exact ⟨a, congrArg Host.Outcome.next (takeTyped_okWith h 0x20 tag run rfl)⟩

/-- Settles O33. -/
theorem portsAreEnabledDisabledAndAdjusted : Obligations.PortsAreEnabledDisabledAndAdjusted := by
  refine ⟨fun tag s h => ⟨fun n outside => ?outside, fun p =>
      ⟨fun idle => ?arms, fun off held => ?armed, fun off => ?off, fun on => ?turnsOff⟩⟩,
    fun tag amount s h => ⟨fun n bad => ?refused,
      fun p nonzero small => ⟨fun full => ?full, fun room => ?joins⟩⟩⟩
  case outside =>
    exact ⟨refusal_answers h 0x21 tag (onPort_outside outside _ s),
      refusal_answers h 0x22 tag (onPort_outside outside _ s)⟩
  case arms =>
    obtain ⟨a, arms⟩ := portEnable_arms .request idle
    have run := requestEnablePort_of arms
    rw [written_port] at run
    exact ⟨a, congrArg Host.Outcome.next (takeTyped_okWith h 0x21 tag run rfl)⟩
  case armed => exact read_answers h 0x21 tag (requestEnablePort_of (portEnable_idle .request off held))
  case off => exact read_answers h 0x22 tag (requestDisablePort_of (portDisable_off .request off))
  case turnsOff =>
    obtain ⟨a, turned⟩ := portDisable_turnsOff .request on
    exact ⟨a, congrArg Host.Outcome.next (takeTyped_okWith h 0x22 tag (requestDisablePort_of turned) rfl)⟩
  case refused => exact refusal_answers h 0x23 tag (requestAdjustPort_refused bad)
  case full => exact refusal_answers h 0x23 tag ((requestAdjustPort_val nonzero small).trans (if_pos full))
  case joins =>
    have run := (requestAdjustPort_val (p := p) (s := s) nonzero small).trans (if_neg (Nat.not_le.mpr room))
    exact congrArg Host.Outcome.next (takeTyped_okWith h 0x23 tag run rfl)

end Sys2Proof.Machine
end

section
set_option Elab.async false

namespace Sys2Proof.Machine

open Sys2Proof.Safety

/-! ## The service of an adjustment queue (R131 to R134) -/

/-- The amount by which one service would move the delay: the whole remainder without a limit. -/
def headAmount (limit : Option Nat) (a : Adjustment) : Int :=
  match limit with
  | some l => clampTo l a.remainder
  | none => a.remainder

/-- The movement would leave the range of the delay (R134). -/
abbrev overruns (delay : Nat) (limit : Option Nat) (a : Adjustment) : Prop :=
  (delay : Int) + headAmount limit a < 0 ∨ 10000000 < (delay : Int) + headAmount limit a

section Movement

variable {delay : Nat} {limit : Option Nat} {a : Adjustment}

theorem moveHead_overruns (h : overruns delay limit a) : moveHead delay limit a =
    let stop := (max 0 (min 10000000 ((delay : Int) + headAmount limit a))).toNat
    { delay := stop, stays := none
      done := some (a.requested - a.remainder + ((stop : Int) - delay), true) } :=
  if_pos h

theorem moveHead_whole (within : ¬ overruns delay limit a) (whole : headAmount limit a = a.remainder) :
    moveHead delay limit a =
      { delay := ((delay : Int) + headAmount limit a).toNat, stays := none
        done := some (a.requested, false) } :=
  (if_neg within).trans (if_pos whole)

theorem moveHead_part (within : ¬ overruns delay limit a) (part : headAmount limit a ≠ a.remainder) :
    moveHead delay limit a =
      { delay := ((delay : Int) + headAmount limit a).toNat
        stays := some { a with remainder := a.remainder - headAmount limit a }, done := none } :=
  (if_neg within).trans (if_neg part)

/-- The delay moves by the amount, and stops at the ends of its range (R132, R134). -/
theorem moveHead_clamps (delay : Nat) (limit : Option Nat) (a : Adjustment) :
    ((moveHead delay limit a).delay : Int) = max 0 (min 10000000 ((delay : Int) + headAmount limit a)) := by
  by_cases beyond : overruns delay limit a
  · rw [moveHead_overruns beyond]
    exact Int.toNat_of_nonneg (le_max_left _ _)
  · have moved : (moveHead delay limit a).delay = ((delay : Int) + headAmount limit a).toNat := by
      by_cases whole : headAmount limit a = a.remainder
      · rw [moveHead_whole beyond whole]
      · rw [moveHead_part beyond whole]
    unfold overruns at beyond
    omega

/-- An adjustment that is applied whole, or stopped at an end of the range, leaves the queue with its notice
(R132, R134). -/
theorem moveHead_leaves (h : overruns delay limit a ∨ headAmount limit a = a.remainder) :
    (moveHead delay limit a).stays = none ∧ ∃ clamped, (clamped = true ↔ overruns delay limit a) ∧
      (moveHead delay limit a).done = some
        (a.requested - a.remainder + (((moveHead delay limit a).delay : Int) - delay), clamped) := by
  by_cases beyond : overruns delay limit a
  · rw [moveHead_overruns beyond]
    exact ⟨rfl, true, by simp [beyond], rfl⟩
  · have whole := h.resolve_left beyond
    have moved := moveHead_clamps delay limit a
    have applied : a.requested - a.remainder + (((moveHead delay limit a).delay : Int) - delay)
        = a.requested := by
      unfold overruns at beyond
      omega
    rw [applied, moveHead_whole beyond whole]
    exact ⟨rfl, false, by simp [beyond], rfl⟩

end Movement

theorem post_queue (d : NoticeDetail) (n : Nat) {s : State} (h : s.alarms.queue.length < 32) :
    (s.post d n).alarms.queue
      = s.alarms.queue ++ [{ detail := d, number := n, stamp := s.time.base }] := by
  change (postNotice _ _ _).queue = _
  unfold postNotice
  rw [if_pos h]

/-- The port after one service of its queue (R132, R133). -/
def servedPort (limit : Option Nat) (x : Port) : Port :=
  match x.queue with
  | [] => x
  | a :: rest =>
    { x with
      delay := (moveHead x.delay limit a).delay, queue := (moveHead x.delay limit a).stays.toList ++ rest }

section Served

variable {limit : Option Nat} {x y : Port} {a : Adjustment} {rest : List Adjustment}

theorem servedPort_nil (h : x.queue = []) : servedPort limit x = x := by
  simp only [servedPort, h]

theorem servedPort_cons (h : x.queue = a :: rest) : servedPort limit x =
    { x with
      delay := (moveHead x.delay limit a).delay
      queue := (moveHead x.delay limit a).stays.toList ++ rest } := by
  simp only [servedPort, h]

theorem servedPort_delay (h : x.queue = a :: rest) : ((servedPort limit x).delay : Int)
    = max 0 (min 10000000 ((x.delay : Int) + headAmount limit a)) := by
  rw [servedPort_cons h]
  exact moveHead_clamps x.delay limit a

theorem servedPort_leaves (h : x.queue = a :: rest)
    (leaves : overruns x.delay limit a ∨ headAmount limit a = a.remainder) :
    (servedPort limit x).queue = rest := by
  rw [servedPort_cons h, (moveHead_leaves leaves).1]
  rfl

theorem servedPort_part (h : x.queue = a :: rest) (within : ¬ overruns x.delay limit a)
    (part : headAmount limit a ≠ a.remainder) :
    (servedPort limit x).queue = { a with remainder := a.remainder - headAmount limit a } :: rest := by
  rw [servedPort_cons h, moveHead_part within part]
  rfl

theorem servedPort_frame (limit : Option Nat) (x : Port) : servedPort limit x =
    { x with delay := (servedPort limit x).delay, queue := (servedPort limit x).queue } := by
  unfold servedPort
  split <;> rfl

/-- The service reads the delay and the queue alone. -/
theorem servedPort_congr (delay : x.delay = y.delay) (queue : x.queue = y.queue) :
    (servedPort limit x).delay = (servedPort limit y).delay
      ∧ (servedPort limit x).queue = (servedPort limit y).queue := by
  cases h : y.queue with
  | nil => simp only [servedPort_nil h, servedPort_nil (queue.trans h), delay, queue, and_self]
  | cons a rest => simp only [servedPort_cons h, servedPort_cons (queue.trans h), delay, and_self]

end Served

/-- What one service of this delay and queue reports to the alarm unit: an adjustment that leaves the queue,
and nothing else (R132, R133). -/
structure ServiceReported (limit : Option Nat) (p : Fin 12) (delay : Nat) (queue : List Adjustment)
    (s : State) (u : AlarmUnit) : Prop where
  idle : queue = [] → u = s.alarms
  quiet : ∀ a rest, queue = a :: rest → (moveHead delay limit a).done = none → u = s.alarms
  notice : ∀ a rest applied clamped, queue = a :: rest →
    (moveHead delay limit a).done = some (applied, clamped) → s.alarms.queue.length < 32 →
    u.queue = s.alarms.queue ++
      [{ detail := .adjustDone a.requested applied clamped, number := p.val, stamp := s.time.base }]

section Service

variable {limit : Option Nat} {p : Fin 12} {s : State} {a : Adjustment} {rest : List Adjustment}

theorem serveHead_nil (h : (s.port p).queue = []) : serveHead limit p s = s := by
  simp only [serveHead, h]

/-- A head that is not done writes the port alone (R132). -/
theorem serveHead_stays (h : (s.port p).queue = a :: rest)
    (stays : (moveHead (s.port p).delay limit a).done = none) :
    serveHead limit p s = s.setPort p (servedPort limit (s.port p)) := by
  rw [servedPort_cons h]
  simp only [serveHead, h, stays]
  cases (moveHead (s.port p).delay limit a).stays <;> rfl

/-- A head that is done leaves with its notice (R132, R133). -/
theorem serveHead_leaves {d : Int × Bool} (h : (s.port p).queue = a :: rest)
    (leaves : (moveHead (s.port p).delay limit a).done = some d) : serveHead limit p s
      = (s.setPort p (servedPort limit (s.port p))).post (.adjustDone a.requested d.1 d.2) p.val := by
  rw [servedPort_cons h]
  simp only [serveHead, h, leaves]
  cases (moveHead (s.port p).delay limit a).stays <;> rfl

end Service

theorem serveHead_served (limit : Option Nat) (p : Fin 12) (s : State) : ∃ u,
    serveHead limit p s = { s.setPort p (servedPort limit (s.port p)) with alarms := u }
      ∧ ServiceReported limit p (s.port p).delay (s.port p).queue s u := by
  cases queue : (s.port p).queue with
  | nil =>
    refine ⟨s.alarms, ?_, fun _ => rfl, fun _ _ _ _ => rfl, fun a rest _ _ head => nomatch head⟩
    rw [serveHead_nil queue, servedPort_nil queue, setPort_self]
  | cons a rest =>
    cases done : (moveHead (s.port p).delay limit a).done with
    | none =>
      refine ⟨s.alarms, serveHead_stays queue done, fun _ => rfl, fun _ _ _ _ => rfl, fun b l _ _ head leaves => ?_⟩
      cases head
      cases done.symm.trans leaves
    | some d =>
      refine ⟨_, serveHead_leaves queue done, fun empty => ?_, fun b l head stays => ?_,
        fun b l _ _ head leaves room => ?_⟩
      · cases empty
      · cases head
        cases done.symm.trans stays
      · cases head
        cases done.symm.trans leaves
        exact post_queue _ _ room

section Reported

variable {limit : Option Nat} {p : Fin 12} {x : Port} {s : State} {u : AlarmUnit} {a : Adjustment}
  {rest : List Adjustment}

theorem ServiceReported.stays (reported : ServiceReported limit p x.delay x.queue s u)
    (h : x.queue = a :: rest) (within : ¬ overruns x.delay limit a)
    (part : headAmount limit a ≠ a.remainder) : u = s.alarms :=
  reported.quiet a rest h (by rw [moveHead_part within part])

/-- An adjustment that has left the queue is reported (R132, R134). -/
theorem ServiceReported.left (reported : ServiceReported limit p x.delay x.queue s u)
    (h : x.queue = a :: rest) (gone : (servedPort limit x).queue = rest) (room : s.alarms.queue.length < 32) :
    u.queue = s.alarms.queue ++
      [{ detail := .adjustDone a.requested
            (a.requested - a.remainder + (((servedPort limit x).delay : Int) - x.delay))
            (decide (overruns x.delay limit a))
         number := p.val, stamp := s.time.base }] := by
  have leaves : overruns x.delay limit a ∨ headAmount limit a = a.remainder := by
    by_contra stays
    obtain ⟨within, part⟩ := not_or.mp stays
    rw [servedPort_part h within part] at gone
    exact List.cons_ne_self _ _ gone
  obtain ⟨-, clamped, stopped, done⟩ := moveHead_leaves leaves
  rw [reported.notice a rest _ clamped h done room, servedPort_cons h,
    Bool.eq_iff_iff.mpr (stopped.trans decide_eq_true_iff.symm)]

end Reported

/-! ## A marked boundary reaches a port (R121, R133) -/

theorem portMayStart_iff {s : State} {x : Port} : portMayStart s x = true ↔
    x.state = .armed ∧ s.time.timeSet = true
      ∧ (x.config.policy = .mark ∨ gradeMeets s.holdover.grade x.config.minGrade = true) := by
  simp [portMayStart, and_assoc]

section PortBoundary

variable {p : Fin 12} {s : State}

theorem portBoundary_active (h : (s.port p).state = .active) : portBoundary p s = s := if_pos h

/-- A port that is not ACTIVE has its queue served whole, and then becomes ACTIVE if it may start. -/
theorem portBoundary_port (h : (s.port p).state ≠ .active) : (portBoundary p s).port p =
    if portMayStart s (s.port p) then
      { servedPort none (s.port p) with state := .active, activated := decide (s.time.frac = 0) }
    else servedPort none (s.port p) := by
  obtain ⟨u, served, -⟩ := serveHead_served none p s
  have state : (servedPort none (s.port p)).state = (s.port p).state := by rw [servedPort_frame]
  have config : (servedPort none (s.port p)).config = (s.port p).config := by rw [servedPort_frame]
  have own : (serveHead none p s).port p = servedPort none (s.port p) := by
    rw [served, written_port]
  have starts : portMayStart (serveHead none p s) ((serveHead none p s).port p)
      = portMayStart s (s.port p) := by
    rw [own, served]
    unfold portMayStart
    rw [state, config]
    rfl
  unfold portBoundary
  dsimp only
  rw [if_neg h, starts]
  split
  · rw [portMove_moved (by rw [own, state]; exact h), own, served]
    simp
  · exact own

/-- Without a limit the head leaves the queue whole (R133). -/
theorem servedPort_whole (x : Port) : (servedPort none x).queue = x.queue.drop 1
    ∧ (x.queue = [] → (servedPort none x).delay = x.delay)
    ∧ ∀ a rest, x.queue = a :: rest →
        ((servedPort none x).delay : Int) = max 0 (min 10000000 ((x.delay : Int) + a.remainder)) := by
  cases queue : x.queue with
  | nil => simp [servedPort_nil queue, queue]
  | cons a rest =>
    obtain ⟨leaves, -⟩ := moveHead_leaves (delay := x.delay) (limit := none) (a := a) (.inr rfl)
    rw [servedPort_cons queue]
    refine ⟨by simp [leaves], by simp, fun b l head => ?_⟩
    cases head
    exact moveHead_clamps x.delay none a

end PortBoundary

/-! ## The emission instant (R125, R127) -/

section Instant

variable {p : Fin 12} {n t : Nat} {x : Port} {s : State}

/-- The port has an emission instant ahead: at delay 0 that of the boundary just marked, else that of the
next second (R121, R125). -/
theorem emissionInstant_isSome : (emissionInstant x s).isSome = true ↔
    (x.delay = 0 ∧ s.time.frac = 0 ∧ s.time.landed = false ∧ x.activated = false
      ∧ ∃ r, s.holdover.recorded = some r ∧ r.second = s.time.base)
    ∨ 0 < x.delay ∧ s.time.base < Config.maxSeconds
      ∧ (s.time.frac < 1000000000000 - x.delay
        ∨ s.time.frac = 1000000000000 - x.delay ∧ s.time.landed = false) := by
  unfold emissionInstant
  by_cases here : x.delay = 0
  · simp only [here, if_true, lt_irrefl, false_and, or_false, true_and]
    split
    · rename_i h
      obtain ⟨frac, landed, recorded, activated⟩ := h
      simpa [frac, landed, activated] using recorded
    · rename_i h
      simpa [and_comm, and_assoc, and_left_comm] using h
  · have ahead : 0 < x.delay := Nat.pos_of_ne_zero here
    simp only [here, if_false, false_and, false_or, ahead, true_and]
    split
    · rename_i h
      simpa [reaches, h.2] using h.1
    · rename_i h
      simpa [reaches, and_comm] using h

/-- The second and the fraction of the instant ahead (R125). -/
theorem emissionInstant_eq {i : Nat × Nat} (h : emissionInstant x s = some i) :
    i = (if x.delay = 0 then s.time.base else s.time.base + 1,
      if x.delay = 0 then 0 else 1000000000000 - x.delay) := by
  unfold emissionInstant at h
  split at h
  · rename_i here
    rw [if_pos here, if_pos here]
    split at h
    · cases h; rfl
    · cases h
  · rename_i here
    rw [if_neg here, if_neg here]
    split at h
    · cases h; rfl
    · cases h

theorem usesInstant_iff : usesInstant n x = true ↔
    x.state = .active ∧ ∀ l, x.lastEmitted = some l → l < n := by
  unfold usesInstant
  cases x.lastEmitted <;> simp

theorem settleBefore_undisturbed (u : s.time.frac < t → Undisturbed t s) : settleBefore t s = s := by
  unfold settleBefore
  split
  · rename_i ahead; exact (u ahead).settled
  · rfl

theorem runPast_here (h : ¬ s.time.frac < t) : runPast t s = s := by
  have near : ¬ (s.time.frac < Config.half ∧ Config.half < t) := fun g => h (g.1.trans g.2)
  have passed : passHalf t s = s := if_neg near
  rw [runPast, passed, runTo_of_not_ahead h]

/-- The count stands at fraction `t` of the running second, having counted on to it. -/
def countedTo (t : Nat) (s : State) : State :=
  { s with
    time := { s.time with
      frac := t, counted := s.time.counted + (t - s.time.frac), landed := false }
    refs := refsCounted (t - s.time.frac) s.refs }

/-- The state once the count has run on to a fraction of its second ahead of it (R2, R4). -/
theorem countPicos_to (goesOn : s.time.endOfRange = false) (ahead : s.time.frac < t) :
    countPicos (t - s.time.frac) s = { s with
      time := { s.time with
        frac := t, counted := s.time.counted + (t - s.time.frac), landed := false
        endOfRange := decide (s.time.base = Config.maxSeconds ∧ t = 999999999999) }
      refs := refsCounted (t - s.time.frac) s.refs } := by
  have sum : s.time.frac + (t - s.time.frac) = t := by omega
  rw [countPicos_eq goesOn, sum]

/-- The count comes to a fraction that it reaches by counting, short of the end of its range (R2, R125). -/
theorem runPast_reached (hc : counting s = true) (ht : t < 1000000000000)
    (short : ¬ (s.time.base = Config.maxSeconds ∧ t = 999999999999))
    (reached : s.time.frac < t ∨ s.time.frac = t ∧ s.time.landed = false)
    (u : s.time.frac < t → Undisturbed t s) : runPast t s = countedTo t s := by
  have goesOn : s.time.endOfRange = false := (counting_iff.mp hc).2
  obtain ahead | ⟨here, landed⟩ := reached
  · rw [runPast_undisturbed (u ahead) hc ht, runTo_of_counting hc ahead ht, countPicos_to goesOn ahead,
      decide_eq_false short]
    simp [countedTo, goesOn]
  · subst here
    have time : ({ s.time with frac := s.time.frac, counted := s.time.counted, landed := false } : TimeBase)
        = s.time := by rw [← landed]
    rw [runPast_here (lt_irrefl _), countedTo, Nat.sub_self, Nat.add_zero, time, refsCounted_zero]

/-- The count reaches the instant ahead within the running second, short of the end of its range (R125). -/
theorem emissionInstant_ahead {i : Nat × Nat} (h : emissionInstant x s = some i) :
    i.2 < 1000000000000 ∧ ¬ (s.time.base = Config.maxSeconds ∧ i.2 = 999999999999)
      ∧ (s.time.frac < i.2 ∨ s.time.frac = i.2 ∧ s.time.landed = false) := by
  have own := congrArg Prod.snd (emissionInstant_eq h)
  dsimp only at own
  obtain ⟨here, frac, landed, -⟩ | ⟨ahead, below, reached⟩ :=
    emissionInstant_isSome.mp (Option.isSome_of_eq_some h)
  · rw [if_pos here] at own
    rw [own]
    exact ⟨by decide, by omega, .inr ⟨frac, landed⟩⟩
  · rw [if_neg ahead.ne'] at own
    rw [own]
    exact ⟨by omega, by omega, reached⟩

theorem portEmission_idle (h : emissionInstant (s.port p) s = none) : portEmission p s = s := by
  unfold portEmission
  rw [h]
  exact ite_self s

theorem portEmission_instant {i : Nat × Nat} (hc : counting s = true)
    (h : emissionInstant (s.port p) s = some i) (u : s.time.frac < i.2 → Undisturbed i.2 s) :
    portEmission p s = runToInstant p i s := by
  unfold portEmission
  rw [if_pos hc, h]
  dsimp only
  rw [settleBefore_undisturbed u, h]

/-- The count comes to the instant, and the port uses it if it may. -/
theorem portEmission_reached {i : Nat × Nat} (hc : counting s = true)
    (h : emissionInstant (s.port p) s = some i) (u : s.time.frac < i.2 → Undisturbed i.2 s) :
    portEmission p s = if usesInstant i.1 (s.port p) then useInstant p i.1 (countedTo i.2 s)
      else countedTo i.2 s := by
  obtain ⟨within, short, reached⟩ := emissionInstant_ahead h
  rw [portEmission_instant hc h u, runToInstant, runPast_reached hc within short reached u]
  rfl

end Instant

/-! ## The use of an instant (R126 to R129, R132) -/

section Message

variable {p : Fin 12} {r : SecondRecord} {offset : Nat} {s : State}

/-- An ACTIVE port with its message composed and begun (R129, R130). -/
def composedPort (m : TimeMessage) (x : Port) : Port :=
  { x with message := some m, sequence := (x.sequence + 1) % 16, pendingMessage := none, stepSeen := false }

theorem composeMessage_active (h : (s.port p).state = .active) : composeMessage p r offset s
    = s.setPort p (composedPort (timeMessage p r offset s) (s.port p)) := if_pos h

/-- Another port drops its message (R129). -/
theorem composeMessage_other (h : (s.port p).state ≠ .active) : composeMessage p r offset s
    = s.setPort p { s.port p with pendingMessage := none } := if_neg h

/-- A message reads of its port the sequence number and the step-seen flag alone (R130). -/
theorem timeMessage_setPort {x : Port} (sequence : x.sequence = (s.port p).sequence)
    (step : x.stepSeen = (s.port p).stepSeen) :
    timeMessage p r offset (s.setPort p x) = timeMessage p r offset s := by
  unfold timeMessage
  rw [State.setPort_port, sequence, step]
  rfl

end Message

section Use

variable {p : Fin 12} {n : Nat} {x : Port} {s : State}

/-! ### The pulse or the aligning edge (R126, R127) -/

theorem emitted_frame (n : Nat) (x : Port) : emitted n x =
    { x with
      lastEmitted := some n, pin := true, pulseWidth := (emitted n x).pulseWidth
      clock := (emitted n x).clock, pendingMessage := (emitted n x).pendingMessage } := by
  unfold emitted
  split <;> rfl

theorem emitted_pulse (h : x.config.type ≠ .clock) :
    (emitted n x).pulseWidth = some x.config.width ∧ (emitted n x).clock = none := by
  unfold emitted
  split
  · exact ⟨rfl, rfl⟩
  · exact ⟨rfl, rfl⟩
  · exact absurd ‹_› h

theorem emitted_clock (h : x.config.type = .clock) :
    (emitted n x).pulseWidth = none ∧ (emitted n x).clock = some (startedRun n x) := by
  simp only [emitted, h, and_self]

theorem roundDiv_zero (d : Nat) : roundDiv 0 d = 0 := by
  have half : (d : Int) / (2 * d) = 0 := by
    obtain rfl | positive := Nat.eq_zero_or_pos d
    · rfl
    · exact Int.ediv_eq_zero_of_lt (by omega) (by omega)
  simpa [roundDiv] using half

theorem servedDelay_eq (x : Port) : servedDelay x = (servedPort (some x.config.stepLimit) x).delay := by
  cases queue : x.queue with
  | nil => simp only [servedDelay, servedPort_nil queue, queue]
  | cons a rest => simp only [servedDelay, servedPort_cons queue, queue]

/-- The run of a second at its aligning edge: the pin falls half-way to the next edge (R127). -/
theorem startedRun_eq (n : Nat) (x : Port) : startedRun n x =
    let first : Int := (n : Int) * 1000000000000 - x.delay
    let aligning : Int := ((n : Int) + 1) * 1000000000000 - servedDelay x
    { second := n, delay := x.delay, frequency := x.config.frequency, last := 0
      falls := some (first + ((if 1 < x.config.frequency then
        min (first + roundDiv 1000000000000 x.config.frequency) aligning else aligning) - first) / 2) } := by
  simp [startedRun, risen, fallingReading, nextReading, risingReading, aligningReading, roundDiv_zero]

/-! ### The message at the pulse (R129) -/

/-- What the message composed at the pulse may write of the port. -/
theorem composeAtPulse_writes (p : Fin 12) (n : Nat) (s : State) : ∃ z,
    composeAtPulse p n s = s.setPort p z ∧ z =
      { s.port p with
        message := z.message, sequence := z.sequence, pendingMessage := z.pendingMessage
        stepSeen := z.stepSeen } := by
  unfold composeAtPulse
  (repeat' split)
  · unfold composeMessage
    dsimp only
    split
    · exact ⟨_, rfl, rfl⟩
    · exact ⟨_, rfl, rfl⟩
  · exact ⟨s.port p, (setPort_self s p).symm, rfl⟩
  · exact ⟨s.port p, (setPort_self s p).symm, rfl⟩

theorem composeAtPulse_unrecorded (h : ∀ r, s.holdover.recorded = some r → r.second ≠ n) :
    composeAtPulse p n s = s := by
  unfold composeAtPulse
  split
  · rename_i r recorded
    exact if_neg fun g => h r recorded g.2
  · rfl

theorem composeAtPulse_recorded {r : SecondRecord} (recorded : s.holdover.recorded = some r)
    (second : r.second = n) (pending : (s.port p).pendingMessage = some n) :
    composeAtPulse p n s = composeMessage p r (labelOffset n s) s := by
  unfold composeAtPulse
  rw [recorded]
  exact if_pos ⟨pending, second⟩

/-- The message at the pulse, once the pulse or the edge has been given. -/
theorem composeAtPulse_emitted (p : Fin 12) (n : Nat) (s : State) : ∃ z,
    composeAtPulse p n (s.setPort p (emitted n (s.port p))) = s.setPort p z
      ∧ z = { emitted n (s.port p) with
        message := z.message, sequence := z.sequence, pendingMessage := z.pendingMessage
        stepSeen := z.stepSeen }
      ∧ ((s.port p).config.type = .pulseTod → (∀ r, s.holdover.recorded = some r → r.second ≠ n) →
        z.pendingMessage = some n)
      ∧ ((s.port p).config.type = .pulseTod → (s.port p).state = .active →
        ∀ r, s.holdover.recorded = some r → r.second = n →
          z = composedPort (timeMessage p r (labelOffset n s) s) (emitted n (s.port p))) := by
  obtain ⟨z, composed, frame⟩ := composeAtPulse_writes p n (s.setPort p (emitted n (s.port p)))
  rw [setPort_setPort] at composed
  rw [State.setPort_port] at frame
  obtain ⟨-, -, -, -, pending⟩ := emitted_writes n (s.port p)
  have own {w : Port} (h : s.setPort p z = s.setPort p w) : z = w := by
    rw [← State.setPort_port s p z, h, State.setPort_port]
  refine ⟨z, composed, frame, fun tod unrecorded => ?_, fun tod active r recorded second => ?_⟩
  · rw [own (composed.symm.trans (composeAtPulse_unrecorded unrecorded))]
    exact pending tod
  · have at_pulse := composeAtPulse_recorded (p := p) (s := s.setPort p (emitted n (s.port p)))
      recorded second (by rw [State.setPort_port]; exact pending tod)
    have still : ((s.setPort p (emitted n (s.port p))).port p).state = .active := by
      rw [State.setPort_port, emitted_frame]
      exact active
    have label : labelOffset n (s.setPort p (emitted n (s.port p))) = labelOffset n s := rfl
    rw [composeMessage_active still, State.setPort_port, setPort_setPort, label,
      timeMessage_setPort (by rw [emitted_frame]) (by rw [emitted_frame])] at at_pulse
    exact own (composed.symm.trans at_pulse)

/-! ### The instant as a whole -/

/-- The service of an instant, seen from the port and the state before it (R132). -/
structure InstantServed (p : Fin 12) (s : State) (y : Port) (u : AlarmUnit) : Prop where
  delay : y.delay = (servedPort (some (s.port p).config.stepLimit) (s.port p)).delay
  queue : y.queue = (servedPort (some (s.port p).config.stepLimit) (s.port p)).queue
  reported : ServiceReported (some (s.port p).config.stepLimit) p (s.port p).delay (s.port p).queue s u

/-- The service that ends an instant, whatever else the instant has made of its port. -/
theorem serveHead_instant {z : Port} (delay : z.delay = (s.port p).delay)
    (queue : z.queue = (s.port p).queue) : ∃ u,
    serveHead (some (s.port p).config.stepLimit) p (s.setPort p z)
        = { s.setPort p (servedPort (some (s.port p).config.stepLimit) z) with alarms := u }
      ∧ InstantServed p s (servedPort (some (s.port p).config.stepLimit) z) u := by
  obtain ⟨u, served, reported⟩ := serveHead_served (some (s.port p).config.stepLimit) p (s.setPort p z)
  obtain ⟨sameDelay, sameQueue⟩ :=
    servedPort_congr (limit := some (s.port p).config.stepLimit) delay queue
  rw [State.setPort_port, delay, queue] at reported
  rw [State.setPort_port, setPort_setPort] at served
  exact ⟨u, served, sameDelay, sameQueue, reported.idle, reported.quiet, reported.notice⟩

/-- A suppressed instant is spent (R128). -/
theorem useInstant_spends (h : (s.port p).suppressNext = true) : ∃ y u,
    useInstant p n s = { s.setPort p y with alarms := u } ∧ InstantServed p s y u
      ∧ y = { s.port p with
        lastEmitted := some n, suppressNext := false, clock := none, delay := y.delay
        queue := y.queue } := by
  obtain ⟨u, run, served⟩ := serveHead_instant (p := p) (s := s) (z := suppressed n (s.port p)) rfl rfl
  refine ⟨_, u, Eq.trans ?_ run, served, servedPort_frame _ _⟩
  unfold useInstant
  dsimp only
  rw [if_pos h]

/-- The port once it has given the pulse or the aligning edge of second `n` (R126, R127, R129). -/
structure InstantGiven (p : Fin 12) (n : Nat) (s : State) (y : Port) : Prop where
  frame : y =
    { s.port p with
      lastEmitted := some n, pin := true, pulseWidth := (emitted n (s.port p)).pulseWidth
      clock := (emitted n (s.port p)).clock, message := y.message, sequence := y.sequence
      pendingMessage := y.pendingMessage, stepSeen := y.stepSeen, delay := y.delay, queue := y.queue }
  waits : (s.port p).config.type = .pulseTod → (∀ r, s.holdover.recorded = some r → r.second ≠ n) →
    y.pendingMessage = some n
  begins : (s.port p).config.type = .pulseTod → (s.port p).state = .active →
    ∀ r, s.holdover.recorded = some r → r.second = n →
      y.pendingMessage = none ∧ y.sequence = ((s.port p).sequence + 1) % 16 ∧ y.stepSeen = false
        ∧ y.message = some (timeMessage p r (labelOffset n s) s)

/-- An instant that is not suppressed gives the pulse or the aligning edge (R126, R127). -/
theorem useInstant_gives (h : (s.port p).suppressNext = false) : ∃ y u,
    useInstant p n s = { s.setPort p y with alarms := u } ∧ InstantServed p s y u
      ∧ InstantGiven p n s y := by
  obtain ⟨z, composed, frame, waits, begins⟩ := composeAtPulse_emitted p n s
  have delay : z.delay = (s.port p).delay := by rw [frame, emitted_frame]
  have queue : z.queue = (s.port p).queue := by rw [frame, emitted_frame]
  obtain ⟨u, run, served⟩ := serveHead_instant (p := p) (s := s) delay queue
  have made := servedPort_frame (some (s.port p).config.stepLimit) z
  refine ⟨_, u, Eq.trans ?_ run, served, ?_, fun tod unrecorded => ?_,
    fun tod active r recorded second => ?_⟩
  · unfold useInstant
    dsimp only
    rw [if_neg (by simp [h]), composed]
  · generalize servedPort (some (s.port p).config.stepLimit) z = y at made ⊢
    refine made.trans ?_
    rw [made, frame, emitted_frame]
  · rw [made]
    exact waits tod unrecorded
  · rw [made, begins tod active r recorded second, emitted_frame]
    exact ⟨rfl, rfl, rfl, rfl⟩

end Use

/-- Settles O59: the count comes to the instant, which the port uses with one service of its queue; a boundary
serves the queue of a port that is not ACTIVE. -/
theorem portsEmitAtTheirInstant : Obligations.PortsEmitAtTheirInstant := by
  refine ⟨fun p s started goesOn => ?instant, fun p s => ⟨portBoundary_active, fun idle => ?boundary⟩⟩
  case boundary =>
    obtain ⟨queue, still, whole⟩ := servedPort_whole (s.port p)
    have state : (servedPort none (s.port p)).state = (s.port p).state := by rw [servedPort_frame]
    have starts := portMayStart_iff (s := s) (x := s.port p)
    rw [portBoundary_port idle]
    by_cases may : portMayStart s (s.port p) = true
    · rw [if_pos may, if_pos (starts.mp may)]
      exact ⟨queue, still, whole, rfl⟩
    · rw [if_neg may, if_neg fun g => may (starts.mpr g)]
      exact ⟨queue, still, whole, state⟩
  case instant =>
    intro x at0 reached u n there used amount first served
    have hc : counting s = true := counting_iff.mpr ⟨started, goesOn⟩
    refine ⟨fun unreached => ?idle, fun reached _ quiet => ?comes⟩
    case idle =>
      have nowhere : emissionInstant x s = none :=
        Option.not_isSome_iff_eq_none.mp fun g => unreached (emissionInstant_isSome.mp g)
      exact congrArg Host.Outcome.next (portEmission_idle nowhere)
    case comes =>
      obtain ⟨i, instant⟩ := Option.isSome_iff_exists.mp (emissionInstant_isSome.mpr reached)
      obtain rfl : i = (n, u) := emissionInstant_eq instant
      have run : portEmission p s = if usesInstant n x then useInstant p n there else there :=
        portEmission_reached hc instant quiet
      have uses (h : used) : portEmission p s = useInstant p n there :=
        run.trans (if_pos (usesInstant_iff.mpr h))
      have serves {y : Port} {a : AlarmUnit} (service : InstantServed p there y a) : served y a := by
        have delay : y.delay = (servedPort (some x.config.stepLimit) x).delay := service.delay
        have queue : y.queue = (servedPort (some x.config.stepLimit) x).queue := service.queue
        have reported : ServiceReported (some x.config.stepLimit) p x.delay x.queue there a :=
          service.reported
        refine ⟨fun empty => ⟨?_, ?_, reported.idle empty⟩, fun h rest head => ?_⟩
        · rw [delay, servedPort_nil empty]
        · rw [queue, servedPort_nil empty, empty]
        · intro d
          have moved : (y.delay : Int) = max 0 (min 10000000 d) := by
            rw [delay]
            exact servedPort_delay head
          have within (low : 0 ≤ d) (high : d ≤ 10000000) :
              ¬ overruns x.delay (some x.config.stepLimit) h := fun g => g.elim low.not_gt high.not_gt
          have leaves (h) := queue.trans (servedPort_leaves head h)
          refine ⟨fun low high => ⟨by omega, fun whole => leaves (.inr whole), fun part =>
              ⟨reported.stays head (within low high) part,
                queue.trans (servedPort_part head (within low high) part)⟩⟩,
            fun low => ⟨by omega, leaves (.inl (.inl low))⟩,
            fun high => ⟨by omega, leaves (.inl (.inr high))⟩, fun gone room => ?_⟩
          rw [delay]
          exact reported.left head (queue.symm.trans gone) room
      refine ⟨fun unused => ?unused, fun inUse skips => ?spends, fun inUse gives => ?gives⟩
      case unused =>
        exact congrArg Host.Outcome.next (run.trans (if_neg fun g => unused (usesInstant_iff.mp g)))
      case spends =>
        obtain ⟨y, a, spent, service, frame⟩ := useInstant_spends (p := p) (n := n) (s := there) skips
        exact ⟨y, a, congrArg Host.Outcome.next ((uses inUse).trans spent), serves service, frame⟩
      case gives =>
        obtain ⟨y, a, given, service, frame, waits, begins⟩ :=
          useInstant_gives (p := p) (n := n) (s := there) gives
        refine ⟨y, a, congrArg Host.Outcome.next ((uses inUse).trans given), serves service, by rw [frame],
          by rw [frame], by rw [frame]; exact inUse.1, by rw [frame]; rfl, by rw [frame]; exact gives,
          fun pulse => by rw [frame]; exact emitted_pulse pulse, fun clock => ?_, waits,
          fun tod => begins tod inUse.1⟩
        obtain ⟨width, starts⟩ := emitted_clock (n := n) clock
        refine ⟨by rw [frame]; exact width, ?_⟩
        have left : servedDelay x = y.delay := (servedDelay_eq x).trans service.delay.symm
        have halfway := startedRun_eq n x
        rw [left] at halfway
        rw [← halfway, frame]
        exact starts

end Sys2Proof.Machine
end

section
set_option Elab.async false

namespace Sys2Proof.Machine

open Sys2Proof.Safety

/-! ## The end of a pulse and the edges of a clock (R126, R127) -/

section Edges

variable {p : Fin 12} {k t : Nat} {rising : Bool} {x : Port} {c : ClockRun} {r : Int} {s : State}

theorem pulseEnd_silent (low : (s.port p).pulseWidth = none) : pulseEnd p s = s := by
  unfold pulseEnd
  rw [low]
  exact ite_self s

/-- The pulse that the pin gives ends (R126). -/
theorem pulseEnd_ends {w : Nat} (h : s.part ≠ .loading) (width : (s.port p).pulseWidth = some w) :
    pulseEnd p s = s.setPort p { s.port p with pin := false, pulseWidth := none } := by
  unfold pulseEnd
  rw [if_pos (started_iff.mpr h), width]

/-! ### Readings and their fractions -/

theorem aheadFraction_ahead (ahead : s.time.frac < t) (within : t < 1000000000000)
    (h : (s.time.base : Int) * 1000000000000 + t = r) : aheadFraction r s = some t := by
  have now := reading_eq s
  unfold aheadFraction
  rw [if_pos ⟨.inl (by omega), by simp; omega⟩]
  congr 1
  simp
  omega

theorem aheadFraction_behind (h : r < s.reading) : aheadFraction r s = none :=
  if_neg fun g => by omega

theorem edgeFraction_none (h : x.clock = none) : edgeFraction k rising x s = none := by
  simp only [edgeFraction, h]

theorem edgeFraction_rises (run : x.clock = some c) (after : 0 < k) (within : k < c.frequency)
    (before : risingReading c k < aligningReading c x.delay) :
    edgeFraction k true x s = aheadFraction (risingReading c k) s := by
  simp only [edgeFraction, run, if_true]
  exact if_pos ⟨after, within, before⟩

/-- An edge behind the count, or that the second does not have, does not come. -/
theorem edgeFraction_absent (run : x.clock = some c) (h : risingReading c k < s.reading ∨ k = 0
    ∨ c.frequency ≤ k ∨ aligningReading c x.delay ≤ risingReading c k) :
    edgeFraction k true x s = none := by
  simp only [edgeFraction, run, if_true]
  split
  · rename_i has
    obtain behind | first | beyond | late := h
    · exact aheadFraction_behind behind
    · omega
    · omega
    · omega
  · rfl

theorem edgeFraction_falls (run : x.clock = some c) (last : c.last = k) (falls : c.falls = some r) :
    edgeFraction k false x s = fallFraction r s := by
  simp [edgeFraction, run, last, falls]

theorem edgeFraction_low (run : x.clock = some c) (h : c.last ≠ k ∨ c.falls = none) :
    edgeFraction k false x s = none := by
  obtain other | low := h
  · simp [edgeFraction, run, other]
  · simp [edgeFraction, run, low]

/-! ### The edge -/

theorem clockEdge_idle (h : edgeFraction k rising (s.port p) s = none) : clockEdge p k rising s = s := by
  unfold clockEdge
  rw [h]
  exact ite_self s

/-- An edge that comes where the count stands. -/
theorem clockEdge_here (hc : counting s = true)
    (h : edgeFraction k rising (s.port p) s = some s.time.frac) :
    clockEdge p k rising s = s.setPort p (edgedPort k rising (s.port p)) := by
  have settled : settleBefore s.time.frac s = s := if_neg (lt_irrefl _)
  unfold clockEdge
  rw [if_pos hc, h]
  dsimp only
  rw [settled, h]
  dsimp only
  rw [runPast_here (lt_irrefl _)]

/-- An edge that the count runs on to. -/
theorem clockEdge_ahead (hc : counting s = true) (u : Undisturbed t s) (ahead : s.time.frac < t)
    (within : t < 1000000000000) (h : edgeFraction k rising (s.port p) s = some t) :
    clockEdge p k rising s
      = (countPicos (t - s.time.frac) s).setPort p (edgedPort k rising (s.port p)) := by
  unfold clockEdge
  rw [if_pos hc, h]
  dsimp only
  rw [settleBefore_undisturbed fun _ => u, h]
  dsimp only
  rw [runPast_undisturbed u hc within, runTo_of_counting hc ahead within]
  rfl

theorem edgedPort_rises (run : x.clock = some c) : edgedPort k true x =
    if x.state = .active then
      { x with
        pin := true
        clock := some { c with
          last := k
          falls := some (risingReading c k + (nextReading c k x.delay - risingReading c k) / 2) } }
    else x := by
  simp [edgedPort, run, risen, fallingReading]

theorem edgedPort_falls (run : x.clock = some c) :
    edgedPort k false x = { x with pin := false, clock := some { c with falls := none } } := by
  simp [edgedPort, run]

end Edges

/-! ## Time messages (R129, R130) -/

/-- A fold over the ports acts on one port once, where the work on the others leaves that port and what the
work on it reads. -/
theorem foldPorts_port {f : State → Fin 12 → State} {g : State → Port → Port} {p : Fin 12}
    (own : ∀ t, (f t p).port p = g t (t.port p)) (other : ∀ t q, p ≠ q → (f t q).port p = t.port p)
    (reads : ∀ t q, g (f t q) = g t) (s : State) : (allPorts.foldl f s).port p = g s (s.port p) := by
  have fold (l : List (Fin 12)) (once : l.Nodup) (t : State) :
      (l.foldl f t).port p = if p ∈ l then g t (t.port p) else t.port p := by
    induction l generalizing t with
    | nil => simp
    | cons q l ih =>
      obtain ⟨new, once⟩ := List.nodup_cons.mp once
      rw [List.foldl_cons, ih once, reads]
      by_cases e : p = q
      · subst e
        rw [if_neg new, if_pos List.mem_cons_self, own]
      · rw [other t q e]
        simp [e]
  have all : p ∈ allPorts := by simp [allPorts]; omega
  rw [fold allPorts (by decide) s, if_pos all]

/-- The time message of a second's record as a port of this sequence number and step-seen flag composes it
(R130). -/
def messageOf (p : Fin 12) (r : SecondRecord) (offset : Nat) (s : State) (x : Port) : TimeMessage :=
  { port := p.val, sequence := x.sequence, second := r.second, offset := offset
    leap := labelLeap r.second s, grade := r.grade
    tee := r.tee.map fun v => min 4294967295 ((v + 999) / 1000)
    holdover := r.seconds, source := s.selector.selected, step := x.stepSeen }

theorem messageTee_eq (tee : Option Nat) :
    messageTee tee = tee.map fun v => min 4294967295 ((v + 999) / 1000) :=
  congrArg (Option.map · tee) (funext fun v => congrArg (min 4294967295) (ceilDiv_pos v (by decide)))

theorem timeMessage_eq (p : Fin 12) (r : SecondRecord) (offset : Nat) (s : State) :
    timeMessage p r offset s = messageOf p r offset s (s.port p) := by
  unfold timeMessage messageOf
  rw [messageTee_eq]

/-- A port at the recording of a second (R129). -/
def recordedPort (p : Fin 12) (r : SecondRecord) (s : State) (x : Port) : Port :=
  if x.pendingMessage = some r.second then
    if x.state = .active then composedPort (messageOf p r (labelOffset r.second s) s x) x
    else { x with pendingMessage := none }
  else x

/-- Composing a message writes its port alone. -/
theorem composeMessage_writes (p : Fin 12) (r : SecondRecord) (offset : Nat) (s : State) :
    ∃ y, composeMessage p r offset s = s.setPort p y := by
  by_cases active : (s.port p).state = .active
  · exact ⟨_, composeMessage_active active⟩
  · exact ⟨_, composeMessage_other active⟩

theorem composeRecorded_port (p : Fin 12) (r : SecondRecord) (s : State) :
    (composeRecorded r s).port p = recordedPort p r s (s.port p) := by
  refine foldPorts_port (fun t => ?own) (fun t q other => ?other) (fun t q => ?reads) s
  case own =>
    unfold recordedPort
    split
    · by_cases active : (t.port p).state = .active
      · rw [if_pos active, composeMessage_active active, State.setPort_port, timeMessage_eq]
      · rw [if_neg active, composeMessage_other active, State.setPort_port]
    · rfl
  case other =>
    obtain ⟨y, written⟩ := composeMessage_writes q r (labelOffset r.second t) t
    split
    · rw [written, State.setPort_port_other _ _ other]
    · rfl
  case reads =>
    obtain ⟨y, written⟩ := composeMessage_writes q r (labelOffset r.second t) t
    split
    · rw [written]; rfl
    · rfl

/-! ### A step (R128, R129) -/

section Step

variable {ev : StepEvent} {p : Fin 12} {n : Nat} {s : State} {x : Port}

theorem stepPasses_iff : stepPasses ev n = true ↔ ev.forward = true ∧
    (if ev.pending then ev.before ≤ n ∧ n < ev.after else ev.before < n ∧ n ≤ ev.after) := by
  unfold stepPasses
  cases ev.pending <;> simp

/-- A step beyond the jump tolerance of an ACTIVE port sets its flags; no step writes its message (R128). -/
theorem portStepped_flags (ev : StepEvent) (x : Port) :
    let beyond := decide (x.state = .active ∧ x.config.jumpTolerance < stepAmount ev)
    (portStepped ev x).suppressNext = (x.suppressNext || beyond)
      ∧ (portStepped ev x).stepSeen = (x.stepSeen || beyond)
      ∧ (portStepped ev x).pendingMessage = x.pendingMessage ∧ (portStepped ev x).message = x.message
      ∧ (portStepped ev x).sequence = x.sequence := by
  unfold portStepped
  dsimp only
  split
  · rename_i beyond
    split <;> simp [beyond]
  · rename_i within
    simp [within]

/-- A step that passes no second whose message is pending sets the flags alone. -/
theorem portStep_unpassed (h : ∀ n, (s.port p).pendingMessage = some n → ¬ stepPasses ev n = true) :
    (portStep ev p s).port p = portStepped ev (s.port p) := by
  obtain ⟨-, -, pending, -⟩ := portStepped_flags ev (s.port p)
  unfold portStep
  dsimp only
  rw [State.setPort_port, pending]
  split
  · rename_i n waits
    rw [if_neg (h n waits), State.setPort_port]
  · rw [State.setPort_port]

/-- A step past the second of a pending message composes or drops it (R129). -/
theorem portStep_passed (waits : (s.port p).pendingMessage = some n) (h : stepPasses ev n = true) :
    (portStep ev p s).port p = if (s.port p).state = .active then
        composedPort (messageOf p (secondRecord n s) (stepLabelOffset ev n s) s (portStepped ev (s.port p)))
          (portStepped ev (s.port p))
      else { portStepped ev (s.port p) with pendingMessage := none } := by
  obtain ⟨-, -, pending, -⟩ := portStepped_flags ev (s.port p)
  obtain ⟨state, -⟩ := portStepped_frame ev (s.port p)
  have composed : portStep ev p s = composeMessage p (secondRecord n s) (stepLabelOffset ev n s)
      (s.setPort p (portStepped ev (s.port p))) := by
    unfold portStep
    dsimp only
    rw [State.setPort_port, pending, waits]
    exact if_pos h
  have still : ((s.setPort p (portStepped ev (s.port p))).port p).state = (s.port p).state := by
    rw [State.setPort_port, state]
  rw [composed]
  split
  · rename_i active
    rw [composeMessage_active (still.trans active), timeMessage_eq, State.setPort_port, State.setPort_port]
    rfl
  · rename_i other
    rw [composeMessage_other fun g => other (still.symm.trans g), State.setPort_port, State.setPort_port]

end Step

/-- Settles O60: the end of a pulse and the edges of a clock, then the messages at a recording and at a step. -/
theorem pinsFollowTheirEdges : Obligations.PinsFollowTheirEdges := by
  refine ⟨fun p s started => ⟨fun low => ?silent, fun w width => ?ends, fun still k b => ?noRun, ?edges⟩,
    fun p s => ?messages⟩
  case silent => exact congrArg Host.Outcome.next (pulseEnd_silent low)
  case ends => exact congrArg Host.Outcome.next (pulseEnd_ends started width)
  case noRun => exact congrArg Host.Outcome.next (clockEdge_idle (edgeFraction_none still))
  case edges =>
    intro c edge k t run readings goesOn x aligning next fallen there
    have hc : counting s = true := counting_iff.mpr ⟨started, goesOn⟩
    have rises (j : Nat) : risingReading c j = edge j := (readings j).symm
    have falls : edgedPort k false x = fallen := edgedPort_falls run
    have counted (ahead : s.time.frac < t) (y : Port) :
        (countPicos (t - s.time.frac) s).setPort p y = there y := by
      rw [countPicos_to goesOn ahead]
      rfl
    refine ⟨fun ahead within quiet after below before instant => ?rising, fun h => ?absent,
      fun r last falling => ⟨fun behind => ?fallsNow, fun ahead within quiet instant => ?falling⟩,
      fun h => ?low⟩
    case rising =>
      rw [← rises k] at before instant
      have comes : edgeFraction k true x s = some t :=
        (edgeFraction_rises run after below before).trans (aheadFraction_ahead ahead within instant)
      have arrives := clockEdge_ahead hc quiet ahead within comes
      rw [counted ahead] at arrives
      have next_eq : nextReading c k x.delay = next := by
        unfold nextReading
        rw [rises (k + 1)]
        rfl
      have risen : edgedPort k true x = _ := edgedPort_rises run
      rw [next_eq, rises k] at risen
      exact congrArg Host.Outcome.next (arrives.trans (congrArg there risen))
    case absent =>
      rw [← rises k] at h
      exact congrArg Host.Outcome.next (clockEdge_idle (edgeFraction_absent run h))
    case fallsNow =>
      have comes : edgeFraction k false x s = some s.time.frac :=
        (edgeFraction_falls run last falling).trans (if_pos behind)
      rw [← falls]
      exact congrArg Host.Outcome.next (clockEdge_here hc comes)
    case falling =>
      have later : ¬ r ≤ s.reading := by have := reading_eq s; omega
      have comes : edgeFraction k false x s = some t :=
        (edgeFraction_falls run last falling).trans
          ((if_neg later).trans (aheadFraction_ahead ahead within instant))
      have arrives := clockEdge_ahead hc quiet ahead within comes
      rw [falls, counted ahead] at arrives
      exact congrArg Host.Outcome.next arrives
    case low => exact congrArg Host.Outcome.next (clockEdge_idle (edgeFraction_low run h))
  case messages =>
    intro x message now
    refine ⟨fun r => ⟨fun other => ?_, fun waits idle => ?_, fun waits active => ?_⟩, fun n => rfl,
      fun ev => ?step⟩
    · rw [composeRecorded_port]
      exact if_neg other
    · rw [composeRecorded_port]
      exact (if_pos waits).trans (if_neg idle)
    · rw [composeRecorded_port]
      exact (if_pos waits).trans (if_pos active)
    case step =>
      intro y beyond passes
      obtain ⟨suppress, step, pending, message, sequence⟩ := portStepped_flags ev x
      by_cases passed : ∃ n, x.pendingMessage = some n ∧ stepPasses ev n = true
      · obtain ⟨n, waits, passed⟩ := passed
        have own : y = _ := portStep_passed waits passed
        have only {m : Nat} (h : x.pendingMessage = some m) : m = n := Option.some.inj (h.symm.trans waits)
        refine ⟨?_, fun unpassed => absurd (stepPasses_iff.mp passed) (unpassed n waits), fun m h _ => ?_⟩
        · rw [own]
          split
          · exact suppress
          · exact suppress
        · obtain rfl := only h
          refine ⟨?_, fun idle => ?_, fun active => ?_⟩
          · rw [own]
            split <;> rfl
          · rw [own, if_neg idle]
            exact message
          · rw [own, if_pos active]
            unfold composedPort messageOf
            rw [sequence, step]
            exact ⟨rfl, rfl, rfl⟩
      · have own : y = portStepped ev x := portStep_unpassed fun n waits h => passed ⟨n, waits, h⟩
        rw [own]
        exact ⟨suppress, fun _ => ⟨pending, message, step⟩,
          fun n waits passes => absurd ⟨n, waits, stepPasses_iff.mpr passes⟩ passed⟩

end Sys2Proof.Machine
end

section
set_option Elab.async false

namespace Sys2Proof.Machine

open Sys2Proof.Safety

/-! ## Requests: the chain (R138, R154 to R157) -/

/-- An accepted request leaves its effect's state with the reply joined. -/
theorem effect_answers {s t : State} (h : Takes s) (kind tag : Byte) {f : Request.Effect}
    {c : List Byte} (e : f s = (t, okWith c)) (hl : t.link = s.link) :
    (.next (takeTyped kind tag f s) : Host.Outcome State Fault Refusal)
      = .next { t with link := answered s.link kind tag .ok c } :=
  congrArg _ (takeTyped_okWith h kind tag e hl)

/-- The declaration of conditions reports to the alarm unit alone (R169). -/
theorem refreshAll_writes (l : List (AlarmKind × Nat)) (s : State) :
    s.refreshAll l = s.setAlarms (s.refreshAll l).alarms := by
  induction l generalizing s with
  | nil => rfl
  | cons x l ih => exact ih (s.refresh x.1 x.2)

theorem chainConditions_writes (s : State) :
    chainConditions s = s.setAlarms (chainConditions s).alarms := refreshAll_writes _ s

section ChainRequests

variable {s : State}

/-! ### POST_WORD -/

theorem requestPostWord_notLeader (w : Word32) (h : s.chain.role ≠ .leader) :
    requestPostWord w s = refuse .notLeader s := if_pos h

theorem requestPostWord_busy (w : Word32) (h : s.chain.role = .leader)
    (full : s.chain.outbox.isSome = true) : requestPostWord w s = refuse .busy s :=
  (if_neg (not_not_intro h)).trans (if_pos full)

theorem requestPostWord_posts (w : Word32) (h : s.chain.role = .leader) (empty : s.chain.outbox = none) :
    requestPostWord w s = (s.setChain { s.chain with outbox := some w }, okWith []) :=
  (if_neg (not_not_intro h)).trans (if_neg (by simp [empty]))

/-! ### CHAIN_COMMAND and CHAIN_CANCEL -/

/-- The argument's two tests of R154: there for LEAP alone, and then in range. -/
theorem commandArgOk_iff (k : ChainCommandKind) (arg : Option Leap) :
    commandArgOk k arg = false ↔ (arg.isSome = true ↔ k ≠ .leap)
      ∨ ∃ l, arg = some l ∧ Config.maxSeconds < l.due := by
  cases arg with
  | none => cases k <;> simp [commandArgOk]
  | some l =>
    cases k
    case leap => simp [commandArgOk]
    all_goals simp [commandArgOk]

/-- What R154 refuses before it asks for the role. -/
def CommandBad (k : ChainCommandKind) (target : Nat) (arg : Option Leap) (s : State) : Prop :=
  7 < target ∨ target = s.chain.address ∨ (arg.isSome = true ↔ k ≠ .leap)
    ∨ ∃ l, arg = some l ∧ Config.maxSeconds < l.due

section Command

variable {k : ChainCommandKind} {target : Nat} {arg : Option Leap}

theorem commandBad_iff : CommandBad k target arg s ↔
    7 < target ∨ target = s.chain.address ∨ commandArgOk k arg = false := by
  rw [commandArgOk_iff]
  exact Iff.rfl

theorem requestChainCommand_bad (h : CommandBad k target arg s) :
    requestChainCommand (some k) target arg s = refuse .invalid s := if_pos (commandBad_iff.mp h)

theorem requestChainCommand_notLeader (h : ¬ CommandBad k target arg s) (role : s.chain.role ≠ .leader) :
    requestChainCommand (some k) target arg s = refuse .notLeader s :=
  (if_neg (h ∘ commandBad_iff.mpr)).trans (if_pos role)

theorem requestChainCommand_leader (h : ¬ CommandBad k target arg s) (role : s.chain.role = .leader) :
    requestChainCommand (some k) target arg s
      = if s.chain.commandSlot.isSome then refuse .busy s
        else (modChain (placeCommand k target arg) s, okWith (putU 1 s.chain.nextCommand)) :=
  (if_neg (h ∘ commandBad_iff.mpr)).trans (if_neg (not_not_intro role))

end Command

theorem requestChainCancel_empty (h : s.chain.commandSlot = none) :
    requestChainCancel s = refuse .tooLate s := by
  simp only [requestChainCancel, h]

theorem requestChainCancel_cancels {c : ChainCommand} (h : s.chain.commandSlot = some c) :
    requestChainCancel s
      = (s.setChain { s.chain with commandSlot := none }, okWith (putU 1 c.sequence)) := by
  simp only [requestChainCancel, h, modChain]

/-! ### SET_CHAIN -/

variable {c : ChainConfig}

theorem requestSetChain_bad (h : chainOk c = false) : requestSetChain c s = refuse .invalid s :=
  if_neg (by simp [h])

theorem requestSetChain_good (h : chainOk c = true) :
    requestSetChain c s = (configureChain c s, okWith (putRole (configureChain c s).chain.role)) :=
  if_pos h

/-- The configuration and the role it gives, written alone. -/
def configWritten (c : ChainConfig) (s : State) : State :=
  s.setChain { s.chain with config := c, role := effectiveRole c s.chain.address }

/-- The record is written alone where role and upstream port's delay stay. -/
theorem configureChain_written (same : effectiveRole c s.chain.address = s.chain.role)
    (h : upstreamDelayChanged s.chain.config c s.chain = false) :
    configureChain c s = configWritten c s := by
  have kept : decide (effectiveRole c s.chain.address ≠ s.chain.role) = false := by simp [same]
  have still : upstreamDelayChanged s.chain.config c
      { s.chain with config := c, role := effectiveRole c s.chain.address } = false := h
  simp only [configureChain, modChain, configWritten, kept, still, Bool.false_eq_true, if_false,
    State.setChain_chain]

/-- A change of the upstream port's delay makes the CHAIN monitor skip its next check (R157). -/
theorem configureChain_skips (same : effectiveRole c s.chain.address = s.chain.role)
    (h : upstreamDelayChanged s.chain.config c s.chain = true) : configureChain c s
      = (configWritten c s).setRef .chain { s.ref .chain with skipNext := true } := by
  have kept : decide (effectiveRole c s.chain.address ≠ s.chain.role) = false := by simp [same]
  have changed : upstreamDelayChanged s.chain.config c
      { s.chain with config := c, role := effectiveRole c s.chain.address } = true := h
  simp only [configureChain, modChain, configWritten, kept, changed, Bool.false_eq_true, if_false,
    if_true, State.setChain_chain]
  rfl

/-- A change of role starts the unit afresh, with its conditions declared (R157). -/
theorem configureChain_restarts (h : effectiveRole c s.chain.address ≠ s.chain.role) :
    configureChain c s = ((configWritten c s).setChain (roleChanged (configWritten c s).chain)).setAlarms
      (configureChain c s).alarms := by
  have run : configureChain c s = chainConditions (modChain roleChanged (configWritten c s)) :=
    if_pos (decide_eq_true h)
  rw [run, chainConditions_writes]
  rfl

end ChainRequests

/-- Settles O36. -/
theorem wordsArePostedAndFetched : Obligations.WordsArePostedAndFetched := by
  refine fun tag s h => ⟨fun w role => ?notLeader, fun w role full => ?busy, fun w role empty => ?posted,
    ?fetched⟩
  case notLeader => exact refusal_answers h 0x2C tag (requestPostWord_notLeader w role)
  case busy => exact refusal_answers h 0x2C tag (requestPostWord_busy w role full)
  case posted => exact effect_answers h 0x2C tag (requestPostWord_posts w role empty) rfl
  case fetched => exact effect_answers h 0x2D tag (f := requestFetchWord) rfl rfl

/-- Settles O35. -/
theorem chainCommandsWaitInTheSlot : Obligations.ChainCommandsWaitInTheSlot := by
  refine fun tag s h => ⟨fun target arg => ?unknown, fun k target arg => ⟨fun bad => ?bad,
    fun good role => ?notLeader, fun good role full => ?busy, fun good role empty => ?placed⟩,
    fun empty => ?tooLate, fun c held => ?cancelled⟩
  case unknown => exact refusal_answers h 0x2A tag (f := requestChainCommand none target arg) rfl
  case bad => exact refusal_answers h 0x2A tag (requestChainCommand_bad bad)
  case notLeader => exact refusal_answers h 0x2A tag (requestChainCommand_notLeader good role)
  case busy => exact refusal_answers h 0x2A tag ((requestChainCommand_leader good role).trans (if_pos full))
  case placed =>
    exact effect_answers h 0x2A tag
      ((requestChainCommand_leader good role).trans (if_neg (by simp [empty]))) rfl
  case tooLate => exact refusal_answers h 0x2B tag (requestChainCancel_empty empty)
  case cancelled => exact effect_answers h 0x2B tag (requestChainCancel_cancels held) rfl

/-- Settles O34: the record alone where the role stays, with the mark of a changed delay, and the unit
started afresh where it does not. -/
theorem setChainAppliesTheRole : Obligations.SetChainAppliesTheRole := by
  intro tag c s h role
  have kept (same : role = s.chain.role) : configWritten c s = s.setChain { s.chain with config := c } := by
    show s.setChain { s.chain with config := c, role := role } = _
    rw [same]
  refine ⟨fun bad => ?refused, fun good same free => ?written, fun good same p up => ?upstream,
    fun good new => ?restarted⟩
  case refused => exact refusal_answers h 0x28 tag (requestSetChain_bad bad)
  case written =>
    have run := configureChain_written (c := c) same (by simp only [upstreamDelayChanged, free])
    have e := requestSetChain_good (s := s) good
    rw [run, kept same] at e
    rw [same]
    exact effect_answers h 0x28 tag e rfl
  case upstream =>
    have e := requestSetChain_good (s := s) good
    rw [same]
    split
    · rename_i stays
      rw [configureChain_written same (by simp [upstreamDelayChanged, up, stays]), kept same] at e
      exact effect_answers h 0x28 tag e rfl
    · rename_i changes
      rw [configureChain_skips same (by simp [upstreamDelayChanged, up, changes]), kept same] at e
      exact effect_answers h 0x28 tag e rfl
  case restarted =>
    have e := requestSetChain_good (s := s) good
    rw [configureChain_restarts new] at e
    exact ⟨_, effect_answers h 0x28 tag e rfl⟩

end Sys2Proof.Machine
end

section
set_option Elab.async false

namespace Sys2Proof.Machine

/-! ## The octets of a TIME frame (R141) -/

/-! ### Slices -/

/-- The entry `i` of a list of fields stands in their octets where the lengths before it say. -/
theorem slice_flatten {fields : List (List Byte)} {i : Nat} {x : List Byte} (h : fields[i]? = some x) :
    slice fields.flatten ((fields.map List.length).take i).sum x.length = x := by
  induction fields generalizing i with
  | nil => simp at h
  | cons a fields ih =>
    cases i with
    | zero =>
      obtain rfl : a = x := by simpa using h
      simp [slice]
    | succ i =>
      have step := ih (i := i) (by simpa using h)
      simpa [slice, List.drop_length_add_append] using step

theorem slice_split_left {l a b : List Byte} {k n m : Nat} (h : slice l k (n + m) = a ++ b)
    (ha : a.length = n) : slice l k n = a := by
  have e : slice l k n = (slice l k (n + m)).take n := by simp [slice, List.take_take]
  rw [e, h, ← ha, List.take_left]

theorem slice_split_right {l a b : List Byte} {k n m : Nat} (h : slice l k (n + m) = a ++ b)
    (ha : a.length = n) : slice l (k + n) m = b := by
  have e : slice l (k + n) m = (slice l k (n + m)).drop n := by
    simp [slice, List.drop_take, List.drop_drop]
  rw [e, h, ← ha, List.drop_left]

theorem octet_of_slice {l : List Byte} {k : Nat} {b : Byte} (h : slice l k 1 = [b]) :
    octet l k = b.toNat := by
  have first : (l.drop k)[0]? = some b := by
    rw [← List.getElem?_take_of_lt (Nat.zero_lt_one)]
    exact congrArg (·[0]?) h
  rw [List.getElem?_drop, Nat.add_zero] at first
  simp [octet, first]

theorem octet_of_putU {l : List Byte} {k v : Nat} (h : slice l k 1 = putU 1 v) (small : v < 256) :
    octet l k = v := by
  rw [octet_of_slice h, BitVec.toNat_ofNat, Nat.mod_eq_of_lt small]

theorem getU_of_putU {l : List Byte} {k n v : Nat} (h : slice l k n = putU n v) (small : v < 256 ^ n) :
    getU (slice l k n) = v := by
  rw [h, getU_putU, Nat.mod_eq_of_lt small]

/-! ### The layout -/

/-- The frame's octets by field, the command's four fields together. -/
def frameFields (f : TimeFrame) : List (List Byte) :=
  [[frameSync], putU 1 (frameFlags f), putU 1 (frameOrigin f), putU 1 f.path.length, putPath f.path,
   putU 6 f.second, putU 1 f.sequence, putGrade f.grade, putU 1 f.offset, putDue f.leap,
   putU 4 f.allowance, putU 4 ((f.word.map BitVec.toNat).getD 0), putFrameCommand f.command,
   checkOctets (frameBody f), [frameEnd]]

/-- The octets that each field takes (11.7). -/
def frameLengths : List Nat := [1, 1, 1, 1, 7, 6, 1, 1, 1, 6, 4, 4, 9, 2, 1]

theorem encodeFrame_eq_flatten (f : TimeFrame) : encodeFrame f = (frameFields f).flatten := by
  simp [encodeFrame, frameFields, frameBody]

theorem putPath_length {path : List Nat} (h : path.length ≤ 7) : (putPath path).length = 7 := by
  simp [putPath]
  omega

theorem putFrameCommand_length (c : Option ChainCommand) : (putFrameCommand c).length = 9 := by
  cases c with
  | none => rfl
  | some c =>
    have kind : (putCommandKind c.kind).length = 1 := by cases c.kind <;> rfl
    simp [putFrameCommand, putDue, kind]

/-- The five flags are the five low bits of their octet. -/
theorem testBit_flags (a b c d e : Bool) :
    let n := a.toNat + 2 * b.toNat + 4 * c.toNat + 8 * d.toNat + 16 * e.toNat
    n < 32 ∧ n.testBit 0 = a ∧ n.testBit 1 = b ∧ n.testBit 2 = c ∧ n.testBit 3 = d
      ∧ n.testBit 4 = e := by
  revert a b c d e
  decide

/-- An optional leap that deletes. -/
def deletes (l : Option Leap) : Bool := decide (l.map Leap.dir = some .delete)

/-- A leap is read from its flag and the octets of its due second. -/
theorem leapAt_of_putDue {l : List Byte} {k : Nat} {x : Leap} (h : slice l k 6 = putDue (some x))
    (range : x.due ≤ Config.maxSeconds) : leapAt l k (deletes (some x)) = x := by
  have due : getU (slice l k 6) = x.due := getU_of_putU h (Nat.lt_of_le_of_lt range (by decide))
  obtain ⟨dir, _⟩ := x
  rw [leapAt, due]
  cases dir <;> rfl

section Layout

variable {f : TimeFrame} (short : f.path.length ≤ 7)

include short

theorem frameFields_lengths : (frameFields f).map List.length = frameLengths := by
  simp [frameFields, frameLengths, putPath_length short, putFrameCommand_length, putGrade, putDue,
    checkOctets]

/-- The field `i` of a frame stands where 11.7 puts it. -/
theorem encodeFrame_slice (i : Nat) {k n : Nat} {x : List Byte} (hx : (frameFields f)[i]? = some x)
    (hn : frameLengths[i]? = some n) (hk : (frameLengths.take i).sum = k) :
    slice (encodeFrame f) k n = x := by
  have len : x.length = n := by
    rw [← frameFields_lengths short, List.getElem?_map, hx] at hn
    simpa using hn
  rw [encodeFrame_eq_flatten, ← hk, ← len, ← frameFields_lengths short]
  exact slice_flatten hx

theorem encodeFrame_length : (encodeFrame f).length = 46 := by
  rw [encodeFrame_eq_flatten, List.length_flatten, frameFields_lengths short]
  rfl

theorem frameBody_length : (frameBody f).length = 42 := by
  have whole := encodeFrame_length short
  simp only [encodeFrame, checkOctets, List.length_append, List.length_cons, List.length_nil,
    putU_length] at whole
  omega

theorem encodeFrame_body : slice (encodeFrame f) 1 42 = frameBody f := by
  simp [encodeFrame, slice, ← frameBody_length short]

/-! ### The flags -/

theorem encodeFrame_flags : octet (encodeFrame f) 1 = frameFlags f ∧ frameFlags f < 32 := by
  have small : frameFlags f < 32 := (testBit_flags _ _ _ _ _).1
  exact ⟨octet_of_putU (encodeFrame_slice short 1 rfl rfl rfl) (by omega), small⟩

theorem encodeFrame_flagBits :
    flagBit (encodeFrame f) 0 = f.leap.isSome ∧ flagBit (encodeFrame f) 1 = deletes f.leap
      ∧ flagBit (encodeFrame f) 2 = f.word.isSome ∧ flagBit (encodeFrame f) 3 = f.command.isSome
      ∧ flagBit (encodeFrame f) 4 = deletes (f.command.bind ChainCommand.arg) := by
  simp only [flagBit, (encodeFrame_flags short).1]
  exact (testBit_flags _ _ _ _ _).2

/-! ### The envelope -/

theorem encodeFrame_envelope : envelopeOk (encodeFrame f) = true := by
  have flags := encodeFrame_flags short
  have check : slice (encodeFrame f) 43 2 = checkOctets (frameBody f) :=
    encodeFrame_slice short 13 rfl rfl rfl
  have last : (encodeFrame f)[45]? = some frameEnd := by
    have tail : encodeFrame f = (frameSync :: frameBody f ++ checkOctets (frameBody f)) ++ [frameEnd] := rfl
    have len : (frameSync :: frameBody f ++ checkOctets (frameBody f)).length = 45 := by
      simp [frameBody_length short, checkOctets]
    rw [tail, ← len, List.getElem?_concat_length]
  simp only [envelopeOk, encodeFrame_length short, last, encodeFrame_body short, check, flags.1,
    flags.2, decide_true, Bool.and_true, Bool.true_and, decide_eq_true_eq]
  rfl

/-! ### The path -/

section Path

variable (present : 1 ≤ f.path.length) (inRange : ∀ a ∈ f.path, a ≤ 6)

theorem encodeFrame_hops : octet (encodeFrame f) 3 = f.path.length :=
  octet_of_putU (encodeFrame_slice short 3 rfl rfl rfl) (by omega)

theorem encodeFrame_path :
    slice (encodeFrame f) 4 f.path.length = f.path.map (BitVec.ofNat 8)
      ∧ slice (encodeFrame f) (4 + f.path.length) (7 - f.path.length)
          = List.replicate (7 - f.path.length) 0xFF := by
  have whole : slice (encodeFrame f) 4 7 = putPath f.path := encodeFrame_slice short 4 rfl rfl rfl
  rw [putPath, List.take_of_length_le short,
    show (7 : Nat) = f.path.length + (7 - f.path.length) by omega] at whole
  simp only [Nat.add_sub_cancel_left] at whole
  exact ⟨slice_split_left whole (by simp), slice_split_right whole (by simp)⟩

include inRange

theorem encodeFrame_pathOf : pathOf (encodeFrame f) = f.path := by
  rw [pathOf, encodeFrame_hops short, (encodeFrame_path short).1, List.map_map]
  refine (List.map_congr_left fun a ha => ?_).trans (List.map_id _)
  have := inRange a ha
  simp only [Function.comp_apply, BitVec.toNat_ofNat, id]
  omega

include present

theorem encodeFrame_pathOk (distinct : f.path.Nodup) : pathOk (encodeFrame f) = true := by
  have origin : octet (encodeFrame f) 2 = frameOrigin f := by
    refine octet_of_putU (encodeFrame_slice short 2 rfl rfl rfl) ?_
    cases path : f.path with
    | nil => simp [path] at present
    | cons a rest =>
      have := inRange a (by simp [path])
      simp only [frameOrigin, path, List.headD_cons]
      omega
  have head : f.path.head? = some (frameOrigin f) := by
    cases path : f.path with
    | nil => simp [path] at present
    | cons a rest => simp [frameOrigin, path]
  simp [pathOk, encodeFrame_pathOf short inRange, encodeFrame_hops short, (encodeFrame_path short).2,
    origin, head, distinct, Machine.inRange, present, short]
  exact inRange

end Path

/-! ### The fields -/

theorem encodeFrame_grade : gradeOf (octet (encodeFrame f) 18) = some f.grade := by
  have grade : slice (encodeFrame f) 18 1 = putGrade f.grade := encodeFrame_slice short 7 rfl rfl rfl
  rw [octet_of_slice grade]
  cases f.grade <;> rfl

theorem encodeFrame_leap (range : ∀ l, f.leap = some l → l.due ≤ Config.maxSeconds) :
    (if flagBit (encodeFrame f) 0 then
        some (leapAt (encodeFrame f) 20 (flagBit (encodeFrame f) 1)) else none) = f.leap := by
  have due : slice (encodeFrame f) 20 6 = putDue f.leap := encodeFrame_slice short 9 rfl rfl rfl
  obtain ⟨present, direction, -⟩ := encodeFrame_flagBits short
  rw [present, direction]
  cases leap : f.leap with
  | none => rfl
  | some x =>
    rw [leap] at due
    exact congrArg some (leapAt_of_putDue due (range x leap))

theorem encodeFrame_word :
    (if flagBit (encodeFrame f) 2 then
        some (BitVec.ofNat 32 (getU (slice (encodeFrame f) 30 4))) else none) = f.word := by
  obtain ⟨-, -, present, -⟩ := encodeFrame_flagBits short
  have word : slice (encodeFrame f) 30 4 = putU 4 ((f.word.map BitVec.toNat).getD 0) :=
    encodeFrame_slice short 11 rfl rfl rfl
  rw [present]
  cases e : f.word with
  | none => rfl
  | some w =>
    rw [e] at word
    rw [getU_of_putU word w.isLt]
    exact congrArg some (BitVec.ofNat_toNat 32 w)

/-- A command is read from its four fields and the flag of its direction. -/
theorem encodeFrame_command {c : ChainCommand} (h : f.command = some c) (target : c.target ≤ 7)
    (sequence : c.sequence ≤ 255) (arg : c.arg.isSome = true ↔ c.kind = .leap)
    (range : ∀ l, c.arg = some l → l.due ≤ Config.maxSeconds) :
    commandOf (encodeFrame f) = some c := by
  have four : slice (encodeFrame f) 34 9 = putCommandKind c.kind
      ++ (putU 1 c.target ++ (putU 1 c.sequence ++ putDue c.arg)) := by
    have whole : slice (encodeFrame f) 34 9 = putFrameCommand f.command :=
      encodeFrame_slice short 12 rfl rfl rfl
    rw [whole, h]
    simp [putFrameCommand]
  have kindLength : (putCommandKind c.kind).length = 1 := by cases c.kind <;> rfl
  have kind := slice_split_left (m := 8) four kindLength
  have three := slice_split_right (m := 8) four kindLength
  have targetAt := octet_of_putU (slice_split_left (m := 7) three rfl) (by omega)
  have two := slice_split_right (m := 7) three rfl
  have sequenceAt := octet_of_putU (slice_split_left (m := 6) two rfl) (by omega)
  have due := slice_split_right (m := 6) two rfl
  obtain ⟨-, -, -, -, direction⟩ := encodeFrame_flagBits short
  rw [h] at direction
  have named : commandKindOf (octet (encodeFrame f) 34) = some c.kind := by
    cases e : c.kind <;> rw [e] at kind <;> rw [octet_of_slice kind] <;> rfl
  cases e : c.kind
  case leap =>
    obtain ⟨x, held⟩ := Option.isSome_iff_exists.mp (arg.mpr e)
    have at37 : leapAt (encodeFrame f) 37 (flagBit (encodeFrame f) 4) = x := by
      rw [direction, Option.bind_some, held]
      exact leapAt_of_putDue (held ▸ due) (range x held)
    simp only [commandOf, named, e, targetAt, sequenceAt, at37, target, if_true]
    rw [← e, ← held]
  all_goals
    have none : c.arg = none := by
      cases held : c.arg with
      | none => rfl
      | some x => simp [held, e] at arg
    have free : flagBit (encodeFrame f) 4 = false := by rw [direction, Option.bind_some, none]; rfl
    have zero : getU (slice (encodeFrame f) 37 6) = 0 := by
      rw [due, none]
      rfl
    simp only [commandOf, named, e, targetAt, sequenceAt, free, zero, target, and_self, if_true]
    rw [← e, ← none]

end Layout

/-- Settles O14. -/
theorem chainFramesReadBackAsSent : Obligations.ChainFramesReadBackAsSent := by
  intro f present short inRange distinct second sequence offset leap allowance command
  have secondAt : getU (slice (encodeFrame f) 11 6) = f.second :=
    getU_of_putU (encodeFrame_slice short 5 rfl rfl rfl) (Nat.lt_of_le_of_lt second (by decide))
  have sequenceAt : octet (encodeFrame f) 17 = f.sequence :=
    octet_of_putU (encodeFrame_slice short 6 rfl rfl rfl) (by omega)
  have offsetAt : octet (encodeFrame f) 19 = f.offset :=
    octet_of_putU (encodeFrame_slice short 8 rfl rfl rfl) (by omega)
  have allowanceAt : getU (slice (encodeFrame f) 26 4) = f.allowance :=
    getU_of_putU (encodeFrame_slice short 10 rfl rfl rfl) (Nat.lt_of_le_of_lt allowance (by decide))
  have fields (c : Option ChainCommand) :
      frameOf (encodeFrame f) f.grade c = { f with command := c } := by
    rw [frameOf, encodeFrame_pathOf short inRange, secondAt, sequenceAt, offsetAt, allowanceAt,
      encodeFrame_leap short leap, encodeFrame_word short]
  have present := encodeFrame_pathOk short present inRange distinct
  obtain ⟨-, -, -, flag, -⟩ := encodeFrame_flagBits short
  rw [decodeFrame, if_pos (by simp [encodeFrame_envelope short, present, sequenceAt, allowanceAt,
    sequence, allowance]), encodeFrame_grade short, flag]
  cases e : f.command with
  | none => exact congrArg some ((fields none).trans (by rw [← e]))
  | some c =>
    obtain ⟨target, number, arg, range⟩ := command c e
    show (commandOf (encodeFrame f)).map _ = _
    rw [encodeFrame_command short e target number arg range, Option.map_some, fields, ← e]

end Sys2Proof.Machine
end

section
set_option Elab.async false

namespace Sys2Proof.Machine

/-! ## What a step of the time base moves in the chain unit (R11) -/

/-- The chain unit with every held capture moved. -/
def movedCaptures (amount : Int) (c : ChainUnit) : ChainUnit :=
  { c with portA := movedRecord amount c.portA, portB := movedRecord amount c.portB }

theorem movedRecord_zero (r : ChainRecord) : movedRecord 0 r = r := by
  simp [movedRecord]

theorem movedRecord_movedRecord (a b : Int) (r : ChainRecord) :
    movedRecord b (movedRecord a r) = movedRecord (a + b) r := by
  cases e : r.capture <;> simp [movedRecord, e, add_assoc]

/-- The chain unit is as it was, but that steps may have moved its captures. -/
def CapturesMove (s t : State) : Prop := ∃ amount, t.chain = movedCaptures amount s.chain

theorem CapturesMove.of_eq {s t : State} (h : t.chain = s.chain) : CapturesMove s t :=
  ⟨0, by rw [h, movedCaptures, movedRecord_zero, movedRecord_zero]⟩

theorem CapturesMove.refl (s : State) : CapturesMove s s := .of_eq rfl

theorem CapturesMove.trans {s t u : State} (h : CapturesMove s t) (g : CapturesMove t u) :
    CapturesMove s u := by
  obtain ⟨a, h⟩ := h
  obtain ⟨b, g⟩ := g
  refine ⟨a + b, ?_⟩
  rw [g, h]
  simp only [movedCaptures, movedRecord_movedRecord]

theorem presentStep_captures (ev : StepEvent) (s : State) : CapturesMove s (presentStep ev s) :=
  ⟨eventAmount ev, by simp [presentStep, chainStep, movedCaptures]⟩

theorem performStep_captures (k : StepKind) (a : Int) (s : State) : CapturesMove s (performStep k a s) := by
  unfold performStep
  dsimp only
  split
  · exact .refl s
  · exact .trans (.of_eq (by simp)) (presentStep_captures _ _)

theorem timeSetting_captures (k : Slot) (d : Int) (s : State) : CapturesMove s (timeSetting k d s) := by
  unfold timeSetting
  dsimp only
  split
  · exact .of_eq (by simp)
  · exact .trans (.of_eq (by simp)) (presentStep_captures _ _)

theorem phaseUpdate_captures (e : Int) (l : Nat) (s : State) :
    CapturesMove s (phaseUpdate e l s).result := by
  unfold phaseUpdate
  dsimp only
  split
  · exact .trans (.of_eq (by simp)) (performStep_captures _ _ _)
  · exact .of_eq (by simp)

theorem servoUpdate_captures {v : Int} {l : Nat} {s : State} {u : Update}
    (h : servoUpdate v l s = some u) : CapturesMove s u.result := by
  unfold servoUpdate at h
  split at h <;> cases h
  · exact phaseUpdate_captures v l s
  · exact phaseUpdate_captures v l s
  · exact .of_eq (by simp)

theorem handoffUpdate_captures (k : Slot) (m : Measurement) (l : Nat) (b : Bool) (s : State) :
    CapturesMove s (handoffUpdate k m l b s) := by
  have recorded : CapturesMove s (recordHandoff k m s) := .of_eq (by simp)
  have reported (t : State) (u : Update) : CapturesMove u.result (reportUpdate k m.value l t u) :=
    .of_eq (by simp [reportUpdate])
  unfold handoffUpdate
  dsimp only
  split
  · rename_i u made
    refine recorded.trans (.trans ?_ (reported _ u))
    split at made
    · cases made
      exact performStep_captures _ _ _
    · exact servoUpdate_captures made
  · exact recorded

theorem handoff_captures (k : Slot) (m : Measurement) (b : Bool) (s : State) :
    CapturesMove s (handoff k m b s) := by
  have updated (t : State) : CapturesMove t
      (if t.servo.followed = some k then handoffUpdate k m (s.ref k).level b t else t) := by
    split
    · exact handoffUpdate_captures _ _ _ _ t
    · exact .refl t
  unfold handoff
  dsimp only
  split
  · refine .trans ?_ (updated _)
    split
    · exact timeSetting_captures k _ s
    · exact .refl s
  · exact .refl s

theorem checkMeasurement_captures (k : Slot) (x : Measurement) (s : State) :
    CapturesMove s (checkMeasurement k x s) := by
  have judged : CapturesMove s (agreementRun k x.value (timeCheck k x s).1) := .of_eq (by simp)
  unfold checkMeasurement
  dsimp only
  split
  · split
    · exact judged.trans (handoff_captures _ _ _ _)
    · exact judged
  · exact .of_eq (by simp)

theorem takeMeasurement_captures (k : Slot) (x : Measurement) (s : State) :
    CapturesMove s (takeMeasurement k x s) := by
  have judged : CapturesMove s (recordMeasurement k x (wanderJudge k x.value s)) := .of_eq (by simp)
  unfold takeMeasurement
  dsimp only
  split
  · exact .refl s
  · exact .refl s
  · exact .of_eq (by simp)
  all_goals
    split
    · exact judged.trans (checkMeasurement_captures k x _)
    · exact judged

theorem chainMonitorTakes_captures (p : ChainPort) (f : TimeFrame) (c : Option Int) (s : State) :
    CapturesMove s (chainMonitorTakes p f c s) := by
  have appeared : CapturesMove s (signalAppears .chain s) := .of_eq (by simp)
  unfold chainMonitorTakes
  dsimp only
  split
  · exact appeared.trans (takeMeasurement_captures _ _ _)
  · exact appeared

/-! ## What the chain unit's own operations write -/

theorem modChain_chain (f : ChainUnit → ChainUnit) (s : State) : (modChain f s).chain = f s.chain := rfl

theorem modRecord_chain (p : ChainPort) (f : ChainRecord → ChainRecord) (s : State) :
    (modRecord p f s).chain = s.chain.setRecord p (f (s.chain.record p)) := rfl

/-! ### Sending (R142, R143, R152) -/

/-- The chain unit without what the sending of a second writes. -/
def unsent (c : ChainUnit) : ChainUnit :=
  { c with
    relayCommand := none, relayWord := none, lastSent := none, sequence := 0, commandSlot := none
    outbox := none, frameDue := none, outA := chainOutputAtReset, outB := chainOutputAtReset }

theorem carry_unsent (c : ChainUnit) : unsent (carry c).2 = unsent c := by
  unfold carry
  split
  · rfl
  · split <;> rfl

theorem composeFrame_unsent (r : SecondRecord) (d : FrameDue) (s : State) :
    unsent (composeFrame r d s).chain = unsent s.chain := by
  simp only [composeFrame, sentNotices_frame, State.setChain_chain]
  exact carry_unsent s.chain

theorem composeDue_unsent (s : State) : unsent (composeDue s).chain = unsent s.chain := by
  unfold composeDue
  split
  · split
    · exact composeFrame_unsent _ _ s
    · rfl
  · rfl

theorem chainSend_unsent (n : Nat) (s : State) : unsent (chainSend n s).chain = unsent s.chain := by
  unfold chainSend
  split
  · exact composeDue_unsent _
  · rfl

/-- A sending that waits is given its second, and sending writes no more of the unit than it owns. -/
theorem sendOrWait_unsent (n : Nat) (s : State) :
    unsent { (sendOrWait n s).chain with sendDue := none } = unsent { s.chain with sendDue := none } := by
  have sent : unsent { (chainSend n s).chain with sendDue := none }
      = unsent { s.chain with sendDue := none } :=
    congrArg (fun c : ChainUnit => { c with sendDue := none }) (chainSend_unsent n s)
  unfold sendOrWait
  split
  · split
    · rfl
    · exact sent
  · exact sent

theorem sendWaiting_unsent (s : State) :
    unsent (sendWaiting s).chain = unsent { s.chain with sendDue := none } := by
  unfold sendWaiting
  split
  · exact chainSend_unsent _ _
  · rename_i free
    show unsent s.chain = _
    rw [← free]

/-! ### The upstream (R147 to R150) -/

/-- The chain unit after a change of upstream (R150). -/
def movedUpstream (new : Option ChainPort) (c : ChainUnit) : ChainUnit :=
  { c with
    upstream := new, swap := none, relayCommand := none, relayWord := none, lastCommand := none
    lastUpstream := new.bind fun p => (c.record p).summary.map upstreamFrame }

theorem changeUpstream_chain (new : Option ChainPort) (r : PathReason) (s : State) :
    (changeUpstream new r s).chain = movedUpstream new s.chain := by
  cases new <;> simp [changeUpstream, modChain, movedUpstream]

/-- The chain unit without what the judgement of the upstream writes. -/
def unjudged (c : ChainUnit) : ChainUnit :=
  { c with
    upstream := none, unattached := 0, swap := none, lastUpstream := none, relayCommand := none
    relayWord := none, lastCommand := none }

theorem changeUpstream_unjudged (new : Option ChainPort) (r : PathReason) (s : State) :
    unjudged (changeUpstream new r s).chain = unjudged s.chain := by
  rw [changeUpstream_chain]
  rfl

theorem judgeGrade_unjudged (p : ChainPort) (s : State) :
    unjudged (judgeGrade p s).chain = unjudged s.chain := by
  unfold judgeGrade
  dsimp only
  split
  · split
    · split
      · exact changeUpstream_unjudged _ _ s
      · rfl
    · rfl
  · split
    · split <;> rfl
    · split <;> rfl

theorem judgeLoss_unjudged (p : ChainPort) (s : State) :
    unjudged (judgeLoss p s).chain = unjudged s.chain := by
  unfold judgeLoss
  split
  · split
    · exact changeUpstream_unjudged _ _ s
    · rfl
  · exact changeUpstream_unjudged _ _ _

theorem judgeUpstream_unjudged (s : State) : unjudged (judgeUpstream s).chain = unjudged s.chain := by
  unfold judgeUpstream
  split
  · unfold judgeUnattached
    dsimp only
    split
    · exact changeUpstream_unjudged _ _ _
    · rfl
  · dsimp only
    split
    · exact judgeGrade_unjudged _ s
    · split
      · exact judgeLoss_unjudged _ s
      · rfl

theorem swapActs_unjudged (r : PathReason) (s : State) :
    unjudged (swapActs r s).chain = unjudged s.chain := by
  unfold swapActs
  split
  · split
    · exact changeUpstream_unjudged _ _ _
    · exact changeUpstream_unjudged _ _ s
  · rfl

end Sys2Proof.Machine
end

section
set_option Elab.async false

namespace Sys2Proof.Machine

open Sys2Proof.Safety

/-! ## The word in the inbox (R156, R159) -/

/-- With no soft restart due, none becomes due and a word that stands in the inbox stands there after. -/
def KeepsWord (s t : State) : Prop :=
  s.link.restartDue = false →
    t.link.restartDue = false ∧ ∀ w, s.chain.inbox = some w → t.chain.inbox = some w

theorem KeepsWord.of_same {s t : State} (link : t.link = s.link) (inbox : t.chain.inbox = s.chain.inbox) :
    KeepsWord s t := fun free => ⟨link ▸ free, fun _ h => inbox.trans h⟩

theorem KeepsWord.of_blocks {s t : State} (link : t.link = s.link) (chain : t.chain = s.chain) :
    KeepsWord s t := .of_same link (congrArg ChainUnit.inbox chain)

theorem KeepsWord.of_captures {s t : State} (link : t.link = s.link) (h : CapturesMove s t) :
    KeepsWord s t := by
  obtain ⟨amount, chain⟩ := h
  exact .of_same link (by rw [chain]; rfl)

theorem KeepsWord.refl (s : State) : KeepsWord s s := .of_blocks rfl rfl

theorem KeepsWord.trans {s t u : State} (h : KeepsWord s t) (g : KeepsWord t u) : KeepsWord s u := by
  intro free
  obtain ⟨free, first⟩ := h free
  obtain ⟨free, second⟩ := g free
  exact ⟨free, fun w held => second w (first w held)⟩

theorem KeepsWord.foldl {α : Type} {f : State → α → State} (h : ∀ s x, KeepsWord s (f s x)) (l : List α)
    (s : State) : KeepsWord s (l.foldl f s) := by
  induction l generalizing s with
  | nil => exact .refl s
  | cons x l ih => exact (h s x).trans (ih _)

/-! ### The chain unit -/

theorem inbox_of_unsent {c d : ChainUnit} (h : unsent c = unsent d) : c.inbox = d.inbox :=
  (congrArg ChainUnit.inbox h :)

theorem inbox_of_unjudged {c d : ChainUnit} (h : unjudged c = unjudged d) : c.inbox = d.inbox :=
  (congrArg ChainUnit.inbox h :)

theorem setRecord_inbox (c : ChainUnit) (p : ChainPort) (r : ChainRecord) :
    (c.setRecord p r).inbox = c.inbox := by
  cases p <;> rfl

theorem modRecord_inbox (p : ChainPort) (f : ChainRecord → ChainRecord) (s : State) :
    (modRecord p f s).chain.inbox = s.chain.inbox := setRecord_inbox _ p _

theorem takeCommand_inbox (c : ChainCommand) (s : State) :
    (takeCommand c s).chain.inbox = s.chain.inbox := by
  unfold takeCommand
  dsimp only
  (repeat' split) <;> simp [modChain]

theorem takeFrameCommand_keepsWord (f : TimeFrame) (s : State) : KeepsWord s (takeFrameCommand f s) := by
  refine .of_same (by simp) ?_
  unfold takeFrameCommand
  split
  · exact takeCommand_inbox _ s
  · rfl

/-- A word that arrives enters an empty inbox alone (R156). -/
theorem takeFrameWord_keepsWord (f : TimeFrame) (s : State) : KeepsWord s (takeFrameWord f s) := by
  refine fun free => ⟨by simp [free], fun w held => ?_⟩
  unfold takeFrameWord takeWord
  split
  · simp [held, modChain]
  · exact held

theorem upstreamTakes_keepsWord (p : ChainPort) (f : TimeFrame) (c : Option Int) (b : Bool) (s : State) :
    KeepsWord s (upstreamTakes p f c b s) := by
  have last : KeepsWord s (modChain (fun u => { u with lastUpstream := some (upstreamFrame f) }) s) :=
    .of_same rfl rfl
  have monitor (t : State) : KeepsWord t (chainMonitorTakes p f c t) :=
    .of_captures (by simp) (chainMonitorTakes_captures p f c t)
  have tail (t : State) : KeepsWord t (modChain (fillRelay f) (takeFrameWord f t)) :=
    (takeFrameWord_keepsWord f t).trans (.of_same rfl rfl)
  unfold upstreamTakes
  dsimp only
  split
  · exact last.trans ((takeFrameCommand_keepsWord f _).trans ((monitor _).trans (tail _)))
  · exact last.trans ((monitor _).trans ((takeFrameCommand_keepsWord f _).trans (tail _)))

theorem memberDiscards_inbox (p : ChainPort) (f : TimeFrame) (s : State) :
    (memberDiscards p f s).chain.inbox = s.chain.inbox := by
  unfold memberDiscards
  dsimp only
  (repeat' split) <;> simp [modChain_chain, modRecord_inbox]

theorem memberTakes_keepsWord (p : ChainPort) (f : TimeFrame) (c : Option Int) (b : Bool) (s : State) :
    KeepsWord s (memberTakes p f c b s) := by
  have marked : KeepsWord s (chainConditions (modRecord p (validRecord f) s)) :=
    .of_same (by simp) (by simp [modRecord_inbox])
  unfold memberTakes
  dsimp only
  split
  · split
    · exact marked.trans (upstreamTakes_keepsWord p f c b _)
    · exact marked
  · exact .of_same (by simp) (memberDiscards_inbox p f s)

theorem leaderTakes_inbox (p : ChainPort) (f : TimeFrame) (s : State) :
    (leaderTakes p f s).chain.inbox = s.chain.inbox := by
  have judged (t : State) : (if frameOrigin f = t.chain.address then t
      else chainConditions (modChain (fun u => { u with conflict := Timer.start 3 }) t)).chain.inbox
        = t.chain.inbox := by
    split <;> simp [modChain_chain]
  exact (judged _).trans (modRecord_inbox p _ s)

theorem receiveFrame_keepsWord (p : ChainPort) (l : List Byte) (b : Bool) (s : State) :
    KeepsWord s (receiveFrame p l b s) := by
  have record (f : ChainRecord → ChainRecord) (t : State) : KeepsWord t (modRecord p f t) :=
    .of_same rfl (modRecord_inbox p f t)
  unfold receiveFrame
  dsimp only
  split
  · exact .refl s
  · refine (record (fun r => { r with capture := none }) s).trans ?_
    split
    · exact record _ _
    · split
      · exact .of_same (by simp) (leaderTakes_inbox p _ _)
      · exact memberTakes_keepsWord p _ _ b _

theorem captureMarker_keepsWord (p : ChainPort) (s : State) : KeepsWord s (captureMarker p s) := by
  unfold captureMarker
  split
  · exact .refl s
  · exact .of_same rfl (modRecord_inbox p _ s)

theorem chainCounts_inbox (c : ChainUnit) : (chainCounts c).inbox = c.inbox := by
  unfold chainCounts
  dsimp only
  split
  · exact setRecord_inbox _ _ _
  · rfl

theorem sendOrWait_inbox (n : Nat) (s : State) : (sendOrWait n s).chain.inbox = s.chain.inbox :=
  (congrArg ChainUnit.inbox (sendOrWait_unsent n s) :)

theorem sendWaiting_inbox (s : State) : (sendWaiting s).chain.inbox = s.chain.inbox :=
  (congrArg ChainUnit.inbox (sendWaiting_unsent s) :)

theorem chainBoundary_keepsWord (n : Nat) (s : State) : KeepsWord s (chainBoundary n s) := by
  have judged (t : State) : (judgeUpstream t).chain.inbox = t.chain.inbox :=
    inbox_of_unjudged (judgeUpstream_unjudged t)
  have ticked (t : State) : (modChain tickChainTimers t).chain.inbox = t.chain.inbox := rfl
  refine .of_same (by simp) ?_
  unfold chainBoundary
  dsimp only
  split
  · simp
  · rw [sendOrWait_inbox, ticked]
    split <;> simp [judged, modChain_chain, chainCounts_inbox]

theorem swapExpires_keepsWord (s : State) : KeepsWord s (swapExpires s) := by
  refine .of_same (by simp) ?_
  unfold swapExpires
  split
  · rename_i w _
    split
    · exact (sendWaiting_inbox _).trans (inbox_of_unjudged (swapActs_unjudged w.reason s))
    · rfl
  · rfl

theorem conflictExpires_keepsWord (s : State) : KeepsWord s (conflictExpires s) := by
  unfold conflictExpires
  split
  · exact .of_same (by simp) (by simp [modChain_chain])
  · exact .refl s

theorem tooLongExpires_keepsWord (s : State) : KeepsWord s (tooLongExpires s) := by
  unfold tooLongExpires
  split
  · exact .of_same (by simp) (by simp [modChain_chain])
  · exact .refl s

/-! ### The work of a boundary -/

theorem holdoverBoundary_keepsWord (n : Nat) (s : State) : KeepsWord s (holdoverBoundary n s) := by
  refine .of_same (by simp) ?_
  unfold holdoverBoundary recordGrade
  dsimp only
  rw [inbox_of_unsent (composeDue_unsent _)]
  split <;> simp

theorem filterBoundary_keepsWord (n : Nat) (s : State) : KeepsWord s (filterBoundary n s) := by
  refine .of_captures (by simp) ?_
  unfold filterBoundary
  dsimp only
  split
  · split
    · exact .trans (.of_eq (by simp)) (takeMeasurement_captures _ _ _)
    · exact .of_eq (by simp)
  · exact .refl s

theorem lineEpoch_keepsWord (k : LineSlot) (s : State) : KeepsWord s (lineEpoch k s) := by
  refine .of_captures (by simp) ?_
  unfold lineEpoch
  dsimp only
  (repeat' split)
  · exact .refl s
  · exact .of_eq (by simp)
  · exact takeMeasurement_captures _ _ s
  · exact .refl s

theorem satPulseArrives_keepsWord (k : SatSlot) (s : State) : KeepsWord s (satPulseArrives k s) := by
  refine .of_captures (by simp) ?_
  unfold satPulseArrives satPulseTaken
  dsimp only
  split
  · exact .refl s
  · split
    · exact .trans (.of_eq (by simp)) (takeMeasurement_captures _ _ _)
    · exact .of_eq (by simp)

theorem blockActs_keepsWord (n : Nat) (s : State) (b : Block) : KeepsWord s (blockActs n s b) := by
  cases b with
  | filter => exact filterBoundary_keepsWord n s
  | line k => exact lineEpoch_keepsWord k s
  | holdover => exact holdoverBoundary_keepsWord n s
  | chain => exact chainBoundary_keepsWord n s
  | pulse k => exact satPulseArrives_keepsWord k s
  | marker p => exact captureMarker_keepsWord p s
  | frame p l c => exact receiveFrame_keepsWord p l c s
  | scheduler | agreement | servo | ports | edges | silence | clock | instant | slotTimers | dwell
  | rearm | alarms => exact .of_blocks (by simp) (by simp [blockActs])

theorem applyPending_keepsWord (o : Nat) (p : PendingSet) (s : State) :
    KeepsWord s (applyPending o p s) := by
  refine .of_captures (by simp) ?_
  unfold applyPending
  dsimp only
  split
  · exact .of_eq (by simp)
  · exact .trans (.of_eq (by simp)) (presentStep_captures _ _)

theorem markBoundary_keepsWord (order : List Block) (s : State) : KeepsWord s (markBoundary order s) := by
  have expiries (n : Nat) (t : State) : KeepsWord t (expiriesFirst n order t) :=
    .of_blocks (by simp) (by simp)
  have blocks (n : Nat) (t : State) : KeepsWord t (blocksAct n order t) :=
    .foldl (blockActs_keepsWord n) _ t
  have counted (n k : Nat) : KeepsWord s (markDue n (countTimers k (s.setTime (markTime s.time)))) :=
    .of_blocks (by simp) (by simp)
  unfold markBoundary
  dsimp only
  split
  · exact (counted _ _).trans ((expiries _ _).trans ((applyPending_keepsWord _ _ _).trans (blocks _ _)))
  · exact (counted _ _).trans ((expiries _ _).trans (blocks _ _))

/-! ### The count -/

theorem restartActs_keepsWord (s : State) : KeepsWord s (restartActs s) := fun free => by
  rw [restartActs_of_not_due free]
  exact ⟨free, fun _ h => h⟩

theorem settle_keepsWord (s : State) : KeepsWord s (settle s) := by
  have first (t : State) : KeepsWord t (allPorts.foldl (fun s p => rearmExpires p s) (dwellExpires
      (closeWindows (allSlots.foldl slotExpiries t)))) := by
    refine .trans (.of_blocks (by simp) (by simp)) (.foldl (fun u p => ?_) allPorts _)
    exact .of_blocks (by simp) (by simp)
  have alarms (t : State) : KeepsWord t (alarmExpiries t) := .of_blocks (by simp) (by simp)
  exact (restartActs_keepsWord s).trans ((first _).trans ((swapExpires_keepsWord _).trans
    ((conflictExpires_keepsWord _).trans ((tooLongExpires_keepsWord _).trans (alarms _)))))

theorem settleBefore_keepsWord (n : Nat) (s : State) : KeepsWord s (settleBefore n s) := by
  unfold settleBefore
  split
  · exact settle_keepsWord s
  · exact .refl s

theorem advanceTo_keepsWord (n : Nat) (s : State) : KeepsWord s (advanceTo n s) := by
  unfold advanceTo
  split
  · exact (settle_keepsWord s).trans (.of_blocks (by simp) (by simp))
  · exact .refl s

/-- An event that comes at its instant, once the count has been run on to it. -/
theorem keepsWord_at (n : Nat) {f : State → State} (h : ∀ t, KeepsWord t (f t)) (s : State) (c : Bool) :
    KeepsWord s (if c then f (advanceTo n s) else s) := by
  split
  · exact (advanceTo_keepsWord n s).trans (h _)
  · exact .refl s

theorem nextBoundary_keepsWord (order : List Block) (s : State) : KeepsWord s (nextBoundary order s) := by
  unfold nextBoundary
  split
  · exact (settle_keepsWord s).trans
      (.trans (.of_blocks (by simp) (by simp)) (markBoundary_keepsWord order _))
  · exact .refl s

theorem reachEnd_keepsWord (s : State) : KeepsWord s (reachEnd s) := by
  unfold reachEnd
  dsimp only
  (repeat' split)
  · exact (settle_keepsWord s).trans (.of_blocks (by simp) (by simp))
  · exact settle_keepsWord s
  · exact .refl s

theorem onePico_keepsWord (s : State) : KeepsWord s (onePico s) := by
  have counted : KeepsWord s (countPicos 1 s) := .of_blocks (by simp) (by simp)
  unfold onePico
  (repeat' split)
  · exact counted
  · exact counted.trans ((markBoundary_keepsWord [] _).trans (settle_keepsWord _))
  · exact .of_blocks rfl rfl
  · exact .refl s

theorem picos_keepsWord (n : Nat) (s : State) : KeepsWord s (picos n s) := by
  induction n generalizing s with
  | zero => exact .refl s
  | succ n ih => exact (onePico_keepsWord s).trans (ih _)

theorem idle_keepsWord (s : State) : KeepsWord s (idle s) := by
  have tick (t : State) : KeepsWord t (oscillatorTick t) := by
    have carried (n : Nat) : KeepsWord t (t.setTime { t.time with rem := n }) := .of_blocks rfl rfl
    unfold oscillatorTick
    dsimp only
    split
    · exact (carried _).trans (picos_keepsWord _ _)
    · exact .refl t
  exact (settle_keepsWord s).trans (tick _)

theorem runToInstant_keepsWord (p : Fin 12) (i : Nat × Nat) (s : State) :
    KeepsWord s (runToInstant p i s) := by
  unfold runToInstant
  dsimp only
  split <;> exact .of_blocks (by simp) (by simp)

theorem portEmission_keepsWord (p : Fin 12) (s : State) : KeepsWord s (portEmission p s) := by
  unfold portEmission
  dsimp only
  (repeat' split)
  · exact (settleBefore_keepsWord _ s).trans (runToInstant_keepsWord _ _ _)
  · exact settleBefore_keepsWord _ s
  · exact .refl s
  · exact .refl s

theorem clockEdge_keepsWord (p : Fin 12) (k : Nat) (b : Bool) (s : State) :
    KeepsWord s (clockEdge p k b s) := by
  have edged (n : Nat) (t : State) : KeepsWord t
      ((runPast n t).setPort p (edgedPort k b ((runPast n t).port p))) :=
    .of_blocks (by simp) (by simp)
  unfold clockEdge
  dsimp only
  (repeat' split)
  · exact (settleBefore_keepsWord _ s).trans (edged _ _)
  · exact settleBefore_keepsWord _ s
  · exact .refl s
  · exact .refl s

/-! ### The requests -/

/-- An effect that leaves the inbox as it stands. -/
abbrev SparesInbox (f : Request.Effect) : Prop := ∀ s, (f s).1.chain.inbox = s.chain.inbox

theorem hostStep_inbox (n : Nat) (o : Option Nat) (s : State) :
    (hostStep n o s).1.chain.inbox = s.chain.inbox := by
  have stepped (k : StepKind) (a : Int) : (performStep k a s).chain.inbox = s.chain.inbox := by
    obtain ⟨amount, chain⟩ := performStep_captures k a s
    rw [chain]
    rfl
  have written (t : State) : (writeOffset o t).chain = t.chain := rfl
  unfold hostStep refuse
  dsimp only
  split
  · rfl
  · rw [written, stepped]

@[simp] theorem requestSetTime_inbox (n : Nat) (o : Option Nat) : SparesInbox (requestSetTime n o) := by
  intro s
  unfold requestSetTime refuse
  (repeat' split) <;> first
    | with_reducible exact hostStep_inbox n o s
    | rfl

@[simp] theorem requestSetChain_inbox (c : ChainConfig) : SparesInbox (requestSetChain c) := by
  intro s
  unfold requestSetChain configureChain
  dsimp only
  (repeat' split) <;> simp [modChain_chain, roleChanged, refuse]

@[simp] theorem requestChainCommand_inbox (k : Option ChainCommandKind) (t : Nat) (a : Option Leap) :
    SparesInbox (requestChainCommand k t a) := by
  intro s
  unfold requestChainCommand
  (repeat' split) <;> rfl

@[simp] theorem requestChainCancel_inbox : SparesInbox requestChainCancel := by
  intro s
  unfold requestChainCancel
  split <;> rfl

@[simp] theorem requestPostWord_inbox (w : Word32) : SparesInbox (requestPostWord w) := by
  intro s
  unfold requestPostWord
  (repeat' split) <;> rfl

/-- Of the requests FETCH_WORD alone takes the word (11.3). -/
theorem requestEffect_inbox {kind : Nat} {b : List Byte} {f : Request.Effect}
    (h : requestEffect kind b = some f) (other : kind ≠ 0x2D) : SparesInbox f := by
  unfold requestEffect reads readsNone reads at h
  split at h <;> simp only [Option.map_eq_some_iff, reduceCtorEq] at h <;> obtain ⟨x, -, rfl⟩ := h
  case h_30 => exact absurd rfl other
  all_goals exact fun s => by simp

theorem addReply_keepsWord (kind tag : Byte) (x : State × Answer) : KeepsWord x.1 (addReply kind tag x) :=
  fun free => ⟨free, fun _ h => h⟩

/-- A request of another kind than FETCH_WORD leaves the word. -/
theorem takeRequest_keepsWord {r : Request} (other : r.kind ≠ 0x2D) (s : State) :
    KeepsWord s (takeRequest r s) := by
  have inbox : (judgeRequest r s).1.chain.inbox = s.chain.inbox := by
    unfold judgeRequest refuse
    split
    · rfl
    · split
      · rfl
      · split
        · rename_i f h
          exact requestEffect_inbox h (fun e => other (BitVec.eq_of_toNat_eq e)) s
        · rfl
  have judged : KeepsWord s (judgeRequest r s).1 := fun free =>
    ⟨(judgeRequest_queues r s).due.trans free, fun _ held => inbox.trans held⟩
  exact judged.trans (addReply_keepsWord _ _ _)

theorem takeTyped_keepsWord (kind tag : Byte) {f : Request.Effect} (spares : SparesInbox f)
    (queues : ∀ s, SameQueues s.link (f s).1.link) (s : State) : KeepsWord s (takeTyped kind tag f s) := by
  have handed (t : State) : KeepsWord t (handOver kind f t).1 := by
    unfold handOver refuse
    split
    · exact .refl t
    · exact fun free => ⟨(queues t).due.trans free, fun _ held => (spares t).trans held⟩
  exact (restartActs_keepsWord s).trans ((handed _).trans (addReply_keepsWord _ _ _))

/-! ### Frames and replies (R183, R184) -/

theorem setLink_keepsWord (s : State) (k : Link) (h : k.restartDue = s.link.restartDue) :
    KeepsWord s (s.setLink k) := fun free => ⟨h.trans free, fun _ held => held⟩

theorem acceptRequest_keepsWord {r : Request} (other : r.kind ≠ 0x2D) (s : State) :
    KeepsWord s (acceptRequest r s) := by
  have queued (t : State) : KeepsWord t (queueRequest r t) := by
    unfold queueRequest
    dsimp only
    (repeat' split) <;> exact setLink_keepsWord t _ rfl
  unfold acceptRequest
  dsimp only
  split
  · exact (restartActs_keepsWord s).trans (takeRequest_keepsWord other _)
  · exact (restartActs_keepsWord s).trans (queued _)

theorem linkError_keepsWord (s : State) : KeepsWord s (linkError s) := setLink_keepsWord s _ rfl

/-- Octets among which that of FETCH_WORD does not stand give no request of that kind. -/
theorem receiveOctets_keepsWord (n : Nat) {l : List Byte} (absent : (0x2D : Byte) ∉ l) (s : State) :
    KeepsWord s (receiveOctets n l s) := by
  have complete {l : List Byte} (absent : (0x2D : Byte) ∉ l) (n : Nat) (t : State) :
      KeepsWord t (completeFrame l n t) := by
    unfold completeFrame
    split
    · refine acceptRequest_keepsWord (fun e => ?_) t
      have e : l.getD 2 0 = 0x2D := e
      rw [List.getD_eq_getElem?_getD] at e
      cases at2 : l[2]? with
      | none => simp [at2] at e
      | some b =>
        obtain rfl : b = 0x2D := by simpa [at2] using e
        exact absent (List.mem_of_getElem? at2)
    · exact linkError_keepsWord t
  induction n generalizing l s with
  | zero => exact .refl s
  | succ n ih =>
    cases l with
    | nil => exact .refl s
    | cons b l =>
      have rest : (0x2D : Byte) ∉ l := fun h => absent (List.mem_cons_of_mem b h)
      have dropped (k : Nat) : (0x2D : Byte) ∉ l.drop k := fun h => rest (List.mem_of_mem_drop h)
      unfold receiveOctets
      dsimp only
      (repeat' split)
      · exact ih rest s
      · exact .refl s
      · exact (linkError_keepsWord s).trans (ih (dropped _) _)
      · exact .refl s
      · exact (complete rest _ s).trans (ih (dropped _) _)

theorem receiveOctets_nil (n : Nat) (s : State) : receiveOctets n [] s = s := by
  cases n <;> rfl

/-- A control frame is received as the request it carries (R183). -/
theorem receiveOctets_encodeControl (kind tag : Byte) {body : List Byte} (short : body.length ≤ 512)
    (s : State) :
    receiveOctets (encodeControl kind tag body).length (encodeControl kind tag body) s
      = acceptRequest { kind := kind, tag := tag, body := body } s := by
  obtain ⟨a, b, two⟩ : ∃ a b, putU 2 body.length = [a, b] := ⟨_, _, rfl⟩
  have length : getU [a, b] = body.length := by
    rw [← two, getU_putU]
    omega
  have check (l : List Byte) : (checkOctets l).length = 2 := putU_length 2 _
  have covered : 4 + body.length = (a :: b :: kind :: tag :: body).length := by
    simp only [List.length_cons]
    omega
  generalize hl : a :: b :: kind :: tag :: body ++ checkOctets (a :: b :: kind :: tag :: body) = l
  have frame : encodeControl kind tag body = 0xA5 :: l := by
    simp [encodeControl, two, ← hl]
  have whole : l.length = 6 + body.length := by
    rw [← hl, List.length_append, ← covered, check]
    omega
  have head : l.take 2 = [a, b] := by rw [← hl]; rfl
  have matching : slice l (4 + body.length) 2 = checkOctets (l.take (4 + body.length)) := by
    rw [← hl, covered, List.take_left, slice, List.drop_left, ← check, List.take_length]
  have content : slice l 4 body.length = body := by
    rw [← hl]
    simp [slice]
  have complete : completeFrame l body.length s
      = acceptRequest { kind := kind, tag := tag, body := body } s := by
    rw [completeFrame, if_pos matching, content, ← hl]
    rfl
  rw [frame, List.length_cons, receiveOctets, if_neg (by decide), if_neg (by omega)]
  dsimp only
  rw [head, length, if_neg (by simpa using short), if_neg (by omega), complete,
    List.drop_eq_nil_of_le (by omega), receiveOctets_nil]

/-- The end of a reply leaves the word unless a FETCH_WORD is served next. -/
theorem replyFinished_inbox {s : State}
    (other : ∀ q more, s.link.waiting = .request q :: more → q.kind ≠ 0x2D)
    (free : s.link.restartDue = false) {w : InboxWord} (held : s.chain.inbox = some w) :
    (replyFinished s).chain.inbox = some w := by
  unfold replyFinished
  dsimp only
  split
  · exact held
  · split
    · exact held
    · rename_i r _ _ quiet
      unfold serveNext
      split
      · rename_i q more _ waits
        exact (takeRequest_keepsWord (other q more waits) _ (by simp [free, quiet])).2 w held
      · exact held
      · exact held
      · exact held

/-! ### One step -/

theorem KeepsWord.ite {s t : State} {c : Prop} [Decidable c] (h : KeepsWord s t) :
    KeepsWord s (if c then t else s) := by
  split
  · exact h
  · exact .refl s

theorem saveSucceeds_keepsWord (s : State) : KeepsWord s (saveSucceeds s) := by
  exact fun free => ⟨by simpa [saveSucceeds] using free, fun w held => by simpa using held⟩

theorem saveFails_keepsWord (s : State) : KeepsWord s (saveFails s) := fun free => ⟨free, fun _ h => h⟩

theorem saveDone_keepsWord (r : SaveResult) (s : State) : KeepsWord s (saveDone r s) := by
  cases r
  case readBackMatches => exact .ite (saveSucceeds_keepsWord s)
  case refused | readBackDiffers => exact .ite (saveFails_keepsWord s)

/-- Every command of a part that has started leaves the word, but PIN_RESET, FETCH_WORD, and the two that
may serve a FETCH_WORD: a frame of that kind and the end of a reply. -/
theorem exec_keepsWord {c : Instr} {s t : State} (h : exec c s = .next t) (started : s.part ≠ .loading)
    (reset : ∀ m, c ≠ .pinReset m) (fetch : ∀ tag, c ≠ .fetchWord tag) (frame : ∀ l, c ≠ .frameReceived l)
    (reply : c ≠ .replySent) : KeepsWord s t := by
  cases c <;> cases h
  case pinReset m => exact absurd rfl (reset m)
  case fetchWord tag => exact absurd rfl (fetch tag)
  case frameReceived l => exact absurd rfl (frame l)
  case replySent => exact absurd rfl reply
  case profileLoadDone r a =>
    rw [show loadDone r a s = s from if_neg started]
    exact .refl s
  case profileLoadTimeout a =>
    rw [show loadTimeout a s = s from if_neg started]
    exact .refl s
  case profileSaveDone r => exact saveDone_keepsWord r s
  case profileSaveTimeout => exact .ite (saveFails_keepsWord s)
  case selectReleased | frameTimeout | overlongBodyLength => exact .ite (linkError_keepsWord s)
  case unknownKind tag kind =>
    split
    · exact .refl s
    · rename_i unknown
      refine (restartActs_keepsWord s).trans (takeRequest_keepsWord (fun known => unknown ?_) _)
      rw [show kind = 0x2D from known]
      decide
  case softRestart => exact restartActs_keepsWord s
  case secondBoundary order => exact nextBoundary_keepsWord order s
  case endOfRange => exact reachEnd_keepsWord s
  case satPulse k u => exact keepsWord_at u (satPulseArrives_keepsWord k) s _
  case satWindowClose k => exact keepsWord_at _ (fun t => .of_blocks (by simp) (by simp)) s _
  case lineEdge k u n => exact keepsWord_at u (fun t => .of_blocks (by simp) (by simp)) s _
  case lineLoss k => exact keepsWord_at _ (fun t => .of_blocks (by simp) (by simp)) s _
  case chainMarker p u => exact keepsWord_at u (captureMarker_keepsWord p) s _
  case chainFrame p u l b => exact keepsWord_at u (receiveFrame_keepsWord p l b) s _
  case portEmission p => exact portEmission_keepsWord p s
  case swapTimerExpiry => exact swapExpires_keepsWord s
  case conflictTimerExpiry => exact conflictExpires_keepsWord s
  case tooLongTimerExpiry => exact tooLongExpires_keepsWord s
  case clockEdge p k b => exact clockEdge_keepsWord p k b s
  case qualifyTimerExpiry | waitTimerExpiry | observationPeriodEnd | dwellExpiry | rearmTimerExpiry
      | pulseEnd | raiseDelayExpiry | clearDelayExpiry => exact .of_blocks (by simp) (by simp)
  case saveProfile tag => exact takeTyped_keepsWord _ _ (fun s => by simp) requestSaveProfile_queues s
  all_goals exact takeTyped_keepsWord _ _ (fun s => by simp) (fun s => .of_eq (by simp)) s

/-- Settles O13: a step is a command's effect or the idle count, and a command's frame or reply serves a
FETCH_WORD only where the kind says so. -/
theorem inboxKeepsItsWord : Obligations.InboxKeepsItsWord := by
  intro s t w started free reset fetch frame reply h held
  unfold step at h
  split at h
  · obtain rfl := Host.Outcome.next.inj h
    exact (idle_keepsWord s free).2 w held
  · rename_i c rest waits
    have kept (k : KeepsWord (s.setPending rest) t) : t.chain.inbox = some w := (k free).2 w held
    cases c
    case frameReceived l =>
      obtain rfl := Host.Outcome.next.inj h
      obtain absent | ⟨kind, tag, body, rfl, other, short⟩ := frame l rest waits
      · exact kept (receiveOctets_keepsWord _ absent _)
      · refine kept ?_
        rw [receiveOctets_encodeControl kind tag short]
        exact acceptRequest_keepsWord other _
    case replySent =>
      obtain rfl := Host.Outcome.next.inj h
      rw [restartActs_of_not_due (s := s.setPending rest) free]
      exact replyFinished_inbox (s := s.setPending rest) (reply rest waits) free held
    case pinReset m => exact absurd waits (reset m rest)
    case fetchWord tag => exact absurd waits (fetch tag rest)
    all_goals exact kept (exec_keepsWord h started (by simp) (by simp) (by simp) (by simp))

end Sys2Proof.Machine
end

section
set_option Elab.async false

namespace Sys2Proof.Machine

/-! ## The chain's timers (R143, R146, R148 to R150) -/

/-! ### A change of upstream (R150) -/

/-- `t` is `s` after a change of upstream, with the unattached count given; the notice joins a queue with
room. -/
def Moves (new : Option ChainPort) (reason : PathReason) (count : Nat) (s t : State) : Prop :=
  ∃ a : AlarmUnit,
    t = { s with
      chain := movedUpstream new { s.chain with unattached := count }
      refs := if new = none then s.refs
        else (s.setRef .chain { s.ref .chain with skipNext := true }).refs
      alarms := a }
    ∧ (s.alarms.queue.length < 32 → a.queue = s.alarms.queue
        ++ [{ detail := .chainPathSwitch s.chain.upstream new reason, number := 0
              stamp := s.time.base }])

theorem Moves.of_eq {new : Option ChainPort} {reason : PathReason} {count : Nat} {s t u : State}
    (h : Moves new reason count s u) (e : t = u) : Moves new reason count s t := e ▸ h

theorem changeUpstream_moves (new : Option ChainPort) (reason : PathReason) (count : Nat) (s : State) :
    Moves new reason count s
      (changeUpstream new reason (modChain (fun u => { u with unattached := count }) s)) := by
  have room (h : s.alarms.queue.length < 32) := post_queue (.chainPathSwitch s.chain.upstream new reason) 0 h
  cases new with
  | none => exact ⟨_, rfl, room⟩
  | some p => exact ⟨_, rfl, room⟩

theorem changeUpstream_moves_kept (new : Option ChainPort) (reason : PathReason) (s : State) :
    Moves new reason s.chain.unattached s (changeUpstream new reason s) :=
  changeUpstream_moves new reason s.chain.unattached s

theorem changeUpstream_steady (new : Option ChainPort) (r : PathReason) (s : State) :
    steady ((changeUpstream new r s).ref .chain) = steady (s.ref .chain) := by
  obtain ⟨a, moved, -⟩ := changeUpstream_moves_kept new r s
  rw [moved]
  cases new <;> rfl

/-! ### Expiries -/

section Expiry

variable {s : State}

theorem conflictExpires_idle (h : s.chain.conflict.due = false) : conflictExpires s = s :=
  if_neg (by simp [h])

theorem tooLongExpires_idle (h : s.chain.tooLong.due = false) : tooLongExpires s = s :=
  if_neg (by simp [h])

theorem conflictExpires_due (h : s.chain.conflict.due = true) : ∃ a : AlarmUnit, conflictExpires s
    = { s with chain := { s.chain with conflict := Timer.stopped }, alarms := a } :=
  ⟨_, (if_pos h).trans (chainConditions_writes _)⟩

theorem tooLongExpires_due (h : s.chain.tooLong.due = true) : ∃ a : AlarmUnit, tooLongExpires s
    = { s with chain := { s.chain with tooLong := Timer.stopped }, alarms := a } :=
  ⟨_, (if_pos h).trans (chainConditions_writes _)⟩

theorem swapExpires_idle (h : ∀ w, s.chain.swap = some w → w.timer.due = false) : swapExpires s = s := by
  unfold swapExpires
  split
  · rename_i w running
    exact if_neg (by simp [h w running])
  · rfl

/-- The port that a due swap turns to: none after a LOSS with the other port dead (R148, R149). -/
def swapTarget (reason : PathReason) (p : ChainPort) (c : ChainUnit) : Option ChainPort :=
  if reason = .loss ∧ portLive (c.record (otherPort p)) = false then none else some (otherPort p)

/-- A swap is a change of upstream, and a detached member is an island. -/
theorem swapActs_chain (reason : PathReason) {p : ChainPort} (h : s.chain.upstream = some p) :
    ∃ count, (swapActs reason s).chain
      = movedUpstream (swapTarget reason p s.chain) { s.chain with unattached := count } := by
  unfold swapActs swapTarget
  rw [h]
  dsimp only
  split
  · exact ⟨3, changeUpstream_chain _ _ _⟩
  · exact ⟨s.chain.unattached, changeUpstream_chain _ _ s⟩

theorem swapExpires_due {w : SwapTimer} {p : ChainPort} (running : s.chain.swap = some w)
    (due : w.timer.due = true) (up : s.chain.upstream = some p) :
    (swapExpires s).chain.upstream = swapTarget w.reason p s.chain
      ∧ (swapExpires s).chain.swap = none ∧ (swapExpires s).chain.lastCommand = none
      ∧ (swapExpires s).chain.sendDue = none := by
  have run : swapExpires s = sendWaiting (swapActs w.reason s) := by
    unfold swapExpires
    rw [running]
    exact if_pos due
  obtain ⟨count, swapped⟩ := swapActs_chain (s := s) w.reason up
  have sent := sendWaiting_unsent (swapActs w.reason s)
  rw [swapped] at sent
  rw [run]
  exact ⟨(congrArg ChainUnit.upstream sent :), (congrArg ChainUnit.swap sent :),
    (congrArg ChainUnit.lastCommand sent :), (congrArg ChainUnit.sendDue sent :)⟩

end Expiry

/-! ### The counts of a boundary (R146) -/

theorem silenceRecord_eq (r : ChainRecord) : silenceRecord r = { r with
    silence := if r.validThisSecond then 0 else min 255 (r.silence + 1), validThisSecond := false } := by
  unfold silenceRecord
  cases h : r.validThisSecond
  · rw [if_neg (by simp), if_neg (by simp), satSucc_eq_min, ← h]
  · rw [if_pos rfl, if_pos rfl]

theorem lossRecord_eq (r : ChainRecord) :
    lossRecord r = { r with loss := r.loss || decide (r.silence = 3) } := by
  unfold lossRecord
  split <;> simp [*]

theorem chainCounts_record {c : ChainUnit} (h : c.role = .member) (p : ChainPort) :
    (chainCounts c).record p
      = if c.upstream = some p then lossRecord (silenceRecord (c.record p))
        else silenceRecord (c.record p) := by
  unfold chainCounts
  dsimp only
  rw [h]
  cases up : c.upstream with
  | none => cases p <;> rfl
  | some q => cases p <;> cases q <;> rfl

/-- A member's record of a port after the counts of a boundary. -/
theorem chainCounts_counted {c : ChainUnit} (h : c.role = .member) (p : ChainPort) :
    let r := c.record p
    let silence := if r.validThisSecond then 0 else min 255 (r.silence + 1)
    ((chainCounts c).record p).silence = silence ∧ ((chainCounts c).record p).validThisSecond = false
      ∧ ((chainCounts c).record p).loss = (r.loss || decide (c.upstream = some p ∧ silence = 3)) := by
  intro r silence
  rw [chainCounts_record h]
  by_cases up : c.upstream = some p
  · rw [if_pos up, lossRecord_eq, silenceRecord_eq]
    simp [up, r, silence]
  · rw [if_neg up, silenceRecord_eq]
    simp [up, r, silence]

/-! ### A boundary of a member (R146) -/

section Boundary

variable {n : Nat} {s : State}

/-- The member once its counts are made and the CHAIN monitor has taken its report. -/
def reportedChain (s : State) : State :=
  chainEpoch (upstreamReport s.chain) (chainConditions (modChain chainCounts s))

theorem reportedChain_chain (s : State) : (reportedChain s).chain = chainCounts s.chain := by
  simp [reportedChain, modChain_chain]

theorem chainBoundary_member (h : s.chain.role = .member) : chainBoundary n s
    = sendOrWait n (modChain tickChainTimers (judgeUpstream (reportedChain s))) := by
  have role : (reportedChain s).chain.role = .member := by
    rw [reportedChain_chain, ← h]
    unfold chainCounts
    dsimp only
    split
    · rename_i p _ _
      cases p <;> rfl
    · rfl
  unfold chainBoundary
  rw [if_neg (by simp [h])]
  have run : ∀ t : State, t.chain.role = .member →
      (if t.chain.role = .member then judgeUpstream t else t) = judgeUpstream t := fun t ht => if_pos ht
  exact congrArg (fun t => sendOrWait n (modChain tickChainTimers t)) (run _ role)

/-- Neither the judgement of the upstream nor the sending writes the ports' records. -/
theorem chainBoundary_record (h : s.chain.role = .member) (p : ChainPort) :
    (chainBoundary n s).chain.record p = (chainCounts s.chain).record p := by
  rw [chainBoundary_member h, ← reportedChain_chain]
  have sent := sendOrWait_unsent n (modChain tickChainTimers (judgeUpstream (reportedChain s)))
  have judged := judgeUpstream_unjudged (reportedChain s)
  cases p
  · exact (congrArg ChainUnit.portA sent :).trans (congrArg ChainUnit.portA judged :)
  · exact (congrArg ChainUnit.portB sent :).trans (congrArg ChainUnit.portB judged :)

end Boundary

/-! ### The CHAIN monitor's epoch (R23, R25, R28, R146) -/

/-- The CHAIN monitor once it has taken the report of a boundary. -/
def epochMonitor (arrived : Bool) (m : Monitor) : Monitor :=
  if judgesEpochs m then
    if arrived then { m with missing := 0 }
    else if 2 ≤ m.missing ∧ m.signal = true then lostMonitor (missedEpoch m)
    else missedEpoch m
  else m

theorem chainEpoch_monitor (arrived : Bool) (s : State) :
    calm ((chainEpoch arrived s).ref .chain) = calm (epochMonitor arrived (s.ref .chain)) := by
  unfold chainEpoch epochMonitor
  split
  · split
    · rw [goodEpoch, modRef_ref, if_pos rfl]
    · split
      · rename_i lost
        exact missEpoch_lost (by decide) (Nat.succ_le_succ lost.1) lost.2
      · rename_i kept
        rw [missEpoch_counted (by
          by_cases present : (s.ref .chain).signal = true
          · exact .inl (Nat.succ_lt_succ (not_le.mp fun many => kept ⟨many, present⟩))
          · exact .inr (by simpa using present)), modRef_ref, if_pos rfl]
  · rfl

theorem judgeUpstream_steady (s : State) :
    steady ((judgeUpstream s).ref .chain) = steady (s.ref .chain) := by
  unfold judgeUpstream
  split
  · unfold judgeUnattached
    dsimp only
    split
    · exact changeUpstream_steady _ _ _
    · rfl
  · dsimp only
    split
    · unfold judgeGrade
      dsimp only
      (repeat' split) <;> first
        | exact changeUpstream_steady _ _ s
        | rfl
    · split
      · unfold judgeLoss
        (repeat' split) <;> first
          | exact changeUpstream_steady _ _ _
          | rfl
      · rfl

theorem steady_of_calm {m x : Monitor} (h : calm m = calm x) : steady m = steady x :=
  (congrArg steady h : steady (calm m) = steady (calm x))

theorem lostMonitor_wait {m : Monitor} (h : judgesEpochs m = true) (hf : m.state ≠ .failed) :
    (lostMonitor m).wait = Timer.start m.config.waitRestore := by
  have judges : judging { m with signal := false } = true := judging_of_judgesEpochs h hf
  unfold lostMonitor failing
  rw [if_pos judges]
  rfl

/-- At a boundary the chain unit's report alone moves the CHAIN monitor, its skip-next flag apart. -/
theorem chainBoundary_monitor (n : Nat) (s : State) : steady ((chainBoundary n s).ref .chain)
    = steady (epochMonitor (upstreamReport s.chain) (s.ref .chain)) := by
  have epoch (t : State) (same : t.refs = s.refs) :
      steady ((chainEpoch (upstreamReport s.chain) t).ref .chain)
        = steady (epochMonitor (upstreamReport s.chain) (s.ref .chain)) := by
    have own : t.ref .chain = s.ref .chain := congrArg (PerSlot.get · .chain) same
    exact own ▸ steady_of_calm (chainEpoch_monitor _ t)
  have sent (t : State) : (sendOrWait n (modChain tickChainTimers t)).ref .chain = t.ref .chain := by
    simp [State.ref]
  unfold chainBoundary
  dsimp only
  split
  · exact epoch s rfl
  · rw [sent]
    split
    · exact (judgeUpstream_steady _).trans (epoch _ (by simp))
    · exact epoch _ (by simp)

theorem upstreamReport_iff (c : ChainUnit) : upstreamReport c = true ↔
    c.role = .member ∧ ∃ p, c.upstream = some p ∧ (c.record p).validThisSecond = true := by
  unfold upstreamReport
  split
  · rename_i p role up
    simp [role, up]
  · rename_i other
    simp only [Bool.false_eq_true, false_iff]
    rintro ⟨role, p, up, -⟩
    exact other p role up

/-! ### The epochs in full (R23, R25, R28) -/

section Epoch

variable {m : Monitor}

theorem epochMonitor_idle (h : judgesEpochs m = false) (arrived : Bool) : epochMonitor arrived m = m :=
  if_neg (by simp [h])

theorem epochMonitor_arrived (h : judgesEpochs m = true) :
    epochMonitor true m = { m with missing := 0 } := if_pos h

theorem epochMonitor_counted (h : judgesEpochs m = true) (few : m.missing < 2 ∨ m.signal = false) :
    epochMonitor false m = missedEpoch m := by
  have kept : ¬ (2 ≤ m.missing ∧ m.signal = true) := by
    rintro ⟨many, present⟩
    obtain less | lost := few
    · omega
    · simp [lost] at present
  exact (if_pos h).trans (if_neg kept)

theorem epochMonitor_lost (h : judgesEpochs m = true) (many : 2 ≤ m.missing) (present : m.signal = true) :
    epochMonitor false m = lostMonitor (missedEpoch m) :=
  (if_pos h).trans (if_pos (And.intro many present))

end Epoch

/-! ### The unattached member (R147) -/

section Unattached

variable {s : State}

/-- The count of boundaries without an upstream, once this boundary is counted. -/
def countedUnattached (s : State) : State :=
  s.setChain { s.chain with unattached := min 3 (s.chain.unattached + 1) }

theorem countedUnattached_eq (s : State) :
    modChain (fun u => { u with unattached := satSucc 3 u.unattached }) s = countedUnattached s := by
  rw [modChain, satSucc_eq_min]
  rfl

/-- A live port whose latest frame an unattached member may attach to. -/
def Suits (s : State) (p : ChainPort) (f : TimeFrame) : Prop :=
  (s.chain.record p).summary = some f
    ∧ ((s.chain.record p).seen = true ∧ (s.chain.record p).silence < 3)
    ∧ (min 3 (s.chain.unattached + 1) = 3 → gradeBetter f.grade s.holdover.grade = true
        ∨ f.grade = s.holdover.grade ∧ f.path.headD 0 < s.chain.address)

theorem portLive_iff (r : ChainRecord) : portLive r = true ↔ r.seen = true ∧ r.silence < 3 := by
  simp [portLive]

theorem attachCandidate_iff (free : s.chain.upstream = none) (p : ChainPort) (f : TimeFrame) :
    attachCandidate (countedUnattached s) p = some f ↔ Suits s p f := by
  have record : (countedUnattached s).chain.record p = s.chain.record p := by cases p <;> rfl
  have island : isIsland (countedUnattached s).chain = decide (min 3 (s.chain.unattached + 1) = 3) := by
    simp [isIsland, countedUnattached, free]
  have own : (countedUnattached s).holdover.grade = s.holdover.grade := rfl
  have address : (countedUnattached s).chain.address = s.chain.address := rfl
  unfold attachCandidate Suits
  simp only [record, island, own, address, frameOrigin]
  cases (s.chain.record p).summary with
  | none => simp
  | some g =>
    simp only [Bool.and_eq_true, Bool.or_eq_true, Bool.not_eq_true', decide_eq_false_iff_not,
      decide_eq_true_eq, Option.ite_none_right_eq_some, Option.some.injEq, portLive_iff]
    constructor
    · rintro ⟨⟨live, suits⟩, rfl⟩
      exact ⟨rfl, live, fun lone => by tauto⟩
    · rintro ⟨rfl, live, suits⟩
      exact ⟨⟨live, by tauto⟩, rfl⟩

theorem judgeUnattached_alone (free : s.chain.upstream = none) (none : ∀ p f, ¬ Suits s p f) :
    judgeUnattached s = countedUnattached s := by
  have nothing (p : ChainPort) : attachCandidate (countedUnattached s) p = .none :=
    Option.eq_none_iff_forall_ne_some.mpr fun f h => none p f ((attachCandidate_iff free p f).mp h)
  have choice : attachChoice (countedUnattached s) = .none := by
    rw [attachChoice, nothing, nothing]
  unfold judgeUnattached
  rw [countedUnattached_eq]
  dsimp only
  rw [choice]

/-- `f` on port `p` is preferred to `g` on the other (R147). -/
def Preferred (p : ChainPort) (f g : TimeFrame) : Prop :=
  gradeBetter f.grade g.grade = true
    ∨ f.grade = g.grade ∧ (f.path.length < g.path.length ∨ f.path.length = g.path.length ∧ p = .a)

theorem prefersB_of_preferred_a {f g : TimeFrame} (h : Preferred .a f g) : prefersB f g = false := by
  unfold prefersB
  obtain better | ⟨same, shorter⟩ := h
  · have worse : gradeBetter g.grade f.grade = false := by
      simp only [gradeBetter, decide_eq_true_eq, decide_eq_false_iff_not] at better ⊢
      omega
    have other : g.grade ≠ f.grade := fun e => by simp [gradeBetter, e] at better
    simp [worse, other]
  · have hops : ¬ g.path.length < f.path.length := by omega
    simp [gradeBetter, same, hops]

theorem prefersB_of_preferred_b {f g : TimeFrame} (h : Preferred .b f g) : prefersB g f = true := by
  unfold prefersB
  obtain better | ⟨same, shorter | ⟨-, none⟩⟩ := h
  · simp [better]
  · simp [same, shorter]
  · cases none

theorem attachChoice_preferred (free : s.chain.upstream = none) {p : ChainPort} {f : TimeFrame}
    (suits : Suits s p f) (first : ∀ g, Suits s (otherPort p) g → Preferred p f g) :
    attachChoice (countedUnattached s) = some p := by
  have own := (attachCandidate_iff free p f).mpr suits
  have other (g : TimeFrame) (h : attachCandidate (countedUnattached s) (otherPort p) = some g) :
      Preferred p f g := first g ((attachCandidate_iff free _ g).mp h)
  unfold attachChoice
  cases p with
  | a =>
    rw [own]
    cases at_b : attachCandidate (countedUnattached s) .b with
    | none => rfl
    | some g => exact if_neg (by simp [prefersB_of_preferred_a (other g at_b)])
  | b =>
    rw [own]
    cases at_a : attachCandidate (countedUnattached s) .a with
    | none => rfl
    | some g => exact if_pos (prefersB_of_preferred_b (other g at_a))

theorem judgeUnattached_attaches (free : s.chain.upstream = none) {p : ChainPort} {f : TimeFrame}
    (suits : Suits s p f) (first : ∀ g, Suits s (otherPort p) g → Preferred p f g) :
    Moves (some p) .attach 0 s (judgeUnattached s) := by
  have run : judgeUnattached s = changeUpstream (some p) .attach
      (modChain (fun u => { u with unattached := 0 }) (countedUnattached s)) := by
    unfold judgeUnattached
    rw [countedUnattached_eq]
    dsimp only
    rw [attachChoice_preferred free suits first]
  exact run ▸ changeUpstream_moves (some p) .attach 0 (countedUnattached s)

end Unattached

/-! ### The attached member (R148, R149) -/

section Attached

variable {s : State} {p : ChainPort}

/-- The swap timer written alone. -/
def swapWritten (w : Option SwapTimer) (s : State) : State := s.setChain { s.chain with swap := w }

/-- The other port is live and its latest frame has the better grade (R149). -/
def OtherBetter (p : ChainPort) (c : ChainUnit) : Prop :=
  ((c.record (otherPort p)).seen = true ∧ (c.record (otherPort p)).silence < 3)
    ∧ ∃ f g, (c.record p).summary = some f ∧ (c.record (otherPort p)).summary = some g
      ∧ gradeBetter g.grade f.grade = true

theorem gradeCondition_iff (p : ChainPort) (c : ChainUnit) :
    gradeCondition p c = true ↔ OtherBetter p c := by
  unfold gradeCondition OtherBetter
  rw [← portLive_iff]
  cases (c.record p).summary <;> cases (c.record (otherPort p)).summary <;> simp

theorem judgeGrade_idle (h : ¬ OtherBetter p s.chain) (free : s.chain.swap = none) : judgeGrade p s = s := by
  unfold judgeGrade
  rw [free]
  exact if_neg (h ∘ (gradeCondition_iff p s.chain).mp)

theorem judgeGrade_begins (h : OtherBetter p s.chain) (free : s.chain.swap = none) : judgeGrade p s
    = if s.chain.config.holdOff = 0 then changeUpstream (some (otherPort p)) .grade s
      else modChain (startSwap .grade) s := by
  unfold judgeGrade
  rw [free]
  exact if_pos ((gradeCondition_iff p s.chain).mpr h)

/-- A GRADE hold-off runs while its condition holds, and any hold-off stops without it. -/
theorem judgeGrade_stops (h : ¬ OtherBetter p s.chain) {w : SwapTimer} (running : s.chain.swap = some w) :
    judgeGrade p s = swapWritten none s := by
  have holds : gradeCondition p s.chain = false := by
    simpa using h ∘ (gradeCondition_iff p s.chain).mp
  unfold judgeGrade
  simp only [running, holds, Bool.false_and, Bool.false_eq_true, if_false, ite_self]
  rfl

theorem judgeGrade_runs (h : OtherBetter p s.chain) {w : SwapTimer} (running : s.chain.swap = some w)
    (grade : w.reason = .grade) : judgeGrade p s = swapWritten (some { w with timer := w.timer.tick }) s := by
  have holds := (gradeCondition_iff p s.chain).mpr h
  unfold judgeGrade
  simp only [running, holds, grade, if_true, modChain, tickSwap, Option.map_some]
  rfl

theorem judgeGrade_restarts (h : OtherBetter p s.chain) {w : SwapTimer} (running : s.chain.swap = some w)
    (other : w.reason ≠ .grade) (holdOff : 0 < s.chain.config.holdOff) :
    judgeGrade p s = modChain (startSwap .grade) s := by
  have holds := (gradeCondition_iff p s.chain).mpr h
  unfold judgeGrade
  simp only [running, holds, other, holdOff, decide_true, Bool.and_true, if_true, if_false]

theorem judgeGrade_without {w : SwapTimer} (running : s.chain.swap = some w) (other : w.reason ≠ .grade)
    (holdOff : s.chain.config.holdOff = 0) : judgeGrade p s = swapWritten none s := by
  unfold judgeGrade
  simp only [running, other, holdOff, lt_self_iff_false, decide_false, Bool.and_false, Bool.false_eq_true,
    if_false]
  rfl

theorem judgeLoss_live (h : portLive (s.chain.record (otherPort p)) = true) : judgeLoss p s
    = if s.chain.config.holdOff = 0 then changeUpstream (some (otherPort p)) .loss s
      else modChain (startSwap .loss) s := if_pos h

theorem judgeLoss_dead (h : ¬ portLive (s.chain.record (otherPort p)) = true) :
    judgeLoss p s = detach s := if_neg h

theorem judgeUpstream_free (h : s.chain.upstream = none) : judgeUpstream s = judgeUnattached s := by
  unfold judgeUpstream
  rw [h]

theorem judgeUpstream_alive (h : s.chain.upstream = some p) (alive : (s.chain.record p).silence < 3) :
    judgeUpstream s = judgeGrade p s := by
  unfold judgeUpstream
  rw [h]
  exact if_pos alive

theorem judgeUpstream_lost (h : s.chain.upstream = some p) (lost : (s.chain.record p).silence = 3) :
    judgeUpstream s = judgeLoss p s := by
  unfold judgeUpstream
  rw [h]
  exact (if_neg (by omega)).trans (if_pos lost)

theorem judgeUpstream_silent (h : s.chain.upstream = some p) (later : 3 < (s.chain.record p).silence) :
    judgeUpstream s = modChain tickSwap s := by
  unfold judgeUpstream
  rw [h]
  exact (if_neg (by omega)).trans (if_neg (by omega))

/-- The judgement of a member's upstream changes it, or writes the swap timer alone, as R148 and R149 say. -/
theorem judgeLoss_moves (live : portLive (s.chain.record (otherPort p)) = true)
    (holdOff : s.chain.config.holdOff = 0) :
    Moves (some (otherPort p)) .loss s.chain.unattached s (judgeLoss p s) := by
  rw [judgeLoss_live live, if_pos holdOff]
  exact changeUpstream_moves_kept _ _ s

theorem judgeLoss_waits (live : portLive (s.chain.record (otherPort p)) = true)
    (holdOff : 0 < s.chain.config.holdOff) : judgeLoss p s = modChain (startSwap .loss) s := by
  rw [judgeLoss_live live, if_neg (Nat.ne_of_gt holdOff)]

theorem judgeLoss_detaches (dead : ¬ portLive (s.chain.record (otherPort p)) = true) :
    Moves none .loss 3 s (judgeLoss p s) := by
  rw [judgeLoss_dead dead]
  exact changeUpstream_moves none .loss 3 s

theorem judgeGrade_moves (h : OtherBetter p s.chain) (free : s.chain.swap = none)
    (holdOff : s.chain.config.holdOff = 0) :
    Moves (some (otherPort p)) .grade s.chain.unattached s (judgeGrade p s) := by
  rw [judgeGrade_begins h free, if_pos holdOff]
  exact changeUpstream_moves_kept _ _ s

theorem judgeGrade_waits (h : OtherBetter p s.chain) (free : s.chain.swap = none)
    (holdOff : 0 < s.chain.config.holdOff) : judgeGrade p s = modChain (startSwap .grade) s := by
  rw [judgeGrade_begins h free, if_neg (Nat.ne_of_gt holdOff)]

end Attached

/-- Settles O57: the expiries, a member's boundary, the CHAIN monitor's epochs, and the judgement of the
upstream. -/
theorem chainTimersExpire : Obligations.ChainTimersExpire := by
  refine ⟨fun s => ⟨fun h => ?conflictIdle, fun h => ?tooLongIdle, fun h => ?swapIdle, fun h => ?conflict,
    fun h => ?tooLong, fun w p running due up => ?swap⟩, ?boundary, ?epochs, ?upstream⟩
  case conflictIdle => exact congrArg Host.Outcome.next (conflictExpires_idle h)
  case tooLongIdle => exact congrArg Host.Outcome.next (tooLongExpires_idle h)
  case swapIdle => exact congrArg Host.Outcome.next (swapExpires_idle h)
  case conflict =>
    obtain ⟨a, run⟩ := conflictExpires_due h
    exact ⟨a, congrArg Host.Outcome.next run⟩
  case tooLong =>
    obtain ⟨a, run⟩ := tooLongExpires_due h
    exact ⟨a, congrArg Host.Outcome.next run⟩
  case swap =>
    obtain ⟨up, swap, last, send⟩ := swapExpires_due running due up
    exact ⟨_, rfl, up, swap, last, send, by simp⟩
  case boundary =>
    intro n s role t
    refine ⟨fun p => ?_, reportedChain s, reportedChain_chain s, by simp [reportedChain],
      by simp [reportedChain], by simp [reportedChain], chainBoundary_member role⟩
    have counted := chainCounts_counted role p
    rw [← chainBoundary_record (n := n) role] at counted
    exact counted
  case epochs =>
    intro n s m x arrived judged
    have shown : steady x = steady (epochMonitor (upstreamReport s.chain) m) := chainBoundary_monitor n s
    have state : x.state = _ := (congrArg Monitor.state shown :)
    have signal : x.signal = _ := (congrArg Monitor.signal shown :)
    have missing : x.missing = _ := (congrArg Monitor.missing shown :)
    have total : x.totalMissing = _ := (congrArg Monitor.totalMissing shown :)
    have cause : x.failCause = _ := (congrArg Monitor.failCause shown :)
    have wait : x.wait = _ := (congrArg Monitor.wait shown :)
    refine ⟨fun idle => ?idle, fun epoch good => ?good, fun epoch bad => ?bad⟩
    case idle =>
      have off : judgesEpochs m = false := by simpa [judged] using idle ∘ judgesEpochs_iff.mp
      rw [epochMonitor_idle off] at state signal missing total
      exact ⟨missing, total, state, signal⟩
    case good =>
      have on := judgesEpochs_iff.mpr epoch
      rw [(upstreamReport_iff s.chain).mpr good, epochMonitor_arrived on] at state signal missing total
      exact ⟨missing, total, state, signal⟩
    case bad =>
      have on := judgesEpochs_iff.mpr epoch
      have report : upstreamReport s.chain = false := by simpa using bad ∘ (upstreamReport_iff s.chain).mp
      have counts : (missedEpoch m).missing = min 65535 (m.missing + 1)
          ∧ (missedEpoch m).totalMissing = min 65535 (m.totalMissing + 1) :=
        ⟨satSucc_eq_min _ _, satSucc_eq_min _ _⟩
      rw [report] at state signal missing total cause wait
      by_cases lost : 2 ≤ m.missing ∧ m.signal = true
      · obtain ⟨many, present⟩ := lost
        have still : judgesEpochs (missedEpoch m) = true := on
        obtain ⟨miss, sum⟩ := lostMonitor_counts (missedEpoch m)
        rw [epochMonitor_lost on many present] at state signal missing total cause wait
        refine ⟨missing.trans (miss.trans counts.1), total.trans (sum.trans counts.2), fun few => ?_,
          fun _ _ => ⟨state.trans (lostMonitor_failed still), signal.trans (lostMonitor_signal _),
            fun judging => ⟨cause.trans (lostMonitor_cause still judging),
              wait.trans (lostMonitor_wait still judging)⟩⟩⟩
        obtain less | absent := few
        · omega
        · simp [absent] at present
      · have few : m.missing < 2 ∨ m.signal = false := by
          by_cases many : 2 ≤ m.missing
          · exact .inr (by simpa [many] using lost)
          · exact .inl (not_le.mp many)
        rw [epochMonitor_counted on few] at state signal missing total
        exact ⟨missing.trans counts.1, total.trans counts.2, fun _ => ⟨state, signal⟩,
          fun many present => absurd ⟨many, present⟩ lost⟩
  case upstream =>
    intro s c t counted live moves waits started suits
    refine ⟨fun free => ⟨fun nobody => ?alone, fun p f h first => ?attaches⟩, fun p up => ?attached⟩
    case alone => exact (judgeUpstream_free free).trans (judgeUnattached_alone free nobody)
    case attaches =>
      have run := judgeUnattached_attaches free h first
      rw [← judgeUpstream_free free] at run
      exact run
    case attached =>
      intro other silence better
      refine ⟨fun alive => ?alive, fun lost => ?lost, fun later => judgeUpstream_silent up later⟩
      case alive =>
        have run : t = judgeGrade p s := judgeUpstream_alive up alive
        exact ⟨fun free no => run.trans (judgeGrade_idle no free),
          fun free yes zero => (judgeGrade_moves yes free zero).of_eq run,
          fun free yes holdOff => run.trans (judgeGrade_waits yes free holdOff), fun w running =>
            ⟨fun grade yes => run.trans (judgeGrade_runs yes running grade),
              fun reason yes holdOff => run.trans (judgeGrade_restarts yes running reason holdOff),
              fun reason zero => run.trans (judgeGrade_without running reason zero),
              fun no => run.trans (judgeGrade_stops no running)⟩⟩
      case lost =>
        have run : t = judgeLoss p s := judgeUpstream_lost up lost
        have alive := portLive_iff (c.record other)
        exact ⟨fun yes zero => (judgeLoss_moves (alive.mpr yes) zero).of_eq run,
          fun yes holdOff => run.trans (judgeLoss_waits (alive.mpr yes) holdOff),
          fun no => (judgeLoss_detaches (no ∘ alive.mp)).of_eq run⟩

end Sys2Proof.Machine
end

section
set_option Elab.async false

namespace Sys2Proof.Machine

open Sys2Proof.Safety

/-! ## Markers and frames that arrive (R143 to R145) -/

section Arrivals

variable {s : State} {f : TimeFrame} {p : ChainPort}

theorem setRecord_setRecord (c : ChainUnit) (p : ChainPort) (r q : ChainRecord) :
    (c.setRecord p r).setRecord p q = c.setRecord p q := by
  cases p <;> rfl

/-- What a record write leaves of the chain unit: everything but the two records. -/
theorem setRecord_spares {α : Type} (g : ChainUnit → α)
    (h : ∀ c x y, g { c with portA := x, portB := y } = g c) (c : ChainUnit) (p : ChainPort)
    (r : ChainRecord) : g (c.setRecord p r) = g c := by
  cases p
  · exact h c r c.portB
  · exact h c c.portA r

theorem setRecord_upstream (c : ChainUnit) (p : ChainPort) (r : ChainRecord) :
    (c.setRecord p r).upstream = c.upstream := setRecord_spares ChainUnit.upstream (fun _ _ _ => rfl) c p r

theorem setRecord_address (c : ChainUnit) (p : ChainPort) (r : ChainRecord) :
    (c.setRecord p r).address = c.address := setRecord_spares ChainUnit.address (fun _ _ _ => rfl) c p r

theorem setRecord_role (c : ChainUnit) (p : ChainPort) (r : ChainRecord) :
    (c.setRecord p r).role = c.role := setRecord_spares ChainUnit.role (fun _ _ _ => rfl) c p r

theorem exec_chainMarker (h : s.part ≠ .loading) (p : ChainPort) (u : Nat) :
    exec (.chainMarker p u) s = .next (captureMarker p (advanceTo u s)) :=
  congrArg Host.Outcome.next (if_pos (started_iff.mpr h))

theorem exec_chainFrame (h : s.part ≠ .loading) (p : ChainPort) (u : Nat) (l : List Byte) (b : Bool) :
    exec (.chainFrame p u l b) s = .next (receiveFrame p l b (advanceTo u s)) :=
  congrArg Host.Outcome.next (if_pos (started_iff.mpr h))

/-- The state in which a frame is judged: the capture of its port is taken (R144). -/
def captureTaken (p : ChainPort) (s : State) : State := modRecord p (fun r => { r with capture := none }) s

theorem modRecord_captureTaken (g : ChainRecord → ChainRecord) : modRecord p g (captureTaken p s)
    = s.setChain (s.chain.setRecord p (g { s.chain.record p with capture := none })) := by
  unfold captureTaken
  simp only [modRecord, modChain, State.setChain_chain, ChainUnit.setRecord_record, setRecord_setRecord]
  rfl

theorem receiveFrame_malformed {l : List Byte} (on : s.chain.role ≠ .off) (bad : decodeFrame l = none)
    (b : Bool) : receiveFrame p l b s = modRecord p
      (fun r => { r with checkErrors := satSucc Config.count16 r.checkErrors }) (captureTaken p s) := by
  unfold receiveFrame
  rw [if_neg on, bad]
  rfl

theorem receiveFrame_member {l : List Byte} (role : s.chain.role = .member) (e : decodeFrame l = some f)
    (b : Bool) : receiveFrame p l b s
      = memberTakes p f (s.chain.record p).capture b (captureTaken p s) := by
  unfold receiveFrame
  rw [if_neg (by simp [role]), e]
  exact if_neg (by rw [modRecord_chain, setRecord_role, role]; decide)

theorem receiveFrame_leader {l : List Byte} (role : s.chain.role = .leader) (e : decodeFrame l = some f)
    (b : Bool) : receiveFrame p l b s = leaderTakes p f (captureTaken p s) := by
  unfold receiveFrame
  rw [if_neg (by simp [role]), e]
  exact if_pos (by rw [modRecord_chain, setRecord_role, role])

/-! ### A well-formed frame's path (R141) -/

theorem pathOf_length_le (l : List Byte) (h : octet l 3 ≤ 7) : (pathOf l).length ≤ 7 := by
  simp only [pathOf, List.length_map, slice, List.length_take, List.length_drop]
  omega

/-- A well-formed frame's path holds 1 to 7 entries, the origin first (R141). -/
theorem decodeFrame_path {l : List Byte} (e : decodeFrame l = some f) :
    f.path.length ≤ 7 ∧ f.path.head? = some (frameOrigin f) := by
  have path : f.path = pathOf l ∧ pathOk l = true := by
    unfold decodeFrame at e
    split at e
    · rename_i ok
      simp only [Bool.and_eq_true] at ok
      obtain ⟨⟨⟨-, good⟩, -⟩, -⟩ := ok
      split at e
      · cases e; exact ⟨rfl, good⟩
      · obtain ⟨c, -, rfl⟩ := Option.map_eq_some_iff.mp e
        exact ⟨rfl, good⟩
      · cases e
    · cases e
  obtain ⟨same, good⟩ := path
  simp only [pathOk, Bool.and_eq_true, inRange, decide_eq_true_eq] at good
  obtain ⟨⟨⟨⟨⟨-, few⟩, -⟩, -⟩, head⟩, -⟩ := good
  unfold frameOrigin
  rw [same, List.headD_eq_head?_getD, head]
  exact ⟨pathOf_length_le l few, rfl⟩

theorem holdsOwn_iff (c : ChainUnit) (f : TimeFrame) : holdsOwn c f = true ↔ c.address ∈ f.path := by
  simp [holdsOwn]

theorem frameValid_iff (c : ChainUnit) (f : TimeFrame) :
    frameValid c f = true ↔ c.address ∉ f.path ∧ f.path.length < 7 := by
  rw [← holdsOwn_iff]
  simp [frameValid]

/-! ### A member (R145) -/

theorem memberTakes_valid (fresh : s.chain.address ∉ f.path) (short : f.path.length < 7)
    (c : Option Int) (b : Bool) : memberTakes p f c b s
      = if s.chain.upstream = some p
        then upstreamTakes p f c b (chainConditions (modRecord p (validRecord f) s))
        else chainConditions (modRecord p (validRecord f) s) := by
  unfold memberTakes
  rw [if_pos ((frameValid_iff _ _).mpr ⟨fresh, short⟩)]
  simp only [chainConditions_frame, modRecord_chain, setRecord_upstream]

theorem memberTakes_invalid (bad : s.chain.address ∈ f.path ∨ f.path.length = 7)
    (c : Option Int) (b : Bool) : memberTakes p f c b s = memberDiscards p f s :=
  if_neg (by rw [frameValid_iff]; rcases bad with h | h <;> simp [h])

/-- The chain unit of a member that discards a frame: each test that discards it counts it (R145). -/
def discarding (p : ChainPort) (f : TimeFrame) (c : ChainUnit) : ChainUnit :=
  { c.setRecord p { c.record p with
      ownAddress :=
        if c.address ∈ f.path then min 65535 ((c.record p).ownAddress + 1) else (c.record p).ownAddress
      tooLong :=
        if f.path.length = 7 then min 65535 ((c.record p).tooLong + 1) else (c.record p).tooLong } with
    tooLong := if f.path.length = 7 then Timer.start 3 else c.tooLong
    conflict := if c.address ∈ f.path ∧ c.upstream = some p then Timer.start 3 else c.conflict }

/-- The too-long test of a discarded frame (R145). -/
def tooLongJudged (p : ChainPort) (f : TimeFrame) (s : State) : State :=
  if f.path.length = 7 then
    modChain (fun u => { u with tooLong := Timer.start 3 })
      (modRecord p (fun r => { r with tooLong := satSucc Config.count16 r.tooLong }) s)
  else s

/-- The own-address test of a discarded frame (R145). -/
def ownAddressJudged (p : ChainPort) (f : TimeFrame) (s : State) : State :=
  if holdsOwn s.chain f then
    let s := modRecord p (fun r => { r with ownAddress := satSucc Config.count16 r.ownAddress }) s
    if s.chain.upstream = some p then modChain (fun u => { u with conflict := Timer.start 3 }) s else s
  else s

theorem tooLongJudged_writes : tooLongJudged p f s = s.setChain
    { s.chain.setRecord p { s.chain.record p with
        tooLong := if f.path.length = 7 then min 65535 ((s.chain.record p).tooLong + 1)
          else (s.chain.record p).tooLong } with
      tooLong := if f.path.length = 7 then Timer.start 3 else s.chain.tooLong } := by
  unfold tooLongJudged
  by_cases full : f.path.length = 7
  · simp only [if_pos full, satSucc_eq_min]
    cases p <;> rfl
  · simp only [if_neg full]
    cases p <;> rfl

theorem ownAddressJudged_writes : ownAddressJudged p f s = s.setChain
    { s.chain.setRecord p { s.chain.record p with
        ownAddress := if s.chain.address ∈ f.path then min 65535 ((s.chain.record p).ownAddress + 1)
          else (s.chain.record p).ownAddress } with
      conflict := if s.chain.address ∈ f.path ∧ s.chain.upstream = some p then Timer.start 3
        else s.chain.conflict } := by
  unfold ownAddressJudged
  simp only [holdsOwn_iff, modRecord_chain, setRecord_upstream]
  by_cases own : s.chain.address ∈ f.path
  · by_cases here : s.chain.upstream = some p
    · rw [if_pos own, if_pos own, if_pos here, if_pos ⟨own, here⟩, ← satSucc_eq_min]
      cases p <;> rfl
    · rw [if_pos own, if_pos own, if_neg here, if_neg fun h => here h.2, ← satSucc_eq_min]
      cases p <;> rfl
  · rw [if_neg own, if_neg own, if_neg fun h => own h.1]
    cases p <;> rfl

/-- Both tests count, and the conditions are declared after them (R145). -/
theorem memberDiscards_writes :
    memberDiscards p f s = chainConditions (s.setChain (discarding p f s.chain)) := by
  have judged : memberDiscards p f s = chainConditions (ownAddressJudged p f (tooLongJudged p f s)) := rfl
  rw [judged, ownAddressJudged_writes, tooLongJudged_writes]
  cases p <;> rfl

/-! ### The leader (R143) -/

/-- The record of a port at the leader after a frame (R143, R145). -/
def leaderRecord (f : TimeFrame) (own : Nat) (r : ChainRecord) : ChainRecord :=
  if own ∈ f.path then { r with ownAddress := min 65535 (r.ownAddress + 1) }
  else if f.path.length = 7 then { r with tooLong := min 65535 (r.tooLong + 1) }
  else validRecord f r

theorem leaderTakes_writes : leaderTakes p f s
    = if frameOrigin f = s.chain.address
      then modRecord p (leaderRecord f s.chain.address) s
      else chainConditions (modChain (fun u => { u with conflict := Timer.start 3 })
        (modRecord p (leaderRecord f s.chain.address) s)) := by
  have record : (fun r : ChainRecord =>
      if holdsOwn s.chain f then { r with ownAddress := satSucc Config.count16 r.ownAddress }
      else if f.path.length = 7 then { r with tooLong := satSucc Config.count16 r.tooLong }
      else validRecord f r) = leaderRecord f s.chain.address := by
    funext r
    simp only [leaderRecord, holdsOwn_iff, satSucc_eq_min]
  unfold leaderTakes
  rw [record]
  simp only [modRecord_chain, setRecord_address]

end Arrivals

end Sys2Proof.Machine
end

section
set_option Elab.async false

namespace Sys2Proof.Machine

open Sys2Proof.Safety

/-! ## Commands that a member takes (R153) -/

section Commands

variable {s : State} {x : ChainCommand}

theorem takesCommand_iff (c : ChainUnit) (x : ChainCommand) : takesCommand c x = true ↔
    (x.target = c.address ∨ x.target = 7) ∧ c.lastCommand ≠ some x.sequence := by
  simp [takesCommand]

/-- The state in which a command is acted on: its sequence number is noted. -/
def noted (x : ChainCommand) (s : State) : State :=
  modChain (fun u => { u with lastCommand := some x.sequence }) s

theorem takeCommand_passed (h : ¬ takesCommand s.chain x = true) : takeCommand x s = s := if_neg h

theorem takeCommand_ignored (h : takesCommand s.chain x = true) (deaf : s.chain.config.ignoreCommands = true) :
    takeCommand x s = (noted x s).post (.chainCommandIgnored x.kind x.target x.sequence) 0 :=
  (if_pos h).trans (if_pos deaf)

theorem takeCommand_acts (h : takesCommand s.chain x = true) (heeds : s.chain.config.ignoreCommands = false) :
    takeCommand x s = (actOnCommand x (noted x s)).1.post
      (.chainCommandTaken x.kind x.target x.sequence (actOnCommand x (noted x s)).2) 0 :=
  (if_pos h).trans (if_neg (by simp [modChain_chain, heeds]))

/-- An action's effect and answer, put into the taking of the command. -/
theorem takeCommand_answers {t : State} {r : CommandResult} (h : takesCommand s.chain x = true)
    (heeds : s.chain.config.ignoreCommands = false) (e : actOnCommand x (noted x s) = (t, r)) :
    takeCommand x s = t.post (.chainCommandTaken x.kind x.target x.sequence r) 0 :=
  (takeCommand_acts h heeds).trans (by rw [e])

/-! ### HOLD and RELEASE (R68) -/

theorem writeMode_config (m : SelMode) (v : Option SelMode) (s : State) :
    (writeMode m v s).selector.config = { s.selector.config with mode := m } :=
  (evaluate_evaluated _ _).config

theorem writeMode_saved (m : SelMode) (v : Option SelMode) (s : State) :
    (writeMode m v s).selector.saved = v := evaluate_saved _ _

theorem choose_pendingSwitch (k : Option Slot) (c : EvalCause) (h : s.selector.pendingSwitch = none) :
    (choose k c s).selector.pendingSwitch = none := by
  unfold choose
  split
  · exact h
  · obtain ⟨-, -, cleared⟩ := switchTo_writes k c s
    exact cleared

theorem writeMode_hold (v : Option SelMode) (s : State) :
    (writeMode .hold v s).selector.selected = none ∧ (writeMode .hold v s).selector.pendingSwitch = none := by
  have conditions (t : State) : (selectorConditions t).selector = t.selector := by simp
  refine ⟨evaluate_hold rfl, ?_⟩
  unfold writeMode evaluate
  rw [conditions]
  exact choose_pendingSwitch none .mode rfl

theorem actOnCommand_hold (h : x.kind = .hold) (s : State) :
    actOnCommand x s = ((modeHold s).1, modeCommandResult (modeHold s).2) := by
  simp [actOnCommand, h]

theorem actOnCommand_release (h : x.kind = .release) (s : State) :
    actOnCommand x s = ((modeRelease s).1, modeCommandResult (modeRelease s).2) := by
  simp [actOnCommand, h]

theorem modeHold_held (h : s.selector.config.mode = .hold) : modeHold s = (s, .alreadyHeld) := if_pos h

theorem modeHold_holds (h : s.selector.config.mode ≠ .hold) :
    modeHold s = (writeMode .hold (some s.selector.config.mode) s, .applied) := if_neg h

theorem modeRelease_released (h : s.selector.config.mode ≠ .hold) : modeRelease s = (s, .notHeld) := if_neg h

theorem modeRelease_releases (h : s.selector.config.mode = .hold) :
    modeRelease s = (writeMode (s.selector.saved.getD .auto) none s, .applied) := if_pos h

theorem modeHold_mode (s : State) : (modeHold s).1.selector.config.mode = .hold := by
  by_cases h : s.selector.config.mode = .hold
  · rw [modeHold_held h]
    exact h
  · rw [modeHold_holds h, writeMode_config]

/-! ### STEP_PERMIT (R90) -/

theorem actOnCommand_stepPermit (h : x.kind = .stepPermit) (s : State) : actOnCommand x s
    = (s.setServo { s.servo with token := true }, if s.servo.token then .alreadyHeld else .granted) := by
  unfold actOnCommand
  rw [h]
  rfl

/-! ### LEAP (R161, R162) -/

theorem actOnCommand_leap_none (h : x.kind = .leap) (arg : x.arg = none) (s : State) :
    actOnCommand x s = (s, .invalid) := by
  simp [actOnCommand, h, arg]

theorem actOnCommand_leap (h : x.kind = .leap) {l : Leap} (arg : x.arg = some l) (s : State) :
    actOnCommand x s = ((enterAction (some (leapAction l)) l.due none .chain s).1,
      entryResult (enterAction (some (leapAction l)) l.due none .chain s).2) := by
  simp [actOnCommand, h, arg]

theorem leapAction_eq (l : Leap) : leapAction l = if l.dir = .insert then .leapInsert else .leapDelete := by
  unfold leapAction
  cases l.dir <;> rfl

theorem argumentOk_leapAction (l : Leap) : argumentOk (leapAction l) none = true := by
  unfold leapAction
  cases l.dir <;> rfl

theorem insertAction_perm (a : Action) (l : List Action) : (insertAction a l).Perm (a :: l) := by
  induction l with
  | nil => exact .refl _
  | cons b l ih =>
    unfold insertAction
    split
    · exact .refl _
    · exact (ih.cons b).trans (.swap a b l)

section Entry

variable {k : ActionKind} {due : Nat} {arg : Option Nat} {source : ActionSource}

theorem enterAction_invalid (beyond : Config.maxSeconds < due) :
    enterAction (some k) due arg source s = (s, .invalid) := if_pos (.inl beyond)

theorem enterAction_tooLate (inside : due ≤ Config.maxSeconds) (good : argumentOk k arg = true)
    (late : due ≤ s.time.base + 1) : enterAction (some k) due arg source s = (s, .tooLate) :=
  (if_neg (by simp [good, inside])).trans (if_pos late)

theorem enterAction_full (inside : due ≤ Config.maxSeconds) (good : argumentOk k arg = true)
    (ahead : s.time.base + 1 < due) (full : 8 ≤ s.scheduler.table.length) :
    enterAction (some k) due arg source s = (s, .full) :=
  (if_neg (by simp [good, inside])).trans ((if_neg (by omega)).trans (if_pos full))

theorem enterAction_enters (inside : due ≤ Config.maxSeconds) (good : argumentOk k arg = true)
    (ahead : s.time.base + 1 < due) (room : s.scheduler.table.length < 8) :
    enterAction (some k) due arg source s
      = (refreshLeap (s.setScheduler (joinTable k due arg source s.scheduler).1),
        .entered (joinTable k due arg source s.scheduler).2) :=
  (if_neg (by simp [good, inside])).trans ((if_neg (by omega)).trans (if_neg (by simpa using room)))

end Entry

/-! ### What a command spares -/

theorem takeCommand_chain (x : ChainCommand) (s : State) : (takeCommand x s).chain
    = if takesCommand s.chain x then { s.chain with lastCommand := some x.sequence } else s.chain := by
  unfold takeCommand
  dsimp only
  (repeat' split) <;> simp [modChain_chain]

theorem actOnCommand_calms (x : ChainCommand) (s : State) :
    calms (actOnCommand x s).1.refs = calms s.refs := by
  unfold actOnCommand
  dsimp only
  (repeat' split) <;> simp

theorem takeCommand_calms (x : ChainCommand) (s : State) : calms (takeCommand x s).refs = calms s.refs := by
  unfold takeCommand
  dsimp only
  (repeat' split) <;> simp [actOnCommand_calms]

end Commands

end Sys2Proof.Machine
end

section
set_option Elab.async false

namespace Sys2Proof.Machine

open Sys2Proof.Safety

/-! ### A LEAP that enters the table (R161, R162) -/

section Commands

variable {s : State} {x : ChainCommand}

theorem takeCommand_enters (h : takesCommand s.chain x = true) (heeds : s.chain.config.ignoreCommands = false)
    (kind : x.kind = .leap) {l : Leap} (arg : x.arg = some l) (inside : l.due ≤ Config.maxSeconds)
    (ahead : s.time.base + 1 < l.due) (room : s.scheduler.table.length < 8) :
    ∃ (id next : Nat) (wrapped : Bool) (table : List Action),
      takeCommand x s = State.post (.chainCommandTaken x.kind x.target x.sequence (.entered id)) 0
        { noted x s with
          time := { s.time with leap := earliestLeap table }
          scheduler := { s.scheduler with table := table, nextId := next, wrapped := wrapped } }
      ∧ table.Perm ({ id := id, kind := if l.dir = .insert then .leapInsert else .leapDelete, due := l.due
                      arg := none, source := .chain } :: s.scheduler.table)
      ∧ IdIssued s.scheduler id next wrapped := by
  have entered : actOnCommand x (noted x s) = _ := actOnCommand_leap kind arg (noted x s)
  rw [enterAction_enters (s := noted x s) inside (argumentOk_leapAction l) ahead room] at entered
  refine ⟨_, _, _, _, takeCommand_answers h heeds entered, ?_,
    joinTable_issued (leapAction l) l.due none .chain s.scheduler room⟩
  rw [← leapAction_eq]
  exact insertAction_perm _ _

/-! ### HOLD and RELEASE that change the mode (R68) -/

/-- An evaluation's own share of the state may differ: monitors, selector, servo, holdover, ports and
alarms. -/
def SparesChain (s t : State) : Prop :=
  t.chain = s.chain ∧ t.time = s.time ∧ t.scheduler = s.scheduler ∧ t.filter = s.filter
    ∧ t.link = s.link ∧ t.part = s.part ∧ t.flash = s.flash ∧ t.pending = s.pending

theorem writeMode_spares (m : SelMode) (v : Option SelMode) (s : State) :
    SparesChain s (writeMode m v s) := by
  simp [SparesChain]

theorem takeCommand_holds (h : takesCommand s.chain x = true) (heeds : s.chain.config.ignoreCommands = false)
    (kind : x.kind = .hold) (free : s.selector.config.mode ≠ .hold) :
    takeCommand x s = (writeMode .hold (some s.selector.config.mode) (noted x s)).post
      (.chainCommandTaken x.kind x.target x.sequence .applied) 0 :=
  takeCommand_answers h heeds ((actOnCommand_hold kind _).trans
    (by rw [modeHold_holds (s := noted x s) free]; rfl))

theorem takeCommand_releases (h : takesCommand s.chain x = true)
    (heeds : s.chain.config.ignoreCommands = false) (kind : x.kind = .release)
    (held : s.selector.config.mode = .hold) :
    takeCommand x s = (writeMode (s.selector.saved.getD .auto) none (noted x s)).post
      (.chainCommandTaken x.kind x.target x.sequence .applied) 0 :=
  takeCommand_answers h heeds ((actOnCommand_release kind _).trans
    (by rw [modeRelease_releases (s := noted x s) held]; rfl))

/-! ### What a command leaves behind -/

theorem takeCommand_mode (h : takesCommand s.chain x = true) (heeds : s.chain.config.ignoreCommands = false)
    (kind : x.kind = .hold) : (takeCommand x s).selector.config.mode = .hold := by
  rw [takeCommand_answers h heeds (actOnCommand_hold kind _)]
  simpa using modeHold_mode (noted x s)

theorem takeCommand_token (h : takesCommand s.chain x = true) (heeds : s.chain.config.ignoreCommands = false)
    (kind : x.kind = .stepPermit) : (takeCommand x s).servo.token = true := by
  rw [takeCommand_answers h heeds (actOnCommand_stepPermit kind _)]
  simp

end Commands

/-! ## A valid frame on the upstream port (R140, R145, R152, R153, R156) -/

section Upstream

variable {s : State} {f : TimeFrame}

/-! ### The signal of the CHAIN monitor (R23) -/

/-- The signal of each monitor. -/
def signals (r : PerSlot Monitor) (k : Slot) : Bool := (r.get k).signal

theorem signals_of_shows {r q : PerSlot Monitor} (h : shows r = shows q) : signals r = signals q :=
  funext fun k => congrArg Prod.fst (congrFun h k)

theorem signals_of_calms {r q : PerSlot Monitor} (h : calms r = calms q) : signals r = signals q :=
  signals_of_shows (shows_of_calms h)

theorem modRef_signals {k : Slot} {f : Monitor → Monitor} (s : State) (h : ∀ m, (f m).signal = m.signal) :
    signals (modRef k f s).refs = signals s.refs := by
  funext j
  show ((modRef k f s).ref j).signal = (s.ref j).signal
  rw [modRef_ref]
  split
  · exact h _
  · rfl

theorem recordMeasurement_signals (k : Slot) (x : Measurement) (s : State) :
    signals (recordMeasurement k x s).refs = signals s.refs := by
  have recorded : signals (modRef k (recordedMonitor k x) s).refs = signals s.refs :=
    modRef_signals s fun m => by unfold recordedMonitor; split <;> rfl
  have labelled (t : State) : signals (modRef k (labelledMonitor x.ds.isSome) t).refs = signals t.refs :=
    modRef_signals t fun m => by unfold labelledMonitor; split <;> rfl
  have reported (t : State) : signals (reportToSelector t).refs = signals t.refs :=
    signals_of_shows (reportToSelector_shows t)
  unfold recordMeasurement
  dsimp only
  (repeat' split) <;> simp [reported, labelled, recorded]

theorem takeMeasurement_signals (k : Slot) (x : Measurement) (s : State) :
    signals (takeMeasurement k x s).refs = signals s.refs := by
  have judged : signals (recordMeasurement k x (wanderJudge k x.value s)).refs = signals s.refs :=
    (recordMeasurement_signals k x _).trans (signals_of_shows (wanderJudge_shows k x.value s))
  have checked : signals (checkMeasurement k x (recordMeasurement k x (wanderJudge k x.value s))).refs
      = signals s.refs := (signals_of_shows (checkMeasurement_shows k x _)).trans judged
  unfold takeMeasurement
  dsimp only
  split
  · rfl
  · rfl
  · exact recordMeasurement_signals k x s
  all_goals
    split
    · exact checked
    · exact judged

theorem chainMonitorTakes_signal (p : ChainPort) (f : TimeFrame) (c : Option Int)
    (on : (s.ref .chain).state ≠ .disabled) : ((chainMonitorTakes p f c s).ref .chain).signal = true := by
  obtain ⟨present, -⟩ := signalAppears_present on
  unfold chainMonitorTakes
  dsimp only
  split
  · exact (congrFun (takeMeasurement_signals .chain _ _) .chain).trans present
  · exact present

/-! ### The command of a frame -/

/-- The last command noted after a frame (R153). -/
def heardCommand (f : TimeFrame) (c : ChainUnit) : Option Nat :=
  match f.command with
  | some x => if takesCommand c x then some x.sequence else c.lastCommand
  | none => c.lastCommand

theorem takeFrameCommand_chain (f : TimeFrame) (s : State) : (takeFrameCommand f s).chain
    = { s.chain with lastCommand := heardCommand f s.chain } := by
  unfold takeFrameCommand heardCommand
  cases f.command with
  | none => rfl
  | some x =>
    dsimp only
    rw [takeCommand_chain]
    split <;> rfl

theorem takeFrameCommand_calms (f : TimeFrame) (s : State) :
    calms (takeFrameCommand f s).refs = calms s.refs := by
  unfold takeFrameCommand
  split
  · exact takeCommand_calms _ s
  · rfl

/-! ### The word of a frame -/

/-- The inbox after a frame that comes at base second `now` (R156). -/
def inboxAfter (f : TimeFrame) (now : Nat) (c : ChainUnit) : Option InboxWord :=
  match f.word, c.inbox with
  | some w, none => some { word := w, origin := frameOrigin f, second := now }
  | _, i => i

/-- The lost words after a frame (R156). -/
def lostAfter (f : TimeFrame) (c : ChainUnit) : Nat :=
  match f.word, c.inbox with
  | some _, some _ => min 255 (c.lostWords + 1)
  | _, _ => c.lostWords

theorem takeWord_enters (w : Word32) (o : Nat) (empty : s.chain.inbox = none) : takeWord w o s
    = (s.setChain { s.chain with inbox := some { word := w, origin := o, second := s.time.base } }).post
        (.wordReceived o) 0 := by
  unfold takeWord
  rw [empty]
  rfl

theorem takeWord_loses (w : Word32) (o : Nat) {i : InboxWord} (full : s.chain.inbox = some i) :
    takeWord w o s = (s.setChain { s.chain with lostWords := min 255 (s.chain.lostWords + 1) }).post
      (.wordLost (min 255 (s.chain.lostWords + 1))) 0 := by
  unfold takeWord
  rw [full, ← satSucc_eq_min]
  rfl

theorem takeFrameWord_chain (f : TimeFrame) (s : State) : (takeFrameWord f s).chain
    = { s.chain with inbox := inboxAfter f s.time.base s.chain, lostWords := lostAfter f s.chain } := by
  unfold takeFrameWord inboxAfter lostAfter
  cases word : f.word with
  | none => rfl
  | some w =>
    cases inbox : s.chain.inbox with
    | none => simp [takeWord_enters w _ inbox]
    | some i => simp [takeWord_loses w _ inbox, ← inbox]

/-! ### The whole frame -/

/-- The state once the command and the measurement of a valid upstream frame are taken. -/
def upstreamHeard (p : ChainPort) (f : TimeFrame) (capture : Option Int) (commandFirst : Bool)
    (s : State) : State :=
  let s := modChain (fun u => { u with lastUpstream := some (upstreamFrame f) }) s
  if commandFirst then chainMonitorTakes p f capture (takeFrameCommand f s)
  else takeFrameCommand f (chainMonitorTakes p f capture s)

theorem upstreamTakes_eq (p : ChainPort) (f : TimeFrame) (c : Option Int) (b : Bool) (s : State) :
    upstreamTakes p f c b s = modChain (fillRelay f) (takeFrameWord f (upstreamHeard p f c b s)) := rfl

/-- The chain unit before the frame's word, but for the captures that a step has moved. -/
def heardChain (f : TimeFrame) (c : ChainUnit) : ChainUnit :=
  { c with lastUpstream := some (upstreamFrame f), lastCommand := heardCommand f c }

theorem upstreamHeard_chain (p : ChainPort) (f : TimeFrame) (c : Option Int) (b : Bool) (s : State) :
    ∃ amount, (upstreamHeard p f c b s).chain = movedCaptures amount (heardChain f s.chain) := by
  unfold upstreamHeard
  dsimp only
  split
  · obtain ⟨amount, moved⟩ := chainMonitorTakes_captures p f c
      (takeFrameCommand f (modChain (fun u => { u with lastUpstream := some (upstreamFrame f) }) s))
    exact ⟨amount, by rw [moved, takeFrameCommand_chain]; rfl⟩
  · obtain ⟨amount, moved⟩ := chainMonitorTakes_captures p f c
      (modChain (fun u => { u with lastUpstream := some (upstreamFrame f) }) s)
    exact ⟨amount, by rw [takeFrameCommand_chain, moved]; rfl⟩

theorem upstreamHeard_signal (p : ChainPort) (f : TimeFrame) (c : Option Int) (b : Bool)
    (on : (s.ref .chain).state ≠ .disabled) : ((upstreamHeard p f c b s).ref .chain).signal = true := by
  unfold upstreamHeard
  dsimp only
  split
  · refine chainMonitorTakes_signal p f c ?_
    have same := calm_of_calms (takeFrameCommand_calms f
      (modChain (fun u => { u with lastUpstream := some (upstreamFrame f) }) s)) .chain
    exact (congrArg Monitor.state same).trans_ne on
  · exact (congrFun (signals_of_calms (takeFrameCommand_calms f _)) .chain).trans
      (chainMonitorTakes_signal p f c on)

/-- With the measurement first, the command of a frame is what is taken last but for the word (R153). -/
theorem upstreamHeard_command {x : ChainCommand} (p : ChainPort) (c : Option Int)
    (carried : f.command = some x) (taken : takesCommand s.chain x = true)
    (heeds : s.chain.config.ignoreCommands = false) :
    ∃ v, upstreamHeard p f c false s = takeCommand x v ∧ takesCommand v.chain x = true
      ∧ v.chain.config.ignoreCommands = false := by
  obtain ⟨amount, moved⟩ := chainMonitorTakes_captures p f c
    (modChain (fun u => { u with lastUpstream := some (upstreamFrame f) }) s)
  refine ⟨chainMonitorTakes p f c (modChain (fun u => { u with lastUpstream := some (upstreamFrame f) }) s),
    ?_, ?_, ?_⟩
  · unfold upstreamHeard takeFrameCommand
    rw [carried]
    rfl
  · rw [moved]
    exact taken
  · rw [moved]
    exact heeds

end Upstream

end Sys2Proof.Machine
end

section
set_option Elab.async false

namespace Sys2Proof.Machine

open Sys2Proof.Safety

/-! ## Sending (R142, R143, R152) -/

section Sending

variable {s : State} {c : ChainUnit} {n : Nat} {r : SecondRecord} {d : FrameDue}

/-! ### When the part sends -/

/-- The part sends as an island (R148, R152). -/
def IslandSends (c : ChainUnit) : Prop :=
  (c.upstream = none ∧ c.unattached = 3) ∨ ∃ q, c.upstream = some q ∧ 3 ≤ (c.record q).silence

/-- The part sends on a port (R143, R152). -/
def SendsOn (c : ChainUnit) (p : ChainPort) : Prop :=
  c.role = .leader ∨ c.role = .member ∧ (IslandSends c ∨ c.upstream = some (otherPort p))

/-- The part has sent for second `n` or a later one (R142). -/
def SentBy (n : Nat) (c : ChainUnit) : Prop := ∃ m, c.lastSent = some m ∧ n ≤ m

theorem sendsAsIsland_iff (c : ChainUnit) : sendsAsIsland c = true ↔ IslandSends c := by
  unfold sendsAsIsland IslandSends
  cases c.upstream <;> simp

theorem sendsOn_iff (c : ChainUnit) (p : ChainPort) : sendsOn c p = true ↔ SendsOn c p := by
  unfold sendsOn SendsOn
  rw [← sendsAsIsland_iff]
  cases c.role <;> simp

theorem sendsFor_iff (n : Nat) (c : ChainUnit) :
    sendsFor n c = true ↔ (SendsOn c .a ∨ SendsOn c .b) ∧ ¬ SentBy n c := by
  unfold sendsFor SentBy
  rw [← sendsOn_iff, ← sendsOn_iff]
  cases c.lastSent <;> simp

theorem chainSend_idle (h : SentBy n s.chain ∨ ¬ SendsOn s.chain .a ∧ ¬ SendsOn s.chain .b) :
    chainSend n s = s := by
  refine if_neg fun sends => ?_
  obtain ⟨on, new⟩ := (sendsFor_iff n s.chain).mp sends
  rcases h with old | ⟨offA, offB⟩
  · exact new old
  · exact on.elim offA offB

theorem chainSend_sends (new : ¬ SentBy n s.chain) (on : SendsOn s.chain .a ∨ SendsOn s.chain .b) :
    chainSend n s = composeDue (modChain (putMarkers n) s) := if_pos ((sendsFor_iff n s.chain).mpr ⟨on, new⟩)

/-! ### What the frame carries -/

theorem carry_leader (h : c.role = .leader) : carry c =
    ({ path := [c.address], allowance := 0, command := c.commandSlot, word := c.outbox },
      { c with commandSlot := none, outbox := none }) := if_pos h

theorem carry_relay (h : c.role ≠ .leader) (attached : ¬ IslandSends c) {x : UpstreamFrame}
    (last : c.lastUpstream = some x) : carry c =
    ({ path := x.path ++ [c.address], allowance := min 1000000000 (x.allowance + c.config.hop)
       command := c.relayCommand, word := c.relayWord },
      { c with relayCommand := none, relayWord := none }) := by
  have alone : sendsAsIsland c = false := by simpa [← sendsAsIsland_iff] using attached
  unfold carry
  rw [if_neg h, alone, last]
  rfl

theorem carry_island (h : c.role ≠ .leader) (island : IslandSends c) :
    carry c = ({ path := [c.address], allowance := 0, command := none, word := none }, c) := by
  unfold carry
  rw [if_neg h, (sendsAsIsland_iff c).mpr island]

theorem carry_spares (c : ChainUnit) : (carry c).2.sequence = c.sequence ∧ (carry c).2.outA = c.outA
    ∧ (carry c).2.outB = c.outB ∧ (carry c).2.role = c.role := by
  unfold carry
  (repeat' split) <;> exact ⟨rfl, rfl, rfl, rfl⟩

/-! ### The notices of what left -/

theorem sentNotices_writes (x : Carried) (s : State) : sentNotices x s = s.setAlarms (sentNotices x s).alarms := by
  unfold sentNotices
  dsimp only
  (repeat' split) <;> rfl

theorem sentNotices_member (x : Carried) (h : s.chain.role ≠ .leader) : sentNotices x s = s := if_neg h

/-- The leader's notices join a queue with room for both (R143, R175). -/
theorem sentNotices_queue (x : Carried) (h : s.chain.role = .leader) (room : s.alarms.queue.length + 2 ≤ 32) :
    (sentNotices x s).alarms.queue = s.alarms.queue
      ++ (x.command.toList.map fun y =>
        { detail := .chainCommandSent y.kind y.target y.sequence, number := 0, stamp := s.time.base })
      ++ (x.word.toList.map fun w => { detail := .wordSent w, number := 0, stamp := s.time.base }) := by
  unfold sentNotices
  rw [if_pos h]
  cases x.command with
  | none =>
    cases x.word with
    | none => simp
    | some w => simp [post_queue (.wordSent w) 0 (show s.alarms.queue.length < 32 by omega)]
  | some y =>
    have first := post_queue (.chainCommandSent y.kind y.target y.sequence) 0
      (show s.alarms.queue.length < 32 by omega)
    cases x.word with
    | none => simp [first]
    | some w =>
      refine (post_queue (.wordSent w) 0 ?_).trans ?_
      · rw [first, List.length_append, List.length_singleton]
        omega
      · rw [first]
        simp

/-! ### The frame composed -/

theorem composeDue_unrecorded (h : s.holdover.recorded = none) : composeDue s = s := by
  unfold composeDue
  rw [h]
  cases s.chain.frameDue <;> rfl

theorem composeDue_waits (h : s.holdover.recorded = some r)
    (other : ∀ d, s.chain.frameDue = some d → d.second ≠ r.second) : composeDue s = s := by
  unfold composeDue
  rw [h]
  split
  · rename_i due recorded
    cases recorded
    exact if_neg (other _ due)
  · rfl

theorem composeDue_composes (h : s.holdover.recorded = some r) (due : s.chain.frameDue = some d)
    (same : d.second = r.second) : composeDue s = composeFrame r d s := by
  unfold composeDue
  rw [h, due]
  exact if_pos same

/-- The chain unit once the frame `f` is out (R142). -/
def frameSent (f : TimeFrame) (d : FrameDue) (c : ChainUnit) : ChainUnit :=
  { (carry c).2 with
    sequence := (c.sequence + 1) % 16, frameDue := none
    outA := if d.onA then { c.outA with frame := some f } else c.outA
    outB := if d.onB then { c.outB with frame := some f } else c.outB }

theorem composeFrame_eq (r : SecondRecord) (d : FrameDue) (s : State) : composeFrame r d s
    = sentNotices (carry s.chain).1
      (s.setChain (frameSent (sentFrame r (carry s.chain).1 s) d s.chain)) := by
  obtain ⟨sequence, outA, outB, -⟩ := carry_spares s.chain
  unfold composeFrame frameSent
  simp only [sequence, outA, outB]

end Sending

end Sys2Proof.Machine
end

section
set_option Elab.async false

namespace Sys2Proof.Machine

open Sys2Proof.Safety

/-! ## What the chain's inputs do (R140, R143 to R145, R152, R153, R156) -/

section Inputs

variable {s : State} {f : TimeFrame} {p : ChainPort} {c : Option Int} {b : Bool}

/-! ### What a valid frame on the upstream port leaves -/

theorem inboxAfter_none (h : f.word = none) (now : Nat) (c : ChainUnit) : inboxAfter f now c = c.inbox := by
  simp [inboxAfter, h]

theorem inboxAfter_empty {w : Word32} {c : ChainUnit} (h : f.word = some w) (empty : c.inbox = none) (now : Nat) :
    inboxAfter f now c = some { word := w, origin := frameOrigin f, second := now } := by
  simp [inboxAfter, h, empty]

theorem inboxAfter_full {i : InboxWord} {c : ChainUnit} (full : c.inbox = some i) (now : Nat) :
    inboxAfter f now c = some i := by
  simp [inboxAfter, full]

theorem lostAfter_none {c : ChainUnit} (h : f.word = none ∨ c.inbox = none) : lostAfter f c = c.lostWords := by
  rcases h with h | h <;> simp [lostAfter, h]

theorem lostAfter_full {w : Word32} {i : InboxWord} {c : ChainUnit} (h : f.word = some w)
    (full : c.inbox = some i) : lostAfter f c = min 255 (c.lostWords + 1) := by
  simp [lostAfter, h, full]

theorem heardCommand_none (h : f.command = none) (c : ChainUnit) : heardCommand f c = c.lastCommand := by
  simp [heardCommand, h]

theorem heardCommand_taken {x : ChainCommand} {c : ChainUnit} (h : f.command = some x)
    (taken : takesCommand c x = true) : heardCommand f c = some x.sequence := by
  simp [heardCommand, h, taken]

theorem heardCommand_passed {x : ChainCommand} {c : ChainUnit} (h : f.command = some x)
    (passed : ¬ takesCommand c x = true) : heardCommand f c = c.lastCommand := by
  simp [heardCommand, h, passed]

theorem upstreamTakes_time : (upstreamTakes p f c b s).time = (upstreamHeard p f c b s).time := by
  simp [upstreamTakes_eq]

theorem upstreamTakes_selector : (upstreamTakes p f c b s).selector = (upstreamHeard p f c b s).selector := by
  simp [upstreamTakes_eq]

theorem upstreamTakes_servo : (upstreamTakes p f c b s).servo = (upstreamHeard p f c b s).servo := by
  simp [upstreamTakes_eq]

theorem upstreamTakes_signal (on : (s.ref .chain).state ≠ .disabled) :
    ((upstreamTakes p f c b s).ref .chain).signal = true := by
  have same : (upstreamTakes p f c b s).refs = (upstreamHeard p f c b s).refs := by simp [upstreamTakes_eq]
  exact (congrArg (fun r => (r.get Slot.chain).signal) same).trans (upstreamHeard_signal p f c b on)

theorem upstreamTakes_chain (p : ChainPort) (f : TimeFrame) (c : Option Int) (b : Bool) (s : State) :
    ∃ amount, (upstreamTakes p f c b s).chain = fillRelay f
      { movedCaptures amount (heardChain f s.chain) with
        inbox := inboxAfter f (upstreamTakes p f c b s).time.base s.chain
        lostWords := lostAfter f s.chain } := by
  obtain ⟨amount, heard⟩ := upstreamHeard_chain p f c b s
  refine ⟨amount, ?_⟩
  rw [upstreamTakes_time, upstreamTakes_eq, modChain_chain, takeFrameWord_chain, heard]
  rfl

/-- A record whose capture is taken is as it was, whatever steps came (R11, R144). -/
theorem upstreamTakes_record (taken : (s.chain.record p).capture = none) :
    (upstreamTakes p f c b s).chain.record p = s.chain.record p := by
  have still (amount : Int) : movedRecord amount (s.chain.record p) = s.chain.record p := by
    unfold movedRecord
    rw [taken, Option.map_none, ← taken]
  obtain ⟨amount, chain⟩ := upstreamTakes_chain p f c b s
  rw [chain]
  refine Eq.trans ?_ (still amount)
  cases p <;> rfl

theorem upstreamTakes_relays (p : ChainPort) (f : TimeFrame) (c : Option Int) (b : Bool) (s : State) :
    let t := upstreamTakes p f c b s
    t.chain.lastUpstream = some (upstreamFrame f)
      ∧ t.chain.relayCommand = (if f.command.isSome then f.command else s.chain.relayCommand)
      ∧ t.chain.relayWord = (if f.word.isSome then f.word else s.chain.relayWord)
      ∧ t.chain.overwrites = min 255 (s.chain.overwrites
          + (f.command.isSome && s.chain.relayCommand.isSome).toNat
          + (f.word.isSome && s.chain.relayWord.isSome).toNat) := by
  obtain ⟨amount, chain⟩ := upstreamTakes_chain p f c b s
  dsimp only
  rw [chain]
  refine ⟨rfl, ?_, ?_, congrArg (min 255) (Nat.add_assoc _ _ _).symm⟩
  · unfold fillRelay
    cases f.command <;> rfl
  · unfold fillRelay
    cases f.word <;> rfl

theorem upstreamTakes_heard (p : ChainPort) (f : TimeFrame) (c : Option Int) (b : Bool) (s : State) :
    let t := upstreamTakes p f c b s
    t.chain.lastCommand = heardCommand f s.chain ∧ t.chain.inbox = inboxAfter f t.time.base s.chain
      ∧ t.chain.lostWords = lostAfter f s.chain := by
  obtain ⟨amount, chain⟩ := upstreamTakes_chain p f c b s
  dsimp only
  rw [chain]
  exact ⟨rfl, rfl, rfl⟩

theorem upstreamTakes_received {w : Word32} (word : f.word = some w) (empty : s.chain.inbox = none) :
    ∃ v : State, (upstreamTakes p f c b s).alarms = (v.post (.wordReceived (frameOrigin f)) 0).alarms := by
  obtain ⟨amount, heard⟩ := upstreamHeard_chain p f c b s
  have entered := takeWord_enters (s := upstreamHeard p f c b s) w (frameOrigin f) (by rw [heard]; exact empty)
  refine ⟨_, Eq.trans ?_ (congrArg State.alarms entered)⟩
  rw [upstreamTakes_eq, takeFrameWord, word]
  rfl

theorem upstreamTakes_lost {w : Word32} {i : InboxWord} (word : f.word = some w) (full : s.chain.inbox = some i) :
    ∃ v : State, (upstreamTakes p f c b s).alarms
      = (v.post (.wordLost (upstreamTakes p f c b s).chain.lostWords) 0).alarms := by
  obtain ⟨amount, heard⟩ := upstreamHeard_chain p f c b s
  obtain ⟨-, -, lost⟩ := upstreamTakes_heard p f c b s
  have counted : (upstreamHeard p f c b s).chain.lostWords = s.chain.lostWords := by rw [heard]; rfl
  have dropped := takeWord_loses (s := upstreamHeard p f c b s) w (frameOrigin f) (i := i)
    (by rw [heard]; exact full)
  rw [lost, lostAfter_full word full, ← counted]
  refine ⟨_, Eq.trans ?_ (congrArg State.alarms dropped)⟩
  rw [upstreamTakes_eq, takeFrameWord, word]
  rfl

/-- With the measurement first, HOLD and STEP_PERMIT show once the frame is taken (R153). -/
theorem upstreamTakes_obeys {x : ChainCommand} (carried : f.command = some x)
    (taken : takesCommand s.chain x = true) (heeds : s.chain.config.ignoreCommands = false) :
    (x.kind = .hold → (upstreamTakes p f c false s).selector.config.mode = .hold)
      ∧ (x.kind = .stepPermit → (upstreamTakes p f c false s).servo.token = true) := by
  obtain ⟨v, heard, taken, heeds⟩ := upstreamHeard_command p c carried taken heeds
  rw [upstreamTakes_selector, upstreamTakes_servo, heard]
  exact ⟨takeCommand_mode taken heeds, takeCommand_token taken heeds⟩

/-! ### A frame at its port -/

/-- What a valid frame writes at its port (R144, R145). -/
def portTaken (f : TimeFrame) (r : ChainRecord) : ChainRecord := validRecord f { r with capture := none }

/-- The state after what a valid frame writes at its port, the conditions declared (R144, R145). -/
def frameNoted (p : ChainPort) (f : TimeFrame) (s : State) : State :=
  chainConditions (modRecord p (validRecord f) (captureTaken p s))

theorem frameNoted_writes : frameNoted p f s
    = (s.setChain (s.chain.setRecord p (portTaken f (s.chain.record p)))).setAlarms (frameNoted p f s).alarms := by
  unfold frameNoted
  rw [modRecord_captureTaken]
  exact chainConditions_writes _

theorem frameNoted_chain : (frameNoted p f s).chain = s.chain.setRecord p (portTaken f (s.chain.record p)) := by
  rw [frameNoted_writes]
  rfl

theorem frameNoted_spares {α : Type} (g : ChainUnit → α)
    (h : ∀ c x y, g { c with portA := x, portB := y } = g c) : g (frameNoted p f s).chain = g s.chain := by
  rw [frameNoted_chain]
  exact setRecord_spares g h _ p _

theorem captureTaken_spares {α : Type} (g : ChainUnit → α)
    (h : ∀ c x y, g { c with portA := x, portB := y } = g c) : g (captureTaken p s).chain = g s.chain :=
  setRecord_spares g h _ p _

/-! ### A valid frame at the upstream port -/

theorem arrival_record : (upstreamTakes p f c b (frameNoted p f s)).chain.record p
    = portTaken f (s.chain.record p) := by
  have record : (frameNoted p f s).chain.record p = portTaken f (s.chain.record p) := by
    rw [frameNoted_chain, ChainUnit.setRecord_record]
  exact (upstreamTakes_record (by rw [record]; rfl)).trans record

theorem arrival_relays (p : ChainPort) (f : TimeFrame) (c : Option Int) (b : Bool) (s : State) :
    let t := upstreamTakes p f c b (frameNoted p f s)
    t.chain.lastUpstream = some (upstreamFrame f)
      ∧ t.chain.relayCommand = (if f.command.isSome then f.command else s.chain.relayCommand)
      ∧ t.chain.relayWord = (if f.word.isSome then f.word else s.chain.relayWord)
      ∧ t.chain.overwrites = min 255 (s.chain.overwrites
          + (f.command.isSome && s.chain.relayCommand.isSome).toNat
          + (f.word.isSome && s.chain.relayWord.isSome).toNat) := by
  have relays := upstreamTakes_relays p f c b (frameNoted p f s)
  rwa [frameNoted_spares ChainUnit.relayCommand fun _ _ _ => rfl,
    frameNoted_spares ChainUnit.relayWord fun _ _ _ => rfl,
    frameNoted_spares ChainUnit.overwrites fun _ _ _ => rfl] at relays

theorem arrival_heard (p : ChainPort) (f : TimeFrame) (c : Option Int) (b : Bool) (s : State) :
    let t := upstreamTakes p f c b (frameNoted p f s)
    t.chain.lastCommand = heardCommand f s.chain ∧ t.chain.inbox = inboxAfter f t.time.base s.chain
      ∧ t.chain.lostWords = lostAfter f s.chain := by
  obtain ⟨command, inbox, lost⟩ := upstreamTakes_heard p f c b (frameNoted p f s)
  exact ⟨command.trans (frameNoted_spares (heardCommand f) fun _ _ _ => rfl),
    inbox.trans (frameNoted_spares (inboxAfter f _) fun _ _ _ => rfl),
    lost.trans (frameNoted_spares (lostAfter f) fun _ _ _ => rfl)⟩

section Member

variable {l : List Byte}

theorem receiveFrame_valid (role : s.chain.role = .member) (e : decodeFrame l = some f)
    (fresh : s.chain.address ∉ f.path) (short : f.path.length < 7) :
    receiveFrame p l b s = if s.chain.upstream = some p
      then upstreamTakes p f (s.chain.record p).capture b (frameNoted p f s) else frameNoted p f s := by
  have address := captureTaken_spares (p := p) (s := s) ChainUnit.address fun _ _ _ => rfl
  have upstream := captureTaken_spares (p := p) (s := s) ChainUnit.upstream fun _ _ _ => rfl
  rw [receiveFrame_member role e, memberTakes_valid (by rwa [address]) short, upstream]
  rfl

theorem discarding_captureTaken (p : ChainPort) (f : TimeFrame) (c : ChainUnit) :
    discarding p f (c.setRecord p { c.record p with capture := none }) =
      { c.setRecord p { c.record p with
          capture := none
          ownAddress :=
            if c.address ∈ f.path then min 65535 ((c.record p).ownAddress + 1) else (c.record p).ownAddress
          tooLong :=
            if f.path.length = 7 then min 65535 ((c.record p).tooLong + 1) else (c.record p).tooLong } with
        tooLong := if f.path.length = 7 then Timer.start 3 else c.tooLong
        conflict := if c.address ∈ f.path ∧ c.upstream = some p then Timer.start 3 else c.conflict } := by
  cases p <;> rfl

theorem receiveFrame_discarded (role : s.chain.role = .member) (e : decodeFrame l = some f)
    (bad : s.chain.address ∈ f.path ∨ f.path.length = 7) :
    ∃ a : AlarmUnit, receiveFrame p l b s = (s.setChain
      (discarding p f (s.chain.setRecord p { s.chain.record p with capture := none }))).setAlarms a := by
  have address := captureTaken_spares (p := p) (s := s) ChainUnit.address fun _ _ _ => rfl
  rw [receiveFrame_member role e, memberTakes_invalid (by rwa [address]), memberDiscards_writes]
  exact ⟨_, chainConditions_writes _⟩

end Member

end Inputs

end Sys2Proof.Machine
end

section
set_option Elab.async false

namespace Sys2Proof.Machine

open Sys2Proof.Safety

section Settled

variable {s : State} {f : TimeFrame} {p : ChainPort} {b : Bool} {l : List Byte}

/-- The leader's record is written in one go (R143, R144). -/
theorem receiveFrame_ofLeader (role : s.chain.role = .leader) (e : decodeFrame l = some f) :
    ∃ a : AlarmUnit, (f.path.head? = some s.chain.address → a = s.alarms)
      ∧ receiveFrame p l b s = { s with
        chain := { s.chain.setRecord p
            (leaderRecord f s.chain.address { s.chain.record p with capture := none }) with
          conflict := if f.path.head? = some s.chain.address then s.chain.conflict else Timer.start 3 }
        alarms := a } := by
  obtain ⟨-, head⟩ := decodeFrame_path e
  have address := captureTaken_spares (p := p) (s := s) ChainUnit.address fun _ _ _ => rfl
  rw [receiveFrame_leader role e, leaderTakes_writes, modRecord_captureTaken, address, head]
  by_cases own : frameOrigin f = s.chain.address
  · rw [if_pos own, if_pos (congrArg some own)]
    refine ⟨s.alarms, fun _ => rfl, ?_⟩
    cases p <;> rfl
  · have other : ¬ some (frameOrigin f) = some s.chain.address := fun h => own (Option.some.inj h)
    rw [if_neg own, if_neg other, chainConditions_writes]
    exact ⟨_, fun h => absurd h other, rfl⟩

/-- The frame composed of a recorded second (R142, R143, R152). -/
theorem composeDue_writes {r : SecondRecord} {d : FrameDue} (h : s.holdover.recorded = some r)
    (due : s.chain.frameDue = some d) (same : d.second = r.second) :
    composeDue s = (s.setChain (frameSent (sentFrame r (carry s.chain).1 s) d s.chain)).setAlarms
        (composeDue s).alarms
      ∧ (s.chain.role ≠ .leader → (composeDue s).alarms = s.alarms)
      ∧ (s.chain.role = .leader → s.alarms.queue.length + 2 ≤ 32 → (composeDue s).alarms.queue
        = s.alarms.queue
          ++ (s.chain.commandSlot.toList.map fun y =>
            { detail := .chainCommandSent y.kind y.target y.sequence, number := 0, stamp := s.time.base })
          ++ (s.chain.outbox.toList.map fun w =>
            { detail := .wordSent w, number := 0, stamp := s.time.base })) := by
  obtain ⟨-, -, -, kept⟩ := carry_spares s.chain
  have role : (s.setChain (frameSent (sentFrame r (carry s.chain).1 s) d s.chain)).chain.role = s.chain.role :=
    kept
  rw [composeDue_composes h due same, composeFrame_eq]
  refine ⟨sentNotices_writes _ _, fun member => ?_, fun leader room => ?_⟩
  · rw [sentNotices_member _ (by rwa [role])]
    rfl
  · refine (sentNotices_queue _ (role.trans leader) room).trans ?_
    rw [carry_leader leader]
    rfl

end Settled

/-- Settles O56: a frame's record and relay slots are read off the chain unit that each stage writes, and a
step that the measurement causes moves captures alone. -/
theorem chainInputsAreJudged : Obligations.ChainInputsAreJudged := by
  refine ⟨fun p u s₀ started => ?markers, fun p u l b s₀ started => ?frames, fun x s => ?commands,
    fun n s => ?sending⟩
  case markers =>
    rw [exec_chainMarker started]
    exact ⟨fun off => congrArg _ (if_pos off), fun on => congrArg _ (if_neg on)⟩
  case frames =>
    have run := exec_chainFrame started p u l b
    rw [run]
    generalize advanceTo u s₀ = s
    refine ⟨fun off => congrArg _ (if_pos off), fun on bad => ?_, fun f e role => ⟨fun fresh short other => ?_,
      fun fresh short here => ?_, fun bad => ?_⟩, fun f e role => ?_⟩
    · rw [receiveFrame_malformed on bad, modRecord_captureTaken, satSucc_eq_min]
      rfl
    · refine ⟨(frameNoted p f s).alarms, congrArg _ ?_⟩
      rw [receiveFrame_valid role e fresh short, if_neg other]
      exact frameNoted_writes
    · have taken : receiveFrame p l b s = _ := (receiveFrame_valid role e fresh short).trans (if_pos here)
      have inboxKept : (frameNoted p f s).chain.inbox = s.chain.inbox :=
        frameNoted_spares ChainUnit.inbox fun _ _ _ => rfl
      obtain ⟨last, relayCommand, relayWord, overwrites⟩ := arrival_relays p f (s.chain.record p).capture b s
      obtain ⟨command, inbox, lost⟩ := arrival_heard p f (s.chain.record p).capture b s
      refine ⟨_, congrArg _ taken, arrival_record, last, relayCommand, relayWord, overwrites,
        fun silent => command.trans (heardCommand_none silent _), fun x carried => ?_,
        fun w word empty => ?_, fun w i word full => ?_, fun silent => ?_, fun on => ?_, ?_⟩
      · have judged := takesCommand_iff s.chain x
        refine ⟨fun h => command.trans (heardCommand_taken carried (judged.mpr h)),
          fun h => command.trans (heardCommand_passed carried (mt judged.mp h)), fun h heeds measured => ?_⟩
        subst measured
        refine upstreamTakes_obeys carried ?_ ?_
        · rw [frameNoted_spares (takesCommand · x) fun _ _ _ => rfl]
          exact judged.mpr h
        · rw [frameNoted_spares (fun c => c.config.ignoreCommands) fun _ _ _ => rfl]
          exact heeds
      · exact ⟨inbox.trans (inboxAfter_empty word empty _), lost.trans (lostAfter_none (.inr empty)),
          upstreamTakes_received word (inboxKept.trans empty)⟩
      · exact ⟨inbox.trans (inboxAfter_full full _), lost.trans (lostAfter_full word full),
          upstreamTakes_lost word (inboxKept.trans full)⟩
      · exact ⟨inbox.trans (inboxAfter_none silent _ _), lost.trans (lostAfter_none (.inl silent))⟩
      · exact upstreamTakes_signal (by rw [frameNoted_writes]; exact on)
      · simp [frameNoted, captureTaken]
    · obtain ⟨a, discarded⟩ := receiveFrame_discarded (p := p) (b := b) role e bad
      rw [discarding_captureTaken] at discarded
      exact ⟨a, congrArg _ discarded⟩
    · obtain ⟨a, quiet, taken⟩ := receiveFrame_ofLeader (p := p) (b := b) role e
      exact ⟨a, quiet, congrArg _ taken⟩
  case commands =>
    have judged := takesCommand_iff s.chain x
    refine ⟨fun h => takeCommand_passed (mt judged.mp h), fun h deaf => takeCommand_ignored (judged.mpr h) deaf,
      fun h heeds => ?_⟩
    have taken := judged.mpr h
    refine ⟨fun kind held => ?_, fun kind free => ?_, fun kind free => ?_, fun kind held => ?_, fun kind => ?_,
      fun kind arg => ?_, fun kind l arg => ⟨fun beyond => ?_, fun inside late => ?_,
        fun inside ahead full => ?_, fun inside ahead room => ?_⟩⟩
    · exact takeCommand_answers taken heeds
        ((actOnCommand_hold kind _).trans (by rw [modeHold_held (s := noted x s) held]; rfl))
    · exact ⟨_, takeCommand_holds taken heeds kind free, writeMode_spares _ _ (noted x s),
        writeMode_config _ _ _, writeMode_saved _ _ _, writeMode_hold _ _⟩
    · exact takeCommand_answers taken heeds
        ((actOnCommand_release kind _).trans (by rw [modeRelease_released (s := noted x s) free]; rfl))
    · exact ⟨_, takeCommand_releases taken heeds kind held, writeMode_spares _ _ (noted x s),
        writeMode_config _ _ _, writeMode_saved _ _ _⟩
    · exact takeCommand_answers taken heeds (actOnCommand_stepPermit kind _)
    · exact takeCommand_answers taken heeds (actOnCommand_leap_none kind arg _)
    · exact takeCommand_answers taken heeds
        ((actOnCommand_leap kind arg _).trans (by rw [enterAction_invalid beyond]; rfl))
    · exact takeCommand_answers taken heeds ((actOnCommand_leap kind arg _).trans
        (by rw [enterAction_tooLate (s := noted x s) inside (argumentOk_leapAction l) late]; rfl))
    · exact takeCommand_answers taken heeds ((actOnCommand_leap kind arg _).trans
        (by rw [enterAction_full (s := noted x s) inside (argumentOk_leapAction l) ahead full]; rfl))
    · exact takeCommand_enters taken heeds kind arg inside ahead room
  case sending =>
    refine ⟨fun idle => chainSend_idle idle, fun new on onA onB sendsA sendsB => ?_,
      fun r recorded other => composeDue_waits recorded other, fun unrecorded => composeDue_unrecorded unrecorded,
      fun r d recorded due same => ?_⟩
    · have onA : onA = sendsOn s.chain .a := Bool.eq_iff_iff.mpr (sendsA.trans (sendsOn_iff _ _).symm)
      have onB : onB = sendsOn s.chain .b := Bool.eq_iff_iff.mpr (sendsB.trans (sendsOn_iff _ _).symm)
      subst onA onB
      exact chainSend_sends new on
    · obtain ⟨composed, silent, noticed⟩ := composeDue_writes recorded due same
      refine ⟨sentFrame r (carry s.chain).1 s, (carry s.chain).2, (composeDue s).alarms, composed,
        rfl, rfl, rfl, rfl, rfl, fun leader => ?_, fun member attached x last => ?_, fun member island => ?_⟩
      · have carried := carry_leader leader
        exact ⟨by rw [carried]; rfl, by rw [carried]; rfl, by rw [carried]; rfl, by rw [carried]; rfl,
          by rw [carried], noticed leader⟩
      · have carried := carry_relay member attached last
        exact ⟨by rw [carried]; rfl, by rw [carried]; rfl, by rw [carried]; rfl, by rw [carried]; rfl,
          by rw [carried], silent member⟩
      · have carried := carry_island member island
        exact ⟨by rw [carried]; rfl, by rw [carried]; rfl, by rw [carried]; rfl, by rw [carried]; rfl,
          by rw [carried], silent member⟩

end Sys2Proof.Machine
end

section
set_option Elab.async false

namespace Sys2Proof.Machine

open Sys2Proof.Safety

/-! ## Requests: the scheduler (R160 to R162, R166) -/

section SchedulerRequests

variable {s : State}

/-! ### SCHEDULE -/

/-- The next id is the one issued where no pending action holds it (R162). -/
theorem joinTable_nextId {c : Scheduler} (h : ∀ a ∈ c.table, a.id ≠ c.nextId) (k : ActionKind) (due : Nat)
    (arg : Option Nat) (source : ActionSource) : (joinTable k due arg source c).2 = c.nextId := by
  have free : idPending c.table c.nextId = false := by simpa [idPending] using h
  have search : ∀ n, freeId c.table n (c.nextId, c.wrapped) = (c.nextId, c.wrapped)
    | 0 => rfl
    | _ + 1 => if_neg (by simp [free])
  exact congrArg Prod.fst (search _)

theorem joinTable_sorted {c : Scheduler} (room : c.table.length < 8)
    (order : c.table.Pairwise (fun a b => actionBefore a b = true)) (k : ActionKind) (due : Nat)
    (arg : Option Nat) (source : ActionSource) :
    (joinTable k due arg source c).1.table.Pairwise (fun a b => actionBefore a b = true) :=
  insertAction_sorted order (joinTable_issued k due arg source c room).free

section Entry

variable {k : ActionKind} {due : Nat} {arg : Option Nat}

theorem requestSchedule_invalid (bad : Config.maxSeconds < due ∨ argumentOk k arg = false) :
    requestSchedule (some k) due arg s = refuse .invalid s := by
  have judged : enterAction (some k) due arg .host s = (s, .invalid) := if_pos bad
  rw [requestSchedule, judged]
  rfl

theorem requestSchedule_tooLate (inside : due ≤ Config.maxSeconds) (good : argumentOk k arg = true)
    (late : due ≤ s.time.base + 1) : requestSchedule (some k) due arg s = refuse .tooLate s := by
  rw [requestSchedule, enterAction_tooLate inside good late]
  rfl

theorem requestSchedule_full (inside : due ≤ Config.maxSeconds) (good : argumentOk k arg = true)
    (ahead : s.time.base + 1 < due) (full : 8 ≤ s.scheduler.table.length) :
    requestSchedule (some k) due arg s = refuse .full s := by
  rw [requestSchedule, enterAction_full inside good ahead full]
  rfl

theorem requestSchedule_enters (inside : due ≤ Config.maxSeconds) (good : argumentOk k arg = true)
    (ahead : s.time.base + 1 < due) (room : s.scheduler.table.length < 8) :
    requestSchedule (some k) due arg s
      = (refreshLeap (s.setScheduler (joinTable k due arg .host s.scheduler).1),
        okWith (putU 2 (joinTable k due arg .host s.scheduler).2)) := by
  rw [requestSchedule, enterAction_enters inside good ahead room]

end Entry

/-! ### CANCEL -/

section Cancel

variable {id : Nat} {a : Action}

theorem idIssued_iff (c : Scheduler) : idIssued c id = true ↔ c.wrapped = true ∨ id < c.nextId := by
  simp [idIssued]

/-- A search by id finds a pending action, where one holds the id. -/
theorem find_pending (mem : a ∈ s.scheduler.table) (hid : a.id = id) :
    ∃ b ∈ s.scheduler.table, b.id = id
      ∧ s.scheduler.table.find? (fun b => decide (b.id = id)) = some b := by
  have isSome : (s.scheduler.table.find? (fun b => decide (b.id = id))).isSome = true :=
    List.find?_isSome.mpr ⟨a, mem, decide_eq_true hid⟩
  obtain ⟨b, found⟩ := Option.isSome_iff_exists.mp isSome
  have held := List.find?_some (p := fun b : Action => decide (b.id = id)) found
  exact ⟨b, List.mem_of_find?_eq_some found, of_decide_eq_true held, found⟩

/-- Distinct ids leave the search no other action to find (R160). -/
theorem find_pending_unique (law : TableLaw s) (mem : a ∈ s.scheduler.table) (hid : a.id = id) :
    s.scheduler.table.find? (fun b => decide (b.id = id)) = some a := by
  obtain ⟨b, held, same, found⟩ := find_pending mem hid
  rwa [← List.inj_on_of_nodup_map law.ids held mem (same.trans hid.symm)]

theorem requestCancel_outside (h : id = 0 ∨ 65535 < id) : requestCancel id s = refuse .invalid s := if_pos h

section InRange

variable (pos : 0 < id) (le : id ≤ 65535)
include pos le

theorem requestCancel_absent (free : ∀ a ∈ s.scheduler.table, a.id ≠ id) : requestCancel id s
    = refuse (if s.scheduler.wrapped = true ∨ id < s.scheduler.nextId then .tooLate else .unknownId) s := by
  have search : s.scheduler.table.find? (fun b => decide (b.id = id)) = none := by
    simpa using free
  rw [requestCancel, if_neg (by omega), search]
  simp only [← idIssued_iff]
  split <;> rfl

theorem requestCancel_found (hid : a.id = id)
    (found : s.scheduler.table.find? (fun b => decide (b.id = id)) = some a) : requestCancel id s
      = if id ∈ s.scheduler.dueIds then refuse .tooLate s
      else (removeAction id s, okWith (putActionKind a.kind ++ putU 6 a.due)) := by
  rw [requestCancel, if_neg (by omega), found]
  simp [isDue, hid]

end InRange

end Cancel

end SchedulerRequests

/-- Settles O37: the tests of R161 in their order, then what an accepted action enters. -/
theorem scheduleEntersTheTable : Obligations.ScheduleEntersTheTable := by
  refine fun tag due arg s h => ⟨?unknown, fun k => ⟨fun bad => ?bad, fun inside good late => ?tooLate,
    fun inside good ahead full => ?full, fun inside good ahead room => ⟨_, _, _, _, ?entered,
      insertAction_perm _ _, joinTable_issued k due arg .host s.scheduler room,
      fun free => joinTable_nextId free k due arg .host,
      fun order => joinTable_sorted room order k due arg .host⟩⟩⟩
  case unknown => exact refusal_answers h 0x30 tag (f := requestSchedule none due arg) rfl
  case bad => exact refusal_answers h 0x30 tag (requestSchedule_invalid bad)
  case tooLate => exact refusal_answers h 0x30 tag (requestSchedule_tooLate inside good late)
  case full => exact refusal_answers h 0x30 tag (requestSchedule_full inside good ahead full)
  case entered => exact effect_answers h 0x30 tag (requestSchedule_enters inside good ahead room) rfl

/-- Settles O38: the search by id finds nothing, an action already due, or the one that is removed. -/
theorem cancelRemovesTheAction : Obligations.CancelRemovesTheAction := by
  refine fun tag id s h => ⟨fun bad => ?outside, fun pos le free => ?absent,
    fun a mem hid pos le due => ?due, fun a mem hid pos le waits law => ?removed⟩
  case outside => exact refusal_answers h 0x31 tag (requestCancel_outside bad)
  case absent => exact refusal_answers h 0x31 tag (requestCancel_absent pos le free)
  case due =>
    obtain ⟨b, -, same, found⟩ := find_pending mem hid
    exact refusal_answers h 0x31 tag ((requestCancel_found pos le same found).trans (if_pos due))
  case removed =>
    have kept : s.scheduler.dueIds.filter (fun i => decide (i ≠ id)) = s.scheduler.dueIds :=
      List.filter_eq_self.mpr fun i mem => decide_eq_true fun e => waits (e ▸ mem)
    have run := (requestCancel_found pos le hid (find_pending_unique law mem hid)).trans (if_neg waits)
    rw [removeAction, kept] at run
    exact effect_answers h 0x31 tag run rfl

end Sys2Proof.Machine
end

section
set_option Elab.async false

namespace Sys2Proof.Machine

open Sys2Proof.Safety

/-! ## The law of the alarm unit (R174, R175, R178) -/

/-- Settles O5: PIN_RESET and a start make the law hold, and in every other transition each notice and each
move of an entry re-evaluates the contacts and the attention line. -/
theorem stepsKeepTheAlarmLaw : Obligations.StepsKeepTheAlarmLaw :=
  step_keeps (P := fun s => AlarmLaw s.alarms) (fun m s => (pinReset_lawful m s).alarms)
    (fun _ _ transition => transition.keepsRest.alarms) fun _ _ law => law

/-! ## SET_ALARM and SET_ATTENTION (R174, R178, R179) -/

theorem requestSetAlarm_refused {c : AlarmConfig} (bad : alarmOk c = false) (k : AlarmKind) (s : State) :
    requestSetAlarm (some k) c s = refuse .invalid s := by
  unfold requestSetAlarm
  rw [bad]
  rfl

theorem requestSetAlarm_writes {c : AlarmConfig} (good : alarmOk c = true) (k : AlarmKind) (s : State) :
    requestSetAlarm (some k) c s =
      (s.setAlarms (refreshOutputs (s.alarms.setGroup k { s.alarms.group k with config := c })), okWith []) :=
  if_pos good

/-- The attention setting acts on the attention line alone (R178). -/
theorem refreshOutputs_attentionOn {u : AlarmUnit} (law : AlarmLaw u) (on : Bool) :
    refreshOutputs { u with attentionOn := on }
      = { u with attentionOn := on, attention := !u.queue.isEmpty && on } := by
  have outputs := refreshOutputs_of_law law
  have crit : contactAsserted .critical u = u.crit := congrArg AlarmUnit.crit outputs
  have maj : contactAsserted .major u = u.maj := congrArg AlarmUnit.maj outputs
  calc refreshOutputs { u with attentionOn := on }
      = { u with
          attentionOn := on, attention := !u.queue.isEmpty && on
          crit := contactAsserted .critical u, maj := contactAsserted .major u } := rfl
    _ = { u with attentionOn := on, attention := !u.queue.isEmpty && on } := by rw [crit, maj]

/-- Settles O39. -/
theorem alarmSettingsActAtOnce : Obligations.AlarmSettingsActAtOnce := by
  refine fun tag s h => ⟨fun c => ?unknown, fun k c bad => ?refused, fun k c good => ?written,
    fun on law => ?attention⟩
  case unknown => exact refusal_answers h 0x34 tag (f := requestSetAlarm none c) rfl
  case refused => exact refusal_answers h 0x34 tag (requestSetAlarm_refused bad k s)
  case written => exact effect_answers h 0x34 tag (requestSetAlarm_writes good k s) rfl
  case attention =>
    have run : requestSetAttention on s = (s.setAlarms { s.alarms with
        attentionOn := on, attention := !s.alarms.queue.isEmpty && on }, okWith (putB s.alarms.attentionOn)) := by
      rw [requestSetAttention, refreshOutputs_attentionOn law]
    exact effect_answers h 0x38 tag run rfl

end Sys2Proof.Machine
end

section
set_option Elab.async false

namespace Sys2Proof.Machine

open Sys2Proof.Safety

/-! ## What a notice and a move of an entry leave (R170, R175, R176) -/

/-- A notice that finds room joins the queue (R175). -/
theorem postNotice_joins {u : AlarmUnit} (room : u.queue.length < 32) (now : Nat) (x : Notice) :
    postNotice now x u = { u with queue := u.queue ++ [x] } := if_pos room

theorem postNotice_queue_le (now : Nat) (x : Notice) (u : AlarmUnit) :
    (postNotice now x u).queue.length ≤ u.queue.length + 1 := by
  unfold postNotice
  split
  · exact List.length_append.le
  · dsimp only
    split <;> exact Nat.le_succ _

theorem postNotice_config (now : Nat) (x : Notice) (u : AlarmUnit) (j : AlarmKind) :
    ((postNotice now x u).group j).config = (u.group j).config := by
  unfold postNotice
  split
  · rfl
  · dsimp only
    split
    · exact setEntry_config _ _ _ _ _
    · rfl

theorem postNotice_attentionOn (now : Nat) (x : Notice) (u : AlarmUnit) :
    (postNotice now x u).attentionOn = u.attentionOn := by
  unfold postNotice
  split
  · rfl
  · dsimp only
    split <;> rfl

/-- The notice of a move is posted or it is not; either way the unit is written by nothing else (R170). -/
theorem postAlarm_cases (now : Nat) (k : AlarmKind) (n : Nat) (c : AlarmConfig) (r : EntryStep)
    (u : AlarmUnit) : postAlarm now k n c r u = u
      ∨ r.2 ≠ none ∧ k ≠ .noticeOverflow ∧ ∃ x, postAlarm now k n c r u = postNotice now x u := by
  unfold postAlarm
  split
  · rename_i reported
    split
    · exact .inl rfl
    · rename_i posted
      exact .inr ⟨by rw [reported]; exact Option.some_ne_none _, fun own => posted (.inr own), _, rfl⟩
  · exact .inl rfl

section Move

variable {f : AlarmConfig → Nat → AlarmEntry → EntryStep} {now : Nat} {k : AlarmKind} {n : Nat}
  {u : AlarmUnit}

/-- A move writes its entry and posts at most one notice; where there is no such entry it does nothing. -/
theorem moveEntry_cases (f : AlarmConfig → Nat → AlarmEntry → EntryStep) (now : Nat) (k : AlarmKind)
    (n : Nat) (u : AlarmUnit) : moveEntry f now k n u = u
      ∨ ∃ e, u.entry? k n = some e ∧ (moveEntry f now k n u
            = u.setEntry k n (f (u.group k).config now e).1
          ∨ (f (u.group k).config now e).2 ≠ none ∧ k ≠ .noticeOverflow ∧ ∃ x, moveEntry f now k n u
            = postNotice now x (u.setEntry k n (f (u.group k).config now e).1)) := by
  unfold moveEntry
  split
  · rename_i e present
    exact .inr ⟨e, present, postAlarm_cases _ _ _ _ _ _⟩
  · exact .inl rfl

theorem moveEntry_config (j : AlarmKind) : ((moveEntry f now k n u).group j).config = (u.group j).config := by
  obtain same | ⟨e, -, silent | ⟨-, -, x, posted⟩⟩ := moveEntry_cases f now k n u
  · rw [same]
  · rw [silent, setEntry_config]
  · rw [posted, postNotice_config, setEntry_config]

theorem moveEntry_attentionOn : (moveEntry f now k n u).attentionOn = u.attentionOn := by
  obtain same | ⟨e, -, silent | ⟨-, -, x, posted⟩⟩ := moveEntry_cases f now k n u
  · rw [same]
  · rw [silent]; rfl
  · rw [posted, postNotice_attentionOn]; rfl

/-- A move of NOTICE_OVERFLOW's entry posts nothing (R170). -/
theorem moveEntry_noticeOverflow_queue : (moveEntry f now .noticeOverflow n u).queue = u.queue
    ∧ (moveEntry f now .noticeOverflow n u).dropped = u.dropped := by
  obtain same | ⟨e, -, silent | ⟨-, other, -⟩⟩ := moveEntry_cases f now .noticeOverflow n u
  · rw [same]; exact ⟨rfl, rfl⟩
  · rw [silent]; exact ⟨rfl, rfl⟩
  · exact absurd rfl other

/-- A move writes its own entry. -/
theorem moveEntry_entry_self : (moveEntry f now k n u).entry? k n
    = (u.entry? k n).map fun e => (f (u.group k).config now e).1 := by
  cases present : u.entry? k n with
  | none =>
    unfold moveEntry
    rw [present]
    exact present
  | some e =>
    unfold moveEntry
    rw [present]
    refine (postAlarm_entry _ k n _ _ _).trans ?_
    rw [setEntry_entry present, if_pos rfl]
    rfl

/-- A move leaves every other entry, but for that of NOTICE_OVERFLOW where its notice finds the queue full
(R176). -/
theorem moveEntry_entry_other {j : AlarmKind} {m : Nat} (other : (j, m) ≠ (k, n))
    (calm : j ≠ .noticeOverflow ∨ u.queue.length < 32
      ∨ ∀ e, u.entry? k n = some e → (f (u.group k).config now e).2 = none) :
    (moveEntry f now k n u).entry? j m = u.entry? j m := by
  obtain same | ⟨e, present, written⟩ := moveEntry_cases f now k n u
  · rw [same]
  have kept : (u.setEntry k n (f (u.group k).config now e).1).entry? j m = u.entry? j m := by
    rw [setEntry_entry present, if_neg other]
  obtain silent | ⟨noticed, -, x, posted⟩ := written
  · rw [silent, kept]
  obtain kind | room | quiet := calm
  · rw [posted, postNotice_entry _ _ _ kind, kept]
  · rw [posted, postNotice_joins (by exact room)]
    exact kept
  · exact absurd (quiet e present) noticed

end Move

theorem moveAlarm_config (f : AlarmConfig → Nat → AlarmEntry → EntryStep) (k : AlarmKind) (n : Nat) (s : State)
    (j : AlarmKind) : ((s.moveAlarm f k n).alarms.group j).config = (s.alarms.group j).config :=
  moveEntry_config (u := s.alarms) j

theorem moveAlarm_attentionOn (f : AlarmConfig → Nat → AlarmEntry → EntryStep) (k : AlarmKind) (n : Nat)
    (s : State) : (s.moveAlarm f k n).alarms.attentionOn = s.alarms.attentionOn :=
  moveEntry_attentionOn (u := s.alarms)

end Sys2Proof.Machine
end

section
set_option Elab.async false

namespace Sys2Proof.Machine

open Sys2Proof.Safety

/-! ## ACK_ALARM (R173) -/

/-- How an acknowledgement moves an entry (R173). -/
def AckMoves (e e' : AlarmEntry) : Prop :=
  (e.state = .raised ∨ e.state = .pendingClear → e' = { e with acknowledged := true })
    ∧ (e.state = .latched → e' = { e with state := .clear, acknowledged := false })
    ∧ (e.state = .clear ∨ e.state = .pendingRaise → e' = e)

/-- The entry stands in LATCHED. -/
def inLatched (u : AlarmUnit) (x : AlarmKind × Nat) : Bool :=
  (u.entry? x.1 x.2).any fun e => decide (e.state = .latched)

/-- The entry after its acknowledgement, for which neither its record nor the second counts (R173). -/
def ackEntry (e : AlarmEntry) : AlarmEntry :=
  match e.state with
  | .raised | .pendingClear => { e with acknowledged := true }
  | .latched => { e with state := .clear, acknowledged := false }
  | .clear | .pendingRaise => e

theorem entryAcknowledged_entry (c : AlarmConfig) (now : Nat) (e : AlarmEntry) :
    (entryAcknowledged c now e).1 = ackEntry e := by
  unfold entryAcknowledged ackEntry
  cases e.state <;> rfl

theorem ackEntry_moves (e : AlarmEntry) : AckMoves e (ackEntry e) := by
  unfold AckMoves ackEntry
  cases state : e.state <;> simp

/-- Only the acknowledgement of an entry in LATCHED has a notice (R173). -/
theorem entryAcknowledged_silent {e : AlarmEntry} (h : e.state ≠ .latched) (c : AlarmConfig) (now : Nat) :
    (entryAcknowledged c now e).2 = none := by
  unfold entryAcknowledged
  cases state : e.state
  case latched => exact absurd state h
  all_goals rfl

theorem ackCounts_eq_any (u : AlarmUnit) (x : AlarmKind × Nat) :
    ackCounts u x = (u.entry? x.1 x.2).any fun e => decide (e.state = .latched)
      || (decide (e.state = .raised ∨ e.state = .pendingClear) && !e.acknowledged) := by
  unfold ackCounts
  cases u.entry? x.1 x.2 <;> rfl

section Acknowledgement

variable {now : Nat} {k : AlarmKind} {n : Nat} {u : AlarmUnit}

theorem acknowledged_entry_self : (moveEntry entryAcknowledged now k n u).entry? k n
    = (u.entry? k n).map ackEntry := by
  rw [moveEntry_entry_self]
  exact congrArg (Option.map · _) (funext fun e => entryAcknowledged_entry _ _ e)

theorem acknowledged_silent (h : inLatched u (k, n) = false) (e : AlarmEntry)
    (present : u.entry? k n = some e) : (entryAcknowledged (u.group k).config now e).2 = none := by
  refine entryAcknowledged_silent (fun latched => ?_) _ _
  simp [inLatched, present, latched] at h

theorem acknowledged_queue_le : (moveEntry entryAcknowledged now k n u).queue.length
    ≤ u.queue.length + (inLatched u (k, n)).toNat := by
  obtain same | ⟨e, present, silent | ⟨noticed, -, x, posted⟩⟩ := moveEntry_cases entryAcknowledged now k n u
  · rw [same]; exact Nat.le_add_right _ _
  · rw [silent]; exact Nat.le_add_right _ _
  · cases latched : inLatched u (k, n)
    · exact absurd (acknowledged_silent latched e present) noticed
    · rw [posted]
      exact postNotice_queue_le _ _ _

end Acknowledgement

/-! ### One entry -/

theorem requestAckAlarm_absent {k : AlarmKind} {n : Nat} (h : alarmCount k ≤ n) (s : State) :
    requestAckAlarm (.entry k n) s = refuse .invalid s := if_neg (Nat.not_lt.mpr h)

theorem requestAckAlarm_entry {k : AlarmKind} {n : Nat} (h : n < alarmCount k) (s : State) :
    requestAckAlarm (.entry k n) s = (s.moveAlarm entryAcknowledged k n,
      okWith (putU 1 (ackCounts s.alarms (k, n)).toNat)) := by
  have run : requestAckAlarm (.entry k n) s = acknowledge [(k, n)] s := if_pos h
  rw [run, acknowledge, List.foldl_cons, List.foldl_nil, acknowledgeOne, Nat.zero_add]

/-! ### Every entry, one after another -/

theorem countP_concat {α : Type} (p : α → Bool) (l : List α) (x : α) :
    (l ++ [x]).countP p = l.countP p + (p x).toNat := by
  rw [List.countP_append, List.countP_singleton]
  cases p x <;> rfl

/-- The entries but NOTICE_OVERFLOW's own, which a notice that finds the queue full may move too (R176). -/
def otherEntries (l : List (AlarmKind × Nat)) : List (AlarmKind × Nat) :=
  l.filter fun x => decide (x.1 ≠ .noticeOverflow)

theorem otherEntries_concat_own (l : List (AlarmKind × Nat)) (n : Nat) :
    otherEntries (l ++ [(.noticeOverflow, n)]) = otherEntries l := by
  simp [otherEntries]

theorem otherEntries_concat {k : AlarmKind} (other : k ≠ .noticeOverflow) (l : List (AlarmKind × Nat)) (n : Nat) :
    otherEntries (l ++ [(k, n)]) = otherEntries l ++ [(k, n)] := by
  simp [otherEntries, other]

/-- The state and the count that `s` has become once the entries of `done` are acknowledged.  While `quiet`
holds no notice finds the queue full, and NOTICE_OVERFLOW's entry too is moved by its own acknowledgement alone
(R176). -/
structure Acknowledges (quiet : Prop) (s : State) (done : List (AlarmKind × Nat)) (r : State × Nat) : Prop where
  blocks : s.setAlarms r.1.alarms = r.1
  config : ∀ j, (r.1.alarms.group j).config = (s.alarms.group j).config
  attentionOn : r.1.alarms.attentionOn = s.alarms.attentionOn
  entries : ∀ k n, k ≠ .noticeOverflow ∨ quiet → r.1.alarms.entry? k n =
    if (k, n) ∈ done then (s.alarms.entry? k n).map ackEntry else s.alarms.entry? k n
  room : quiet → r.1.alarms.queue.length ≤ s.alarms.queue.length + done.countP (inLatched s.alarms)
  total : quiet → r.2 = done.countP (ackCounts s.alarms)
  least : (otherEntries done).countP (ackCounts s.alarms) ≤ r.2
  most : r.2 ≤ (otherEntries done).countP (ackCounts s.alarms)
    + done.countP fun x => decide (x.1 = .noticeOverflow)

section Fold

variable {quiet : Prop} {s : State} {done todo : List (AlarmKind × Nat)} {r : State × Nat} {k : AlarmKind}
  {n : Nat}

theorem Acknowledges.start (quiet : Prop) (s : State) : Acknowledges quiet s [] (s, 0) where
  blocks := setAlarms_self s
  config _ := rfl
  attentionOn := rfl
  entries _ _ _ := rfl
  room _ := Nat.le_refl _
  total _ := rfl
  least := Nat.le_refl _
  most := Nat.le_refl _

/-- An entry still to be acknowledged stands as it stood. -/
theorem Acknowledges.untouched (h : Acknowledges quiet s done r) (new : (k, n) ∉ done)
    (steady : k ≠ .noticeOverflow ∨ quiet) : r.1.alarms.entry? k n = s.alarms.entry? k n := by
  rw [h.entries k n steady, if_neg new]

theorem Acknowledges.untouched_counts (h : Acknowledges quiet s done r) (new : (k, n) ∉ done)
    (steady : k ≠ .noticeOverflow ∨ quiet) :
    ackCounts r.1.alarms (k, n) = ackCounts s.alarms (k, n) := by
  rw [ackCounts_eq_any, ackCounts_eq_any, h.untouched new steady]

theorem Acknowledges.untouched_inLatched (h : Acknowledges quiet s done r) (new : (k, n) ∉ done)
    (steady : k ≠ .noticeOverflow ∨ quiet) :
    inLatched r.1.alarms (k, n) = inLatched s.alarms (k, n) := by
  rw [inLatched, inLatched, h.untouched new steady]

/-- With room for the notices, an acknowledgement has none to post or finds room for it. -/
theorem Acknowledges.calm (h : Acknowledges quiet s done r) (new : (k, n) ∉ done) (holds : quiet)
    (room : s.alarms.queue.length + (done ++ [(k, n)]).countP (inLatched s.alarms) ≤ 32) (now : Nat) :
    r.1.alarms.queue.length < 32 ∨ ∀ e, r.1.alarms.entry? k n = some e →
      (entryAcknowledged (r.1.alarms.group k).config now e).2 = none := by
  have same := h.untouched_inLatched new (.inr holds)
  cases latched : inLatched s.alarms (k, n)
  · exact .inr fun e => acknowledged_silent (same.trans latched) e
  · have queue := h.room holds
    rw [countP_concat, latched, Bool.toNat_true] at room
    exact .inl (by omega)

theorem Acknowledges.one (h : Acknowledges quiet s done r) (new : (k, n) ∉ done)
    (room : quiet → s.alarms.queue.length + (done ++ [(k, n)]).countP (inLatched s.alarms) ≤ 32) :
    Acknowledges quiet s (done ++ [(k, n)]) (acknowledgeOne r (k, n)) where
  blocks := by
    show (s.setAlarms r.1.alarms).setAlarms _ = _
    rw [h.blocks]
    rfl
  config j := (moveAlarm_config _ k n r.1 j).trans (h.config j)
  attentionOn := (moveAlarm_attentionOn _ k n r.1).trans h.attentionOn
  entries j m steady := by
    show (moveEntry entryAcknowledged r.1.time.base k n r.1.alarms).entry? j m = _
    by_cases here : (j, m) = (k, n)
    · cases here
      rw [acknowledged_entry_self, h.untouched new steady, if_pos (by simp)]
    · rw [moveEntry_entry_other here (steady.imp id fun holds => h.calm new holds (room holds) _),
        h.entries j m steady]
      simp [here]
  room holds := by
    have queue := acknowledged_queue_le (now := r.1.time.base) (k := k) (n := n) (u := r.1.alarms)
    rw [h.untouched_inLatched new (.inr holds)] at queue
    have before := h.room holds
    show (moveEntry entryAcknowledged r.1.time.base k n r.1.alarms).queue.length ≤ _
    rw [countP_concat]
    omega
  total holds := by
    show r.2 + (ackCounts r.1.alarms (k, n)).toNat = _
    rw [h.total holds, h.untouched_counts new (.inr holds), countP_concat]
  least := by
    have before := h.least
    show _ ≤ r.2 + (ackCounts r.1.alarms (k, n)).toNat
    by_cases own : k = .noticeOverflow
    · rw [own, otherEntries_concat_own]
      exact Nat.le_add_right_of_le before
    · rw [otherEntries_concat own, countP_concat, h.untouched_counts new (.inl own)]
      omega
  most := by
    have before := h.most
    show r.2 + (ackCounts r.1.alarms (k, n)).toNat ≤ _
    rw [countP_concat]
    by_cases own : k = .noticeOverflow
    · have once := Bool.toNat_le (ackCounts r.1.alarms (k, n))
      rw [decide_eq_true own, Bool.toNat_true]
      rw [own] at once ⊢
      rw [otherEntries_concat_own]
      omega
    · rw [otherEntries_concat own, countP_concat, h.untouched_counts new (.inl own)]
      omega

/-- Entries acknowledged one after another, each once. -/
theorem Acknowledges.foldl (h : Acknowledges quiet s done r) (once : (done ++ todo).Nodup)
    (room : quiet → s.alarms.queue.length + (done ++ todo).countP (inLatched s.alarms) ≤ 32) :
    Acknowledges quiet s (done ++ todo) (todo.foldl acknowledgeOne r) := by
  induction todo generalizing done r with
  | nil => rwa [List.append_nil]
  | cons x todo ih =>
    have split : done ++ x :: todo = done ++ [x] ++ todo := by simp
    have new : x ∉ done := fun mem => List.disjoint_of_nodup_append once mem List.mem_cons_self
    rw [split] at once room ⊢
    refine ih (h.one new fun holds => (Nat.add_le_add_left ?_ _).trans (room holds)) once room
    rw [List.countP_append (l₂ := todo)]
    exact Nat.le_add_right _ _

end Fold

/-- ALL acknowledges every entry once, and answers the count (R173). -/
theorem requestAckAlarm_all {quiet : Prop} {s : State}
    (room : quiet → s.alarms.queue.length + allEntries.countP (inLatched s.alarms) ≤ 32) :
    ∃ r, Acknowledges quiet s allEntries r
      ∧ requestAckAlarm .all s = (s.setAlarms r.1.alarms, okWith (putU 1 r.2)) := by
  have all := (Acknowledges.start quiet s).foldl (todo := allEntries) (by decide) room
  exact ⟨_, all, by rw [all.blocks]; rfl⟩

/-- What the acknowledgement of one entry does to the table. -/
theorem acknowledged_table (s : State) (k : AlarmKind) (n : Nat) :
    (∀ e, s.alarms.entry? k n = some e → ∃ e',
      (s.moveAlarm entryAcknowledged k n).alarms.entry? k n = some e' ∧ AckMoves e e')
    ∧ ∀ j m, (j, m) ≠ (k, n) →
      j ≠ .noticeOverflow ∨ s.alarms.queue.length < 32 ∨ inLatched s.alarms (k, n) = false →
      (s.moveAlarm entryAcknowledged k n).alarms.entry? j m = s.alarms.entry? j m := by
  refine ⟨fun e present => ⟨ackEntry e, ?_, ackEntry_moves e⟩, fun j m other calm => ?_⟩
  · exact acknowledged_entry_self.trans (by rw [present]; rfl)
  · exact moveEntry_entry_other other (calm.imp id (Or.imp id acknowledged_silent))

/-- Settles O40: the refusals, then the move of one entry, then ALL as the fold of those moves. -/
theorem acknowledgingMovesEntriesByTheirState : Obligations.AcknowledgingMovesEntriesByTheirState := by
  intro tag s h affects latched moved
  have counts : affects = ackCounts s.alarms := funext fun x => (ackCounts_eq_any s.alarms x).symm
  rw [counts]
  refine ⟨?unknown, fun k n absent => ?absent, fun k n present => ?entry, ?all⟩
  case unknown => exact refusal_answers h 0x36 tag (f := requestAckAlarm .unknown) rfl
  case absent => exact refusal_answers h 0x36 tag (requestAckAlarm_absent absent s)
  case entry =>
    obtain ⟨own, others⟩ := acknowledged_table s k n
    exact ⟨(s.moveAlarm entryAcknowledged k n).alarms,
      effect_answers h 0x36 tag (requestAckAlarm_entry present s) rfl, own, others,
      moveAlarm_config _ k n s, moveAlarm_attentionOn _ k n s⟩
  case all =>
    intro others quiet
    obtain ⟨r, all, run⟩ := requestAckAlarm_all (quiet := quiet) id
    have single : (allEntries.countP fun x => decide (x.1 = .noticeOverflow)) = 1 := by decide
    refine ⟨r.1.alarms, r.2, effect_answers h 0x36 tag run rfl, fun k n e inside steady present =>
      ⟨ackEntry e, ?_, ackEntry_moves e⟩, all.least, single ▸ all.most, all.total, all.config, all.attentionOn⟩
    rw [all.entries k n steady, if_pos (mem_allEntries.mpr inside), present]
    rfl

end Sys2Proof.Machine
end

section
set_option Elab.async false

namespace Sys2Proof.Machine

open Sys2Proof.Safety

/-! ## A condition that goes away (R171, R172) -/

/-- A declaration that repeats the condition has no effect (R169). -/
theorem entryDeclared_idle {present : Bool} {e : AlarmEntry} (h : e.condition = present) (c : AlarmConfig)
    (now : Nat) : entryDeclared present c now e = (e, none) := if_pos h

theorem entryDeclared_absent {e : AlarmEntry} (h : e.condition = true) (c : AlarmConfig) (now : Nat) :
    entryDeclared false c now e = entryVanishes c now e := by
  unfold entryDeclared
  rw [h]
  rfl

theorem entryVanishes_condition (c : AlarmConfig) (now : Nat) (e : AlarmEntry) :
    (entryVanishes c now e).1.condition = false := by
  unfold entryVanishes endClear
  cases e.state
  case raised =>
    dsimp only
    split
    · split <;> rfl
    · rfl
  all_goals rfl

theorem entryVanishes_pendingRaise {e : AlarmEntry} (h : e.state = .pendingRaise) (c : AlarmConfig) (now : Nat) :
    (entryVanishes c now e).1 = { e with condition := false, state := .clear, timer := Timer.stopped } := by
  unfold entryVanishes
  rw [h]

theorem entryVanishes_delayed {e : AlarmEntry} (h : e.state = .raised) {c : AlarmConfig} (delay : c.clearDelay ≠ 0)
    (now : Nat) : (entryVanishes c now e).1 =
      { e with condition := false, state := .pendingClear, timer := Timer.start c.clearDelay } := by
  unfold entryVanishes
  rw [h]
  dsimp only
  rw [if_neg delay]

theorem entryVanishes_atOnce {e : AlarmEntry} (h : e.state = .raised) {c : AlarmConfig} (delay : c.clearDelay = 0)
    (now : Nat) : (entryVanishes c now e).1.clearedAt = some now
      ∧ (entryVanishes c now e).1.state = if c.latch && !e.acknowledged then .latched else .clear := by
  unfold entryVanishes endClear
  rw [h]
  dsimp only
  rw [if_pos delay]
  split <;> exact ⟨rfl, rfl⟩

/-- What becomes of an entry whose condition is declared absent (R169, R171, R172). -/
theorem entryDeclared_vanishes (c : AlarmConfig) (now : Nat) (e : AlarmEntry) :
    (entryDeclared false c now e).1.condition = false
    ∧ (e.condition = false → (entryDeclared false c now e).1 = e)
    ∧ (e.condition = true →
      (e.state = .pendingRaise → (entryDeclared false c now e).1.state = .clear
        ∧ (entryDeclared false c now e).1.timer = Timer.stopped)
      ∧ (e.state = .raised → c.clearDelay ≠ 0 → (entryDeclared false c now e).1.state = .pendingClear
        ∧ (entryDeclared false c now e).1.timer = Timer.start c.clearDelay)
      ∧ (e.state = .raised → c.clearDelay = 0 → (entryDeclared false c now e).1.clearedAt = some now
        ∧ (entryDeclared false c now e).1.state = if c.latch && !e.acknowledged then .latched else .clear)) := by
  cases condition : e.condition
  · rw [entryDeclared_idle condition]
    exact ⟨condition, fun _ => rfl, nofun⟩
  · rw [entryDeclared_absent condition]
    refine ⟨entryVanishes_condition c now e, nofun, fun _ => ⟨fun pending => ?_, fun raised delay => ?_,
      fun raised delay => entryVanishes_atOnce raised delay now⟩⟩
    · rw [entryVanishes_pendingRaise pending]
      exact ⟨rfl, rfl⟩
    · rw [entryVanishes_delayed raised delay]
      exact ⟨rfl, rfl⟩

/-! ## GET_NOTICES (R176, R177) -/

section Notices

variable {s : State}

/-- The oldest notices removed, the outputs following (R177, R178). -/
def noticesRemoved (max : Nat) (s : State) : State :=
  s.setAlarms (refreshOutputs { s.alarms with queue := s.alarms.queue.drop max })

theorem requestGetNotices_refused {max : Nat} (h : max = 0 ∨ 8 < max) (s : State) :
    requestGetNotices max s = refuse .invalid s := by
  refine if_neg fun inside => ?_
  have range := of_decide_eq_true inside
  omega

theorem reportOverflow_writes (removed : Nat) (s : State) :
    reportOverflow removed s = s.setAlarms (reportOverflow removed s).alarms := by
  unfold reportOverflow
  split <;> rfl

/-- The alarm unit once a reading has removed notices and reported the dropped ones (R177). -/
def noticesLeft (max : Nat) (s : State) : AlarmUnit :=
  (reportOverflow (s.alarms.queue.take max).length (noticesRemoved max s)).alarms

theorem requestGetNotices_removes {max : Nat} (low : 1 ≤ max) (high : max ≤ 8) (s : State) :
    requestGetNotices max s = (s.setAlarms (noticesLeft max s),
      okWith (putList putNotice (s.alarms.queue.take max) ++ putU 1 (noticesLeft max s).queue.length)) := by
  have run : requestGetNotices max s
      = (reportOverflow (s.alarms.queue.take max).length (noticesRemoved max s),
        okWith (putList putNotice (s.alarms.queue.take max) ++ putU 1 (noticesLeft max s).queue.length)) :=
    if_pos (decide_eq_true ⟨low, high⟩)
  rw [run, reportOverflow_writes]
  rfl

theorem reportOverflow_quiet (removed : Nat) (h : s.alarms.dropped = 0) : reportOverflow removed s = s :=
  if_neg fun reported => reported.2 h

theorem reportOverflow_attentionOn (removed : Nat) (s : State) :
    (reportOverflow removed s).alarms.attentionOn = s.alarms.attentionOn := by
  unfold reportOverflow
  split
  · exact (moveAlarm_attentionOn _ _ _ _).trans (postNotice_attentionOn _ _ s.alarms)
  · rfl

/-- The alarm unit with the OVERFLOW notice in the place that was freed, and the count of dropped notices
returned to 0 (R177). -/
def overflowNoticed (s : State) : AlarmUnit :=
  { refreshOutputs { s.alarms with queue := s.alarms.queue
      ++ [{ detail := .overflow s.alarms.dropped, number := 0, stamp := s.time.base }] } with
    dropped := 0 }

section Overflow

variable {removed : Nat} (taken : removed ≠ 0) (dropped : s.alarms.dropped ≠ 0)
  (room : s.alarms.queue.length < 32)
include taken dropped room

/-- An overflow is reported by its notice, and then NOTICE_OVERFLOW declared absent (R177). -/
theorem reportOverflow_declares : (reportOverflow removed s).alarms = refreshOutputs
    (moveEntry (entryDeclared false) s.time.base .noticeOverflow 0 (overflowNoticed s)) := by
  unfold reportOverflow overflowNoticed
  rw [if_pos ⟨taken, dropped⟩, ← postNotice_joins room]
  rfl

theorem reportOverflow_queue : (reportOverflow removed s).alarms.queue = s.alarms.queue
      ++ [{ detail := .overflow s.alarms.dropped, number := 0, stamp := s.time.base }]
    ∧ (reportOverflow removed s).alarms.dropped = 0 := by
  rw [reportOverflow_declares taken dropped room]
  exact moveEntry_noticeOverflow_queue (u := overflowNoticed s)

theorem reportOverflow_entry_other {k : AlarmKind} (other : k ≠ .noticeOverflow) (n : Nat) :
    (reportOverflow removed s).alarms.entry? k n = s.alarms.entry? k n := by
  rw [reportOverflow_declares taken dropped room]
  exact moveEntry_entry_other (u := overflowNoticed s) (fun same => other (congrArg Prod.fst same)) (.inl other)

theorem reportOverflow_entry_own : (reportOverflow removed s).alarms.entry? .noticeOverflow 0
    = (s.alarms.entry? .noticeOverflow 0).map fun e =>
      (entryDeclared false (s.alarms.group .noticeOverflow).config s.time.base e).1 := by
  rw [reportOverflow_declares taken dropped room]
  exact moveEntry_entry_self (u := overflowNoticed s)

end Overflow

theorem attention_of_law {u : AlarmUnit} (law : AlarmLaw u) :
    u.attention = (!u.queue.isEmpty && u.attentionOn) :=
  Bool.eq_iff_iff.mpr (by simp [law.attention])

end Notices

/-- Settles O41: a reading with nothing dropped removes notices and no more; one that frees a place reports the
overflow there. -/
theorem noticesAreReadOldestFirst : Obligations.NoticesAreReadOldestFirst := by
  refine fun tag max s h law => ⟨fun outside => ?refused, fun low high => ?read⟩
  case refused => exact refusal_answers h 0x37 tag (requestGetNotices_refused outside s)
  case read =>
    have run := requestGetNotices_removes low high s
    refine ⟨noticesLeft max s, effect_answers h 0x37 tag run rfl, fun quiet => ?quiet,
      fun dropped waiting => ?reported, reportOverflow_attentionOn _ (noticesRemoved max s), ?line⟩
    case quiet =>
      rw [noticesLeft, reportOverflow_quiet _ (s := noticesRemoved max s) quiet]
      exact ⟨rfl, quiet, rfl⟩
    case reported =>
      have notices : 0 < s.alarms.queue.length := List.length_pos_iff.mpr waiting
      have taken : (s.alarms.queue.take max).length ≠ 0 := by rw [List.length_take]; omega
      have room : (noticesRemoved max s).alarms.queue.length < 32 := by
        have full : s.alarms.queue.length ≤ 32 := law.queue
        show (s.alarms.queue.drop max).length < 32
        rw [List.length_drop]
        omega
      have pending : (noticesRemoved max s).alarms.dropped ≠ 0 := dropped
      obtain ⟨queue, count⟩ := reportOverflow_queue taken pending room
      have own := reportOverflow_entry_own taken pending room
      exact ⟨queue, count, fun k n other => reportOverflow_entry_other taken pending room other n,
        fun e present => ⟨_, own.trans (congrArg (Option.map _) present), entryDeclared_vanishes _ s.time.base e⟩⟩
    case line =>
      have lawful := (requestGetNotices_keeps max s).alarms law
      rw [run] at lawful
      exact attention_of_law lawful

end Sys2Proof.Machine
end

section
set_option Elab.async false

namespace Sys2Proof.Machine

open Sys2Proof.Safety

/-! ## What the link makes of a request (R185) -/

section Judged

variable {q : Request} {s : State}

/-- A request of a kind outside the catalogue is answered so in every state (R185). -/
theorem takeRequest_unknown (unknown : knownKind q.kind = false) :
    takeRequest q s = s.setLink (answered s.link q.kind q.tag .unknownKind []) := by
  have judged : judgeRequest q s = refuse .unknownKind s := if_pos unknown
  rw [takeRequest, judged]
  rfl

section Ready

variable (known : knownKind q.kind = true) (ready : ¬ (s.part = .loading ∧ q.kind ≠ 0x3C))
include known ready

/-- A body that does not give the kind's fields is answered INVALID (R185). -/
theorem takeRequest_malformed (unread : requestEffect q.kind.toNat q.body = none) :
    takeRequest q s = s.setLink (answered s.link q.kind q.tag .invalid []) := by
  have judged : judgeRequest q s = refuse .invalid s := by
    rw [judgeRequest, if_neg (by simp [known]), if_neg ready]
    simp only [unread]
  rw [takeRequest, judged]
  rfl

theorem takeRequest_read {f : Request.Effect} (read : requestEffect q.kind.toNat q.body = some f) :
    takeRequest q s = addReply q.kind q.tag (f s) := by
  have judged : judgeRequest q s = f s := by
    rw [judgeRequest, if_neg (by simp [known]), if_neg ready]
    simp only [read]
  rw [takeRequest, judged]

end Ready

/-- In LOADING a request of the catalogue other than GET_STATUS is answered NOT_READY (R185). -/
theorem takeRequest_notReady (known : knownKind q.kind = true) (loading : s.part = .loading)
    (other : q.kind ≠ 0x3C) : takeRequest q s = s.setLink (answered s.link q.kind q.tag .notReady []) := by
  have judged : judgeRequest q s = refuse .notReady s := by
    rw [judgeRequest, if_neg (by simp [known]), if_pos ⟨loading, other⟩]
  rw [takeRequest, judged]
  rfl

/-- A body that gives the kind's fields is taken as the command with these fields. -/
theorem takeRequest_typed (known : knownKind q.kind = true) (takes : Takes s) {f : Request.Effect}
    (read : requestEffect q.kind.toNat q.body = some f) :
    takeRequest q s = takeTyped q.kind q.tag f s := by
  rw [takeRequest_read known (fun h => takes.1 h.1) read, takeTyped_of_takes takes]

theorem readAll_nothing (b : List Byte) : readAll readNothing b = if b = [] then some () else none := by
  cases b <;> rfl

/-- GET_STATUS is answered in every state (R185, R186). -/
theorem takeRequest_getStatus (status : q.kind = 0x3C) : takeRequest q s = s.setLink
    (if q.body = [] then answered s.link q.kind q.tag .ok (statusContents s)
      else answered s.link q.kind q.tag .invalid []) := by
  have known : knownKind q.kind = true := by rw [status]; decide
  have ready : ¬ (s.part = .loading ∧ q.kind ≠ 0x3C) := fun h => h.2 status
  have effect : requestEffect q.kind.toNat q.body
      = (if q.body = [] then some () else none).map fun _ => requestGetStatus := by
    rw [← readAll_nothing, status]
    rfl
  split
  · rename_i bare
    rw [takeRequest_read known ready (effect.trans (by rw [if_pos bare]; rfl))]
    rfl
  · rename_i bare
    exact takeRequest_malformed known ready (effect.trans (by rw [if_neg bare]; rfl))

end Judged

/-- Settles O21. -/
theorem loadingAnswersNotReady : Obligations.LoadingAnswersNotReady := by
  intro c kind tag s request other loading free
  cases c <;> cases request
  case getStatus => exact absurd rfl other
  all_goals exact congrArg Host.Outcome.next (takeTyped_loading loading free _ _ other _)

/-! ## The receiver's errors (R183) -/

theorem linkError_counts (s : State) : linkError s = { s with
    link := { s.link with linkErrors := min 65535 (s.link.linkErrors + 1) } } :=
  congrArg (fun n => s.setLink { s.link with linkErrors := n }) (satSucc_eq_min 65535 s.link.linkErrors)

/-- Settles O47. -/
theorem discardedFramesAreCounted : Obligations.DiscardedFramesAreCounted := by
  intro s
  dsimp only
  rw [← linkError_counts]
  refine ⟨rfl, rfl, fun l => rfl, fun tag kind free unknown => ?_⟩
  show Host.Outcome.next _ = _
  rw [restartActs_of_not_due free, if_neg (by simp [unknown]), takeRequest_unknown unknown]
  rfl

/-! ## The transmitter (R184, R190) -/

section Transmitter

variable {s : State}

theorem replyFinished_none (idle : s.link.replies = []) : replyFinished s = s := by
  unfold replyFinished
  rw [idle]

theorem replyFinished_restart {r : Reply} {rest : List Reply} (sent : s.link.replies = r :: rest)
    (restarts : r.answer.restart = true) :
    replyFinished s = s.setLink { s.link with replies := rest, restartDue := true } := by
  unfold replyFinished
  rw [sent]
  simp [restarts]

/-- A reply other than a RESTART's has been sent: the next that waits is served (R184). -/
theorem replyFinished_serves {r : Reply} {rest : List Reply} (sent : s.link.replies = r :: rest)
    (plain : r.answer.restart = false) :
    replyFinished s = serveNext (s.setLink { s.link with replies := rest }) := by
  unfold replyFinished
  rw [sent]
  simp [plain]

end Transmitter

/-- Settles O43: RESTART's own answer, then each of the ways in which a reply ends. -/
theorem restartWaitsForItsReply : Obligations.RestartWaitsForItsReply := by
  intro tag s free
  have ended {t : State} (e : replyFinished s = t) : exec .replySent s = .next t := by
    show Host.Outcome.next (replyFinished (restartActs s)) = _
    rw [restartActs_of_not_due free, e]
  refine ⟨fun running => ?running, fun saving => ?saving, fun idle => ended (replyFinished_none idle),
    fun r rest sent restarts => ended (replyFinished_restart sent restarts),
    fun r rest sent plain quiet => ended ?quiet, fun r kind tag' w sent plain waits => ended ?overrun,
    fun r q w sent plain waits => ended ?request, congrArg Host.Outcome.next (restartActs_of_not_due free)⟩
  case running =>
    have takes : Takes s := ⟨by simp [running], free⟩
    have accepted : requestRestart s = (s, { status := .ok, contents := [], restart := true }) :=
      if_neg (by simp [running])
    show Host.Outcome.next (takeTyped 0x3E tag requestRestart s) = _
    rw [takeTyped_of_takes takes, accepted]
    rfl
  case saving => exact refusal_answers ⟨by simp [saving], free⟩ 0x3E tag (if_pos saving)
  case quiet =>
    rw [replyFinished_serves sent plain]
    exact serveNext_idle (t := s.setLink { s.link with replies := rest }) quiet.symm
  case overrun =>
    rw [replyFinished_serves sent plain]
    exact serveNext_overrun (t := s.setLink { s.link with replies := [] }) rfl waits
  case request =>
    rw [replyFinished_serves sent plain]
    exact serveNext_request (t := s.setLink { s.link with replies := [] }) rfl waits

end Sys2Proof.Machine
end

section
set_option Elab.async false

namespace Sys2Proof.Machine

open Sys2Proof.Safety

/-! ## What keeps the link

The link's law and the start of the part, over one step (R184, R188, R190): of a part that has started no
transition but those of the receiver, the transmitter and the requests touches either. -/

/-- `t` follows `s` with the link's law kept, and a part that has started still started. -/
structure LinkKept (s t : State) : Prop where
  law : LinkLaw s.link → LinkLaw t.link
  started : s.part ≠ .loading → t.part ≠ .loading

theorem LinkKept.refl (s : State) : LinkKept s s := ⟨id, id⟩

theorem LinkKept.trans {s t u : State} (h : LinkKept s t) (g : LinkKept t u) : LinkKept s u :=
  ⟨g.law ∘ h.law, g.started ∘ h.started⟩

theorem LinkKept.of_frame {s t : State} (part : t.part = s.part) (link : t.link = s.link) : LinkKept s t :=
  ⟨fun h => link ▸ h, fun h => part ▸ h⟩

/-! ### Requests, the transmitter and the receiver -/

theorem CatalogueEffect.queues {f : Request.Effect} (h : CatalogueEffect f) (s : State) :
    SameQueues s.link (f s).1.link := by
  cases h with
  | saveProfile => exact requestSaveProfile_queues s
  | _ => exact .of_eq (by simp)

theorem takeRequest_linkKept (q : Request) (s : State) : LinkKept s (takeRequest q s) :=
  ⟨fun h => linkLaw_takeRequest q s h.buffer h.overruns, takeRequest_started q⟩

theorem serveNext_linkKept (s : State) : LinkKept s (serveNext s) :=
  ⟨fun h => linkLaw_serveNext s h.buffer h.overruns, serveNext_started⟩

theorem restartActs_linkKept (s : State) : LinkKept s (restartActs s) where
  law := linkLaw_restartActs s
  started h := by
    unfold restartActs
    split
    · exact serveNext_started (by simpa using h)
    · exact h

theorem takeTyped_linkKept (kind tag : Byte) {f : Request.Effect} (h : CatalogueEffect f) (s : State) :
    LinkKept s (takeTyped kind tag f s) where
  law := linkLaw_takeTyped kind tag f h.queues s
  started started := by
    have acted := (restartActs_linkKept s).started started
    show (handOver kind f (restartActs s)).1.part ≠ .loading
    rw [handOver, if_neg fun g => acted g.1]
    exact h.stays_started acted

theorem replyFinished_linkKept (s : State) : LinkKept s (replyFinished s) where
  law := linkLaw_replyFinished s
  started h := by
    unfold replyFinished
    dsimp only
    (repeat' split)
    · exact h
    · exact h
    · exact serveNext_started h

theorem linkError_linkKept (s : State) : LinkKept s (linkError s) := ⟨linkLaw_linkError s, id⟩

theorem acceptRequest_started (q : Request) {s : State} (h : s.part ≠ .loading) :
    (acceptRequest q s).part ≠ .loading := by
  have acted := (restartActs_linkKept s).started h
  unfold acceptRequest queueRequest
  dsimp only
  (repeat' split)
  · exact takeRequest_started q acted
  all_goals exact acted

theorem receiveOctets_started (n : Nat) (l : List Byte) {s : State} (h : s.part ≠ .loading) :
    (receiveOctets n l s).part ≠ .loading := by
  induction n generalizing l s with
  | zero => exact h
  | succ n ih =>
    cases l with
    | nil => exact h
    | cons b l =>
      unfold receiveOctets
      dsimp only
      (repeat' split)
      · exact ih _ h
      · exact h
      · exact ih _ h
      · exact h
      · refine ih _ ?_
        unfold completeFrame
        split
        · exact acceptRequest_started _ h
        · exact h

theorem receiveOctets_linkKept (n : Nat) (l : List Byte) (s : State) : LinkKept s (receiveOctets n l s) :=
  ⟨linkLaw_receiveOctets n l s, receiveOctets_started n l⟩

/-! ### The count and the events -/

theorem settle_linkKept (s : State) : LinkKept s (settle s) := ⟨linkLaw_settle s, settle_started⟩

theorem settleBefore_linkKept (n : Nat) (s : State) : LinkKept s (settleBefore n s) := by
  unfold settleBefore
  split
  · exact settle_linkKept s
  · exact .refl s

theorem advanceTo_linkKept (n : Nat) (s : State) : LinkKept s (advanceTo n s) := by
  unfold advanceTo
  split
  · exact (settle_linkKept s).trans (.of_frame (by simp) (by simp))
  · exact .refl s

/-- An event that comes at its instant, once the count has been run on to it. -/
theorem linkKept_at (n : Nat) {f : State → State} (part : ∀ t, (f t).part = t.part)
    (link : ∀ t, (f t).link = t.link) (s : State) (c : Bool) :
    LinkKept s (if c then f (advanceTo n s) else s) := by
  split
  · exact (advanceTo_linkKept n s).trans (.of_frame (part _) (link _))
  · exact .refl s

theorem nextBoundary_linkKept (order : List Block) (s : State) : LinkKept s (nextBoundary order s) := by
  unfold nextBoundary
  split
  · exact (settle_linkKept s).trans (.of_frame (by simp) (by simp))
  · exact .refl s

theorem reachEnd_linkKept (s : State) : LinkKept s (reachEnd s) := by
  unfold reachEnd
  dsimp only
  (repeat' split)
  · exact (settle_linkKept s).trans (.of_frame (by simp) (by simp))
  · exact settle_linkKept s
  · exact .refl s

theorem onePico_linkKept (s : State) : LinkKept s (onePico s) := by
  unfold onePico
  (repeat' split)
  · exact .of_frame (by simp) (by simp)
  · exact .trans (.of_frame (by simp) (by simp)) (settle_linkKept _)
  · exact .of_frame rfl rfl
  · exact .refl s

theorem picos_linkKept (n : Nat) (s : State) : LinkKept s (picos n s) := by
  induction n generalizing s with
  | zero => exact .refl s
  | succ n ih => exact (onePico_linkKept s).trans (ih _)

theorem oscillatorTick_linkKept (s : State) : LinkKept s (oscillatorTick s) := by
  unfold oscillatorTick
  dsimp only
  split
  · have carried (n : Nat) : LinkKept s (s.setTime { s.time with rem := n }) := .of_frame rfl rfl
    exact (carried _).trans (picos_linkKept _ _)
  · exact .refl s

theorem runToInstant_linkKept (p : Fin 12) (i : Nat × Nat) (s : State) : LinkKept s (runToInstant p i s) := by
  unfold runToInstant
  dsimp only
  split <;> exact .of_frame (by simp) (by simp)

theorem portEmission_linkKept (p : Fin 12) (s : State) : LinkKept s (portEmission p s) := by
  unfold portEmission
  dsimp only
  (repeat' split)
  · exact (settleBefore_linkKept _ s).trans (runToInstant_linkKept _ _ _)
  · exact settleBefore_linkKept _ s
  · exact .refl s
  · exact .refl s

theorem clockEdge_linkKept (p : Fin 12) (k : Nat) (b : Bool) (s : State) : LinkKept s (clockEdge p k b s) := by
  have edged (n : Nat) (t : State) : LinkKept t
      ((runPast n t).setPort p (edgedPort k b ((runPast n t).port p))) :=
    .of_frame (by simp) (by simp)
  unfold clockEdge
  dsimp only
  (repeat' split)
  · exact (settleBefore_linkKept _ s).trans (edged _ _)
  · exact settleBefore_linkKept _ s
  · exact .refl s
  · exact .refl s

/-! ### One step -/

/-- The start leaves the transmitter and the buffer (R188). -/
theorem enterRunning_link (p : Option Profile) (straps : BitVec 3) (s : State) :
    (enterRunning p straps s).link = { s.link with defaulted := p.isNone } := by
  simp [enterRunning]

theorem enterRunning_part (p : Option Profile) (straps : BitVec 3) (s : State) :
    (enterRunning p straps s).part = .running := by
  simp [enterRunning, startedBlocks]

theorem linkLaw_of_queues {k l : Link} (same : SameQueues k l) (h : LinkLaw k) : LinkLaw l where
  buffer := by rw [same.waiting]; exact h.buffer
  overruns := by rw [same.waiting]; exact h.overruns
  idle := by rw [same.waiting, same.replies, same.due]; exact h.idle

theorem saveSucceeds_linkKept (s : State) : LinkKept s (saveSucceeds s) where
  law := linkLaw_of_queues ⟨by simp [saveSucceeds], by simp [saveSucceeds], by simp [saveSucceeds]⟩
  started _ := by simp [saveSucceeds]

theorem saveFails_linkKept (s : State) : LinkKept s (saveFails s) where
  law := linkLaw_of_queues ⟨by simp [saveFails], by simp [saveFails], by simp [saveFails]⟩
  started _ := by simp [saveFails]

/-- No transition breaks the link's law or takes a part that has started back to LOADING. -/
theorem Transition.linkKept {s t : State} (h : Transition s t) : LinkKept s t := by
  cases h with
  | starts p a f s loading =>
    refine ⟨linkLaw_of_queues ?_, fun started => absurd loading started⟩
    rw [enterRunning_link]
    exact ⟨rfl, rfl, rfl⟩
  | stays s => exact .refl s
  | saveSucceeds s => exact saveSucceeds_linkKept s
  | saveFails s => exact saveFails_linkKept s
  | octets l s => exact receiveOctets_linkKept _ l s
  | linkError s => exact linkError_linkKept s
  | replySent s => exact (restartActs_linkKept s).trans (replyFinished_linkKept _)
  | unknownKind q s => exact (restartActs_linkKept s).trans (takeRequest_linkKept q _)
  | request kind tag hf s => exact takeTyped_linkKept kind tag hf s
  | restarts s => exact restartActs_linkKept s
  | boundary order s => exact nextBoundary_linkKept order s
  | endOfRange s => exact reachEnd_linkKept s
  | satPulse k t s => exact linkKept_at t (by simp) (by simp) s _
  | satWindowClose k s => exact linkKept_at _ (by simp) (by simp) s _
  | lineEdge k t n s => exact linkKept_at t (by simp) (by simp) s _
  | lineLoss k s => exact linkKept_at _ (by simp) (by simp) s _
  | chainMarker p t s => exact linkKept_at t (by simp) (by simp) s _
  | chainFrame p t l b s => exact linkKept_at t (by simp) (by simp) s _
  | emission p s => exact portEmission_linkKept p s
  | clockEdge p k b s => exact clockEdge_linkKept p k b s
  | idle s => exact (settle_linkKept s).trans (oscillatorTick_linkKept _)
  | qualifies | waitEnds | periodEnds | dwellExpires | rearmExpires | pulseEnd | swapExpires
  | conflictExpires | tooLongExpires | alarmDelay => exact .of_frame (by simp) (by simp)

theorem pinReset_linkLaw (mode : LinkMode) (s : State) : LinkLaw (pinReset mode s).link :=
  linkLaw_of_queues (k := State.reset.link) ⟨rfl, rfl, rfl⟩ reset_linkLaw

theorem pinReset_loadingLaw (mode : LinkMode) (s : State) : LoadingLaw (pinReset mode s) where
  blocks _ := rfl
  due _ := rfl
  replies _ _ h := absurd h List.not_mem_nil

theorem loadingLaw_of_started {s : State} (h : s.part ≠ .loading) : LoadingLaw s :=
  ⟨fun g => absurd g h, fun g => absurd g h, fun g => absurd g h⟩

/-! ## LOADING (R188)

In LOADING a command answers at most on the link, or ends the loading. -/

/-- The part is LOADING, under the law of LOADING. -/
structure Loads (s : State) : Prop where
  loading : s.part = .loading
  law : LoadingLaw s

section Loads

variable {s : State} (h : Loads s)
include h

theorem Loads.free : s.link.restartDue = false := h.law.due h.loading

theorem Loads.setLink {k : Link} (due : k.restartDue = false)
    (replies : ∀ r ∈ k.replies, r.answer.restart = false) : Loads (s.setLink k) where
  loading := h.loading
  law :=
    { blocks := fun _ => congrArg (State.setLink · k) (h.law.blocks h.loading)
      due := fun _ => due
      replies := fun _ => replies }

/-- An answer in LOADING is never that of a RESTART. -/
theorem Loads.answered (k : Link) (due : k.restartDue = s.link.restartDue) (sent : k.replies = s.link.replies)
    (kind tag : Byte) (v : Status) (c : List Byte) : Loads (s.setLink (answered k kind tag v c)) := by
  refine h.setLink (due.trans h.free) fun r hr => ?_
  obtain old | rfl : r ∈ k.replies ∨ r = _ := by simpa [Safety.answered] using hr
  · exact h.law.replies h.loading r (sent ▸ old)
  · rfl

theorem Loads.takeRequest (q : Request) : Loads (takeRequest q s) := by
  by_cases status : q.kind = 0x3C
  · rw [takeRequest_getStatus status]
    split <;> exact h.answered _ rfl rfl _ _ _ _
  · cases known : knownKind q.kind
    · rw [takeRequest_unknown known]
      exact h.answered _ rfl rfl _ _ _ _
    · rw [takeRequest_notReady known h.loading status]
      exact h.answered _ rfl rfl _ _ _ _

theorem Loads.serveNext : Loads (serveNext s) := by
  have taken (rest : List Waiting) : Loads (s.setLink { s.link with waiting := rest }) :=
    h.setLink h.free (h.law.replies h.loading)
  unfold Machine.serveNext
  split
  · exact (taken _).takeRequest _
  · rename_i kind tag rest _ _
    exact h.answered { s.link with waiting := rest } rfl rfl kind tag .overrun []
  · exact h
  · exact h

theorem Loads.replyFinished : Loads (replyFinished s) := by
  have replies := h.law.replies h.loading
  cases sent : s.link.replies with
  | nil => rwa [replyFinished_none sent]
  | cons r rest =>
    have plain (q : Reply) (hq : q ∈ r :: rest) : q.answer.restart = false := replies q (sent ▸ hq)
    have left : Loads (s.setLink { s.link with replies := rest }) :=
      h.setLink h.free fun q hq => plain q (List.mem_cons_of_mem r hq)
    rw [replyFinished_serves sent (plain r List.mem_cons_self)]
    exact left.serveNext

theorem Loads.linkError : Loads (linkError s) := h.setLink h.free (h.law.replies h.loading)

theorem Loads.acceptRequest (q : Request) : Loads (acceptRequest q s) := by
  have queued (k : Link) (due : k.restartDue = s.link.restartDue) (sent : k.replies = s.link.replies) :
      Loads (s.setLink k) := h.setLink (due.trans h.free) (sent ▸ h.law.replies h.loading)
  unfold Machine.acceptRequest queueRequest
  rw [restartActs_of_not_due h.free]
  dsimp only
  (repeat' split)
  · exact h.takeRequest q
  all_goals exact queued _ rfl rfl

omit h in
theorem Loads.receiveOctets (n : Nat) (l : List Byte) {s : State} (h : Loads s) : Loads (receiveOctets n l s) := by
  induction n generalizing l s with
  | zero => exact h
  | succ n ih =>
    cases l with
    | nil => exact h
    | cons b l =>
      unfold Machine.receiveOctets
      dsimp only
      (repeat' split)
      · exact ih _ h
      · exact h
      · exact ih _ h.linkError
      · exact h
      · refine ih _ ?_
        unfold completeFrame
        split
        · exact h.acceptRequest _
        · exact h.linkError

/-! ### Nothing is due -/

theorem Loads.ref (k : Slot) : s.ref k = State.reset.ref k := by rw [h.law.blocks h.loading]; rfl

theorem Loads.port (p : Fin 12) : s.port p = State.reset.port p := by rw [h.law.blocks h.loading]; rfl

theorem Loads.selector : s.selector = State.reset.selector := by rw [h.law.blocks h.loading]

theorem Loads.chain : s.chain = State.reset.chain := by rw [h.law.blocks h.loading]

theorem Loads.alarms : s.alarms = State.reset.alarms := by rw [h.law.blocks h.loading]

theorem Loads.qualifies (k : Slot) : qualifies k s = s := by
  have quiet : (s.ref k).qualify.due = false := by rw [h.ref]; cases k <;> rfl
  simp [Machine.qualifies, quiet]

theorem Loads.waitEnds (k : Slot) : waitEnds k s = s := by
  have quiet : (s.ref k).wait.due = false := by rw [h.ref]; cases k <;> rfl
  simp [Machine.waitEnds, quiet]

theorem Loads.periodEnds (k : Slot) : periodEnds k s = s := by
  have quiet : (s.ref k).period.due = false := by rw [h.ref]; cases k <;> rfl
  simp [Machine.periodEnds, quiet]

theorem Loads.dwellExpires : dwellExpires s = s := by
  have quiet : s.selector.dwell.due = false := by rw [h.selector]; rfl
  simp [Machine.dwellExpires, quiet]

theorem Loads.rearmExpires (p : Fin 12) : rearmExpires p s = s := by
  have quiet : (s.port p).rearm.due = false := by rw [h.port]; revert p; decide
  simp [Machine.rearmExpires, quiet]

theorem Loads.swapExpires : swapExpires s = s := by
  have quiet : s.chain.swap = none := by rw [h.chain]; rfl
  simp [Machine.swapExpires, quiet]

theorem Loads.conflictExpires : conflictExpires s = s := by
  have quiet : s.chain.conflict.due = false := by rw [h.chain]; rfl
  simp [Machine.conflictExpires, quiet]

theorem Loads.tooLongExpires : tooLongExpires s = s := by
  have quiet : s.chain.tooLong.due = false := by rw [h.chain]; rfl
  simp [Machine.tooLongExpires, quiet]

theorem Loads.stopped : counting s = false := by simp [counting, State.started, h.loading]

theorem Loads.notStarted : s.started = false := by simp [State.started, h.loading]

theorem Loads.idle : idle s = s := by
  rw [Machine.idle, settle_loading s h.law h.loading, oscillatorTick, if_neg (by simp [h.stopped])]

omit h in
/-- An end of loading leaves a part that runs (R188). -/
theorem enterRunning_loadingLaw (p : Option Profile) (straps : BitVec 3) (s : State) :
    LoadingLaw (enterRunning p straps s) :=
  loadingLaw_of_started (by rw [enterRunning_part]; exact nofun)

/-- A request other than GET_STATUS is answered NOT_READY in LOADING, and does no more. -/
theorem Loads.takeTyped {kind : Byte} (other : kind ≠ 0x3C) (tag : Byte) (f : Request.Effect) :
    Loads (takeTyped kind tag f s) := by
  rw [takeTyped_loading h.loading h.free kind tag other]
  exact h.answered _ rfl rfl _ _ _ _

/-- A command in LOADING answers at most on the link, or ends the loading. -/
theorem Loads.exec {c : Instr} {t : State} (run : Machine.exec c s = .next t) : LoadingLaw t := by
  have same {u : State} (e : u = s) : LoadingLaw u := e ▸ h.law
  have error (b : Prop) [Decidable b] : LoadingLaw (if b then Machine.linkError s else s) := by
    split
    · exact h.linkError.law
    · exact h.law
  have entry (f : AlarmConfig → Nat → AlarmEntry → EntryStep)
      (hf : ∀ c now, f c now entryAtReset = (entryAtReset, none)) (k : AlarmKind) (n : Nat) :
      LoadingLaw (s.moveAlarm f k n) := same (moveAlarm_loading f hf k n s h.alarms)
  have stopped : ¬ counting s = true := by simp [h.stopped]
  have notStarted : ¬ s.started = true := by simp [h.notStarted]
  have notSaving : s.part ≠ .saving := by simp [h.loading]
  have free := restartActs_of_not_due h.free
  cases c <;> cases run
  case pinReset m => exact pinReset_loadingLaw m s
  case profileLoadDone r a =>
    rw [loadDone.eq_def, if_pos h.loading]
    cases r <;> exact enterRunning_loadingLaw _ _ _
  case profileLoadTimeout a =>
    rw [loadTimeout, if_pos h.loading]
    exact enterRunning_loadingLaw _ _ _
  case profileSaveDone r => exact same (if_neg notSaving)
  case profileSaveTimeout => exact same (if_neg notSaving)
  case frameReceived l => exact (Loads.receiveOctets _ l h).law
  case selectReleased | frameTimeout | overlongBodyLength => exact error _
  case replySent =>
    rw [free]
    exact h.replyFinished.law
  case unknownKind tag kind =>
    rw [free]
    split
    · exact h.law
    · exact (h.takeRequest _).law
  case softRestart => exact same free
  case secondBoundary order => exact same (if_neg (by simp [canMark, h.stopped]))
  case endOfRange => exact same (if_neg (by simp [inLastSecond, h.stopped]))
  case satPulse | satWindowClose | lineEdge | chainMarker | chainFrame | pulseEnd =>
    exact same (if_neg notStarted)
  case lineLoss k => exact same (if_neg (by simp [h.notStarted]))
  case qualifyTimerExpiry k => exact same (h.qualifies k)
  case waitTimerExpiry k => exact same (h.waitEnds k)
  case observationPeriodEnd k => exact same (h.periodEnds k)
  case dwellExpiry => exact same h.dwellExpires
  case rearmTimerExpiry p => exact same (h.rearmExpires p)
  case portEmission | clockEdge => exact same (if_neg stopped)
  case swapTimerExpiry => exact same h.swapExpires
  case conflictTimerExpiry => exact same h.conflictExpires
  case tooLongTimerExpiry => exact same h.tooLongExpires
  case raiseDelayExpiry k n => exact entry _ (fun _ _ => rfl) k n
  case clearDelayExpiry k n => exact entry _ (fun _ _ => rfl) k n
  case getStatus tag =>
    have e := Host.Outcome.next.inj (getStatus_answers tag h.free)
    exact e ▸ (h.answered s.link rfl rfl 0x3C tag .ok _).law
  all_goals exact (h.takeTyped (by decide) _ _).law

end Loads

/-- Settles O11: the link's law over each transition, then LOADING's: a part that has started stays so but for
PIN_RESET, and one that is LOADING does no more than answer. -/
theorem stepsKeepTheLinkAndLoading : Obligations.StepsKeepTheLinkAndLoading := by
  refine ⟨fun s t h law => ?link, fun s t h law => ?loading⟩
  case link =>
    obtain ⟨rest, ⟨m, -, rfl⟩ | kept⟩ := step_transition h
    · exact pinReset_linkLaw m _
    · exact kept.linkKept.law law
  case loading =>
    by_cases loading : s.part = .loading
    · unfold step at h
      split at h
      · obtain rfl := Host.Outcome.next.inj h
        rwa [Loads.idle ⟨loading, law⟩]
      · rename_i c rest _
        have waiting : Loads (s.setPending rest) :=
          ⟨loading, fun _ => congrArg (State.setPending · rest) (law.blocks loading), law.due, law.replies⟩
        exact waiting.exec h
    · obtain ⟨rest, ⟨m, -, rfl⟩ | kept⟩ := step_transition h
      · exact pinReset_loadingLaw m _
      · exact loadingLaw_of_started (kept.linkKept.started loading)

end Sys2Proof.Machine
end

section
set_option Elab.async false

namespace Sys2Proof.Machine

open Sys2Proof.Safety

/-! ## The end of loading (R188) -/

theorem exec_profileLoadDone_stored {s : State} (loading : s.part = .loading) (straps : BitVec 3) :
    exec (.profileLoadDone .stored straps) s = .next (enterRunning (goodProfile s.flash) straps s) :=
  congrArg Host.Outcome.next (if_pos loading)

theorem exec_profileLoadDone_image {s : State} (loading : s.part = .loading) (i : FlashImage)
    (straps : BitVec 3) : exec (.profileLoadDone (.image i) straps) s
      = .next (enterRunning (goodProfile (some i)) straps (s.setFlash (some i))) :=
  congrArg Host.Outcome.next (if_pos loading)

theorem exec_profileLoadTimeout {s : State} (loading : s.part = .loading) (straps : BitVec 3) :
    exec (.profileLoadTimeout straps) s = .next (enterRunning none straps s) :=
  congrArg Host.Outcome.next (if_pos loading)

theorem goodProfile_good {i : FlashImage} (good : imageGood i = true) : goodProfile (some i) = some i.profile :=
  if_pos good

theorem goodProfile_bad {i : FlashImage} (bad : imageGood i = false) : goodProfile (some i) = none :=
  if_neg (by simp [bad])

section Started

variable (p : Option Profile) (straps : BitVec 3) (s : State)

/-- The state whose conditions the end of loading declares: the blocks from the records, the link with the
mark of a missing profile (R188). -/
def startedState : State :=
  (startedBlocks (p.getD defaultProfile) straps.toNat s).setLink { s.link with defaulted := p.isNone }

theorem enterRunning_eq : enterRunning p straps s = declareAll (startedState p straps s) := rfl

theorem refreshAll_config (l : List (AlarmKind × Nat)) (k : AlarmKind) :
    ((s.refreshAll l).alarms.group k).config = (s.alarms.group k).config := by
  unfold State.refreshAll
  refine foldl_keeps (fun t => (t.alarms.group k).config) (fun t x => ?_) l s
  unfold State.refresh State.declare
  exact moveAlarm_config _ x.1 x.2 t k

theorem enterRunning_ref (k : Slot) : (enterRunning p straps s).ref k
    = monitorAtReset k (normalizeReference k ((p.getD defaultProfile).refs.get k)) false := by
  simp only [State.ref, enterRunning_eq, declareAll_frame]
  exact PerSlot.get_of _ k

theorem enterRunning_port (q : Fin 12) : (enterRunning p straps s).port q
    = portAtReset (p.getD defaultProfile).ports[q] := by
  simp only [State.port, enterRunning_eq, declareAll_frame]
  exact Vector.getElem_map _ _

theorem alarmsAtReset_config (config : AlarmKind → AlarmConfig) (on : Bool) (k : AlarmKind) :
    ((alarmsAtReset config on).group k).config = config k := by
  cases k <;> rfl

theorem enterRunning_alarmConfig (k : AlarmKind) : ((enterRunning p straps s).alarms.group k).config
    = (p.getD defaultProfile).alarms[alarmIndex k] := by
  have records : (startedState p straps s).alarms = alarmsAtReset
      (fun k => (p.getD defaultProfile).alarms[alarmIndex k]) (p.getD defaultProfile).attention := rfl
  rw [enterRunning_eq, declareAll, refreshAll_config, records, alarmsAtReset_config]

end Started

theorem octetOut_none {i : Nat} {k : Link} (h : ∀ r rest, k.replies = r :: rest → (encodeReply r).length ≤ i) :
    octetOut i k = if k.mode = .spi then some 0x00 else none := by
  have past : (k.replies.head?.map encodeReply).bind (fun l => l[i]?) = none := by
    cases sent : k.replies with
    | nil => rfl
    | cons r rest => exact List.getElem?_eq_none (h r rest sent)
  unfold octetOut
  rw [past]
  cases k.mode <;> rfl

theorem octetOut_some {i : Nat} {k : Link} {r : Reply} {rest : List Reply} {b : Byte}
    (sent : k.replies = r :: rest) (octet : (encodeReply r)[i]? = some b) : octetOut i k = some b := by
  unfold octetOut
  simp [sent, octet]

/-- Each end of loading starts the blocks from the image's records, or from the defaults (R188). -/
theorem loading_ends {s : State} (loading : s.part = .loading) {straps : BitVec 3} {i : FlashImage}
    {p : Profile} {d : Bool} {c : Instr}
    (h : (imageGood i = true ∧ p = i.profile ∧ d = false
            ∧ (c = .profileLoadDone (.image i) straps
                ∨ c = .profileLoadDone .stored straps ∧ s.flash = some i))
          ∨ (p = defaultProfile ∧ d = true
            ∧ (c = .profileLoadTimeout straps
                ∨ c = .profileLoadDone .stored straps ∧ s.flash = none
                ∨ c = .profileLoadDone .stored straps ∧ s.flash = some i ∧ imageGood i = false
                ∨ c = .profileLoadDone (.image i) straps ∧ imageGood i = false))) :
    ∃ o f, exec c s = .next (enterRunning o straps (s.setFlash f)) ∧ o.getD defaultProfile = p ∧ o.isNone = d := by
  obtain ⟨good, rfl, rfl, rfl | ⟨rfl, held⟩⟩ | ⟨rfl, rfl, rfl | ⟨rfl, held⟩ | ⟨rfl, held, bad⟩ | ⟨rfl, bad⟩⟩ := h
  · exact ⟨some i.profile, some i, by rw [exec_profileLoadDone_image loading, goodProfile_good good], rfl, rfl⟩
  · exact ⟨some i.profile, s.flash, by rw [exec_profileLoadDone_stored loading, held, goodProfile_good good, ← held,
      setFlash_flash], rfl, rfl⟩
  · exact ⟨none, s.flash, by rw [exec_profileLoadTimeout loading, setFlash_flash], rfl, rfl⟩
  · exact ⟨none, s.flash, by rw [exec_profileLoadDone_stored loading, setFlash_flash, held]; rfl, rfl, rfl⟩
  · exact ⟨none, s.flash, by rw [exec_profileLoadDone_stored loading, setFlash_flash, held, goodProfile_bad bad],
      rfl, rfl⟩
  · exact ⟨none, some i, by rw [exec_profileLoadDone_image loading, goodProfile_bad bad], rfl, rfl⟩

/-- Settles O45. -/
theorem loadingStartsAndEnds : Obligations.LoadingStartsAndEnds := by
  refine ⟨fun mode s => rfl, fun straps s => ⟨fun loading i p d c h => ?ends, fun started => ?started⟩,
    fun i k => ⟨fun r rest b => octetOut_some, octetOut_none⟩⟩
  case started =>
    exact ⟨fun r => congrArg Host.Outcome.next (if_neg started), congrArg Host.Outcome.next (if_neg started)⟩
  case ends =>
    obtain ⟨o, f, run, rfl, rfl⟩ := loading_ends loading h
    refine ⟨_, run, enterRunning_part _ _ _, enterRunning_link _ _ _, enterRunning_ref _ _ _, ?_, ?_, ?_, ?_, ?_,
      enterRunning_port _ _ _, ?_, ?_, enterRunning_alarmConfig _ _ _, (enterRunning_frame _ _ _).2⟩
    all_goals simp only [enterRunning_eq, declareAll_frame]; rfl

end Sys2Proof.Machine
end

section
set_option Elab.async false

namespace Sys2Proof.Machine

open Sys2Proof.Safety

/-! ## The bodies of the requests (R191)

What the octets of a field give its reader, and then record by record. -/

/-- The reader takes these octets as this value, whatever octets follow. -/
def Reads {α : Type} (r : Reader α) (b : List Byte) (a : α) : Prop := ∀ l, r (b ++ l) = some (a, l)

theorem Reads.bind {α β : Type} {r : Reader α} {b : List Byte} {a : α} (h : Reads r b a) (f : α → Reader β)
    (l : List Byte) : Reader.bind r f (b ++ l) = f a l := Reader.bind_some (h l)

theorem Reads.map {α β : Type} {r : Reader α} {b : List Byte} {a : α} (h : Reads r b a) (g : α → β) :
    Reads (Reader.bind r fun x => Reader.pure (g x)) b (g a) := fun l => h.bind _ l

theorem Reads.pair {α β : Type} {r : Reader α} {q : Reader β} {b c : List Byte} {x : α} {y : β}
    (h : Reads r b x) (g : Reads q c y) : Reads (readPair r q) (b ++ c) (x, y) := fun l => by
  rw [List.append_assoc, readPair, h.bind, g.bind]
  rfl

theorem Reads.triple {α β γ : Type} {r : Reader α} {q : Reader β} {p : Reader γ} {b c d : List Byte}
    {x : α} {y : β} {z : γ} (h : Reads r b x) (g : Reads q c y) (k : Reads p d z) :
    Reads (readTriple r q p) (b ++ c ++ d) (x, y, z) := fun l => by
  rw [List.append_assoc, List.append_assoc, readTriple, h.bind, g.bind, k.bind]
  rfl

/-- A body read whole gives the request's effect (R185). -/
theorem Reads.effect {α : Type} {r : Reader α} {b : List Byte} {a : α} (h : Reads r b a)
    (f : α → Request.Effect) : reads r f b = some (f a) := by
  have whole : r b = some (a, []) := by simpa using h []
  rw [reads, readAll, whole]
  rfl

theorem reads_none {α : Type} {r : Reader α} {b : List Byte} (h : r b = none) (f : α → Request.Effect) :
    reads r f b = none := by
  rw [reads, readAll, h]
  rfl

/-! ### Fields -/

theorem reads_U {n v : Nat} (h : v < 256 ^ n) : Reads (readU n) (putU n v) v := readU_putU h

theorem reads_octet (b : Byte) : Reads (readU 1) [b] b.toNat := fun l => by simp [readU, getU]

theorem reads_B (b : Bool) : Reads readB (putB b) b := readB_putB b

theorem reads_grade (g : Grade) : Reads (readNamed gradeOf) (putGrade g) g := readNamed_grade g

theorem reads_optU {n : Nat} {v : Option Nat} (h : ∀ x, v = some x → x < 256 ^ n) :
    Reads (readOptU n) (putOptU n v) v := readOptU_putOptU h

theorem putOptU_eq_putOpt (n : Nat) (v : Option Nat) : putOptU n v = putOpt n (putU n) v := by
  cases v <;> rfl

/-- A field that applies is read as written; one that does not is written absent, and is not looked at (R19). -/
theorem reads_applicable {α : Type} {applies : Bool} {n : Nat} {put : α → List Byte}
    {get : List Byte → Option α} {v : Option α} (absent : applies = false → v = none)
    (length : ∀ a, (put a).length = n) (field : ∀ a, v = some a → get (put a) = some a) :
    Reads (readApplicable applies n get) (putOpt n put v) v := fun l => by
  cases applies with
  | true => exact readOpt_putOpt length field l
  | false =>
    obtain rfl := absent rfl
    simp [readApplicable, putOpt]

theorem reads_applicableU {applies : Bool} {n : Nat} {v : Option Nat} (absent : applies = false → v = none)
    (h : ∀ x, v = some x → x < 256 ^ n) :
    Reads (readApplicable applies n numberField) (putOptU n v) v := by
  rw [putOptU_eq_putOpt]
  refine reads_applicable absent (putU_length n) fun a e => ?_
  rw [numberField, getU_putU, Nat.mod_eq_of_lt (h a e)]

theorem reads_applicableGrade {applies : Bool} {v : Option Grade} (absent : applies = false → v = none) :
    Reads (readApplicable applies 1 gradeField) (putOpt 1 putGrade v) v :=
  reads_applicable absent (fun g => by cases g <;> rfl) fun g _ => by cases g <;> rfl

theorem putLeap_length (x : Leap) : (putLeap x).length = 7 := by
  cases h : x.dir <;> simp [putLeap, putLeapDir, h]

theorem leapField_putLeap {x : Leap} (h : x.due < 256 ^ 6) : leapField (putLeap x) = some x := by
  obtain ⟨dir, due⟩ := x
  have read : getU ((putU 6 due).take 6) = due := by
    rw [List.take_of_length_le (by simp), getU_putU, Nat.mod_eq_of_lt h]
  cases dir <;> simp [leapField, putLeap, putLeapDir, octet, slice, leapDirOf, read]

theorem reads_leap {v : Option Leap} (h : ∀ x, v = some x → x.due < 256 ^ 6) :
    Reads (readOpt 7 leapField) (putOpt 7 putLeap v) v :=
  readOpt_putOpt putLeap_length fun x e => leapField_putLeap (h x e)

/-! ### Codes -/

theorem reads_actionKind (k : ActionKind) : Reads (Reader.bind (readU 1) fun n => Reader.pure (actionKindOf n))
    (putActionKind k) (some k) := by
  cases k <;> exact (reads_octet _).map actionKindOf

theorem actionKindOf_none {n : Nat} (h : 8 < n) : actionKindOf n = none := by
  match n, h with
  | n + 9, _ => rfl

theorem reads_commandKind (k : ChainCommandKind) :
    Reads (Reader.bind (readU 1) fun n => Reader.pure (commandKindOf n)) (putCommandKind k) (some k) := by
  cases k <;> exact (reads_octet _).map commandKindOf

theorem commandKindOf_none {n : Nat} (h : n = 0 ∨ 4 < n) : commandKindOf n = none := by
  match n, h with
  | 0, _ => rfl
  | n + 5, _ => rfl

/-- The code of an alarm kind names it. -/
theorem alarmKindOf_index (k : AlarmKind) : alarmKindOf (BitVec.ofNat 8 ((alarmIndex k).val + 1)).toNat = some k := by
  cases k <;> rfl

theorem alarmKindOf_none {n : Nat} (h : n = 0 ∨ 18 < n) : alarmKindOf n = none := by
  unfold alarmKindOf
  split
  · rfl
  · have outside : allAlarmKinds.length ≤ n - 1 := by
      show 18 ≤ n - 1
      omega
    exact List.getElem?_eq_none outside

theorem reads_alarmKind (k : AlarmKind) :
    Reads (Reader.bind (readU 1) fun n => Reader.pure (alarmKindOf n)) (putAlarmKind k) (some k) := fun l => by
  rw [← alarmKindOf_index k]
  exact (reads_octet _).map alarmKindOf l

theorem alarmQueryOf_kind (k : AlarmKind) :
    alarmQueryOf (BitVec.ofNat 8 ((alarmIndex k).val + 1)).toNat = .kind k := by
  cases k <;> rfl

theorem ackTargetOf_kind (k : AlarmKind) (m : Nat) :
    ackTargetOf (BitVec.ofNat 8 ((alarmIndex k).val + 1)).toNat m = .entry k m := by
  cases k <;> rfl

theorem alarmQueryOf_none {n : Nat} (single : n < 255) (h : n = 0 ∨ 18 < n) : alarmQueryOf n = .unknown := by
  rw [alarmQueryOf, if_neg (by omega), alarmKindOf_none h]

theorem ackTargetOf_none {n : Nat} (single : n < 255) (h : n = 0 ∨ 18 < n) (m : Nat) : ackTargetOf n m = .unknown := by
  rw [ackTargetOf, if_neg (by omega), alarmKindOf_none h]

/-! ### Records -/

theorem reads_alarmConfig {c : AlarmConfig} (raiseDelay : c.raiseDelay < 256) (clearDelay : c.clearDelay < 256 ^ 2) :
    Reads readAlarmConfig (putAlarmConfig c) c := fun l => by
  have severity : Reads (readNamed severityOf) (putSeverity c.severity) c.severity := readNamed_severity _
  rw [putAlarmConfig, readAlarmConfig]
  simp only [List.append_assoc]
  rw [severity.bind, (reads_U (n := 1) raiseDelay).bind, (reads_U clearDelay).bind, (reads_B _).bind]
  rfl

theorem reads_filterConfig {c : FilterConfig} (length : c.length < 256) (ceiling : c.ceiling < 256 ^ 4) :
    Reads readFilterConfig (putFilterConfig c) c := fun l => by
  rw [putFilterConfig, readFilterConfig]
  simp only [List.append_assoc]
  rw [(reads_U (n := 1) length).bind, (reads_U ceiling).bind]
  rfl

end Sys2Proof.Machine
end

section
set_option Elab.async false

namespace Sys2Proof.Machine

open Sys2Proof.Safety

theorem reads_selection {c : SelectionConfig} (minDwell : c.minDwell < 256 ^ 2) :
    Reads readSelection (putSelection c) c := fun l => by
  have mode : Reads readMode (putMode c.mode) c.mode := readMode_putMode _
  rw [putSelection, readSelection]
  simp only [List.append_assoc]
  rw [mode.bind, (reads_B _).bind, (reads_U minDwell).bind, (reads_B _).bind, (reads_grade _).bind]
  rfl

theorem reads_servoConfig {c : ServoConfig} (kp : c.kp < 256) (ki : c.ki < 256) (kpAcq : c.kpAcq < 256)
    (kiAcq : c.kiAcq < 256) (kf : c.kf < 256) (pullRange : c.pullRange < 256 ^ 4)
    (rampLocked : c.rampLocked < 256 ^ 3) (rampAcq : c.rampAcq < 256 ^ 3)
    (stepThreshold : c.stepThreshold < 256 ^ 4) (lockThreshold : c.lockThreshold < 256 ^ 3)
    (lockCount : c.lockCount < 256) (unlockThreshold : c.unlockThreshold < 256 ^ 4) :
    Reads readServoConfig (putServoConfig c) c := fun l => by
  rw [putServoConfig, readServoConfig]
  simp only [List.append_assoc]
  rw [(reads_U (n := 1) kp).bind, (reads_U (n := 1) ki).bind, (reads_U (n := 1) kpAcq).bind,
    (reads_U (n := 1) kiAcq).bind, (reads_U (n := 1) kf).bind, (reads_B _).bind, (reads_U pullRange).bind,
    (reads_U rampLocked).bind, (reads_U rampAcq).bind, (reads_U stepThreshold).bind,
    (reads_U lockThreshold).bind, (reads_U (n := 1) lockCount).bind, (reads_U unlockThreshold).bind]
  rfl

theorem reads_holdoverConfig {c : HoldoverConfig} (guardEntries : c.guard < 256) (average : c.average < 256)
    (u0 : c.u0 < 256 ^ 3) (aging : c.aging < 256 ^ 2) (low : -32768 ≤ c.drift) (high : c.drift < 32768)
    (eBase : c.eBase < 256 ^ 4) (budget : c.budget < 256 ^ 4) (warnPercent : c.warnPercent < 256) :
    Reads readHoldoverConfig (putHoldoverConfig c) c := fun l => by
  have drift : Reads (readI 2) (putI 2 c.drift) c.drift := readI_putI (by omega) (by omega)
  rw [putHoldoverConfig, readHoldoverConfig]
  simp only [List.append_assoc]
  rw [(reads_U (n := 1) guardEntries).bind, (reads_U (n := 1) average).bind, (reads_U u0).bind,
    (reads_U aging).bind, drift.bind, (reads_U eBase).bind, (reads_U budget).bind,
    (reads_U (n := 1) warnPercent).bind]
  rfl

theorem reads_portConfig {c : PortConfig} (frequency : c.frequency < 256 ^ 4) (delayComp : c.delayComp < 256 ^ 3)
    (width : c.width < 256 ^ 4) (rearm : c.rearm < 256 ^ 2) (stepLimit : c.stepLimit < 256 ^ 3)
    (jumpTolerance : c.jumpTolerance < 256 ^ 3) : Reads readPortConfig (putPortConfig c) c := fun l => by
  have type : Reads (readNamed portTypeOf) (putPortType c.type) c.type := readNamed_portType _
  have policy : Reads (readNamed policyOf) (putPolicy c.policy) c.policy := readNamed_policy _
  rw [putPortConfig, readPortConfig]
  simp only [List.append_assoc]
  rw [type.bind, (reads_U frequency).bind, (reads_U delayComp).bind, (reads_U width).bind, (reads_grade _).bind,
    policy.bind, (reads_U rearm).bind, (reads_U stepLimit).bind, (reads_U jumpTolerance).bind, (reads_B _).bind]
  rfl

theorem reads_chainConfig {c : ChainConfig} (linkA : c.linkA < 256 ^ 3) (linkB : c.linkB < 256 ^ 3)
    (hop : c.hop < 256 ^ 3) (holdOff : c.holdOff < 256) : Reads readChainConfig (putChainConfig c) c := fun l => by
  have role : Reads (readNamed roleOf) (putRole c.role) c.role := readNamed_role _
  rw [putChainConfig, readChainConfig]
  simp only [List.append_assoc]
  rw [role.bind, (reads_U linkA).bind, (reads_U linkB).bind, (reads_U hop).bind, (reads_U (n := 1) holdOff).bind,
    (reads_B _).bind]
  rfl

/-- A field that the normal form of a record clears is absent from a record in normal form. -/
theorem absent_of_cleared {α : Type} {applies : Bool} {v : Option α} (h : (if applies then v else none) = v) :
    applies = false → v = none := by
  rintro rfl
  exact h.symm

theorem reads_reference {k : Slot} {c : ReferenceConfig} (priority : c.priority < 256) (floor : c.floor < 256 ^ 4)
    (ceiling : c.ceiling < 256 ^ 4) (immediate : c.immediate < 256) (delayed : c.delayed < 256)
    (period : c.period < 256 ^ 2) (qualify : c.qualify < 256 ^ 2) (waitRestore : c.waitRestore < 256 ^ 2)
    (agreement : ∀ x, c.agreement = some x → x < 256 ^ 4) (nominal : ∀ x, c.nominal = some x → x < 256 ^ 4)
    (uLine : ∀ x, c.uLine = some x → x < 256 ^ 3)
    (lockedAllowance : ∀ x, c.lockedAllowance = some x → x < 256 ^ 3) (normal : normalizeReference k c = c) :
    Reads (readReference k) (putReference c) c := fun l => by
  have noGrade := absent_of_cleared (congrArg ReferenceConfig.declaredGrade normal)
  have noAgreement := absent_of_cleared (congrArg ReferenceConfig.agreement normal)
  have noNominal := absent_of_cleared (congrArg ReferenceConfig.nominal normal)
  have noULine := absent_of_cleared (congrArg ReferenceConfig.uLine normal)
  have noAllowance : decide (k = .pkt) = false → c.lockedAllowance = none := fun other =>
    (congrArg ReferenceConfig.lockedAllowance normal).symm.trans (if_neg (of_decide_eq_false other))
  rw [putReference, readReference]
  simp only [List.append_assoc]
  rw [(reads_B _).bind, (reads_U (n := 1) priority).bind, (reads_applicableGrade noGrade).bind,
    (reads_U floor).bind, (reads_U ceiling).bind, (reads_U (n := 1) immediate).bind,
    (reads_U (n := 1) delayed).bind, (reads_U period).bind, (reads_U qualify).bind, (reads_U waitRestore).bind,
    (reads_applicableU noAgreement agreement).bind, (reads_applicableU noNominal nominal).bind,
    (reads_applicableU noULine uLine).bind, (reads_applicableU noAllowance lockedAllowance).bind]
  rfl

theorem reads_setReference {n : Nat} {k : Slot} {c : ReferenceConfig} {b : List Byte} (single : n < 256)
    (slot : slotOfNumber n = some k) (record : Reads (readReference k) b c) :
    Reads readSetReference (putU 1 n ++ b) (n, c) := fun l => by
  rw [List.append_assoc, readSetReference, (reads_U (n := 1) single).bind, slot]
  exact (record.map fun c => (n, c)) l

theorem readSetReference_none {n : Nat} (single : n < 256) (slot : slotOfNumber n = none) (b : List Byte) :
    readSetReference (putU 1 n ++ b) = none := by
  rw [readSetReference, (reads_U (n := 1) single).bind, slot]

theorem reads_sample {q d : Nat} {o : Int} (g : Grade) (sequence : q < 256 ^ 2) (low : -(2 ^ 63 : Int) ≤ o)
    (high : o < 2 ^ 63) (delay : d < 256 ^ 4) :
    Reads readSample (putU 2 q ++ putI 8 o ++ putU 4 d ++ putGrade g) (q, o, d, g) := fun l => by
  have offset : Reads (readI 8) (putI 8 o) o := readI_putI (by omega) (by omega)
  rw [readSample]
  simp only [List.append_assoc]
  rw [(reads_U sequence).bind, offset.bind, (reads_U delay).bind, (reads_grade g).bind]
  rfl

/-! ## Frames (R183, R184) -/

/-- A control frame whose check does not match is counted (R183). -/
theorem receiveOctets_mismatch {kind tag a b : Byte} {body : List Byte} (short : body.length ≤ 512)
    (wrong : [a, b] ≠ checkOctets (putU 2 body.length ++ [kind, tag] ++ body)) (s : State) {frame : List Byte}
    (h : frame = 0xA5 :: putU 2 body.length ++ [kind, tag] ++ body ++ [a, b]) :
    receiveOctets frame.length frame s = linkError s := by
  obtain ⟨x, y, two⟩ : ∃ x y, putU 2 body.length = [x, y] := ⟨_, _, rfl⟩
  have length : getU [x, y] = body.length := by
    rw [← two, getU_putU]
    omega
  have covered : 4 + body.length = (x :: y :: kind :: tag :: body).length := by
    simp only [List.length_cons]
    omega
  obtain ⟨l, hl⟩ : ∃ l, l = x :: y :: kind :: tag :: body ++ [a, b] := ⟨_, rfl⟩
  have octets : frame = 0xA5 :: l := by simp [h, two, hl]
  have whole : l.length = 6 + body.length := by
    rw [hl, List.length_append, ← covered, List.length_cons, List.length_singleton]
    omega
  have head : l.take 2 = [x, y] := by rw [hl]; rfl
  have check : slice l (4 + body.length) 2 = [a, b] := by
    rw [hl, covered, slice, List.drop_left]
    rfl
  have checked : l.take (4 + body.length) = putU 2 body.length ++ [kind, tag] ++ body := by
    rw [hl, covered, List.take_left, two]
    rfl
  have complete : completeFrame l body.length s = linkError s := by
    rw [completeFrame, check, checked, if_neg wrong]
  rw [octets, List.length_cons, receiveOctets, if_neg (by decide), if_neg (by omega)]
  dsimp only
  rw [head, length, if_neg (by simpa using short), if_neg (by omega), complete,
    List.drop_eq_nil_of_le (by omega), receiveOctets_nil]

end Sys2Proof.Machine
end

section
set_option Elab.async false

namespace Sys2Proof.Machine

open Sys2Proof.Safety

/-- A command of the table is the taking of its request, from the octets that give its fields (R185, R191). -/
theorem exec_of_body {s : State} (takes : Takes s) {c : Instr} {kind tag : Byte} {body : List Byte}
    {f : Request.Effect} (typed : exec c s = .next (takeTyped kind tag f s)) (known : knownKind kind = true)
    (read : requestEffect kind.toNat body = some f) :
    exec c s = .next (takeRequest { kind := kind, tag := tag, body := body } s) := by
  rw [typed, takeRequest_typed (q := { kind := kind, tag := tag, body := body }) known takes read]

/-! ## A frame that arrives (R184) -/

section Arrival

variable {q : Request} {s : State}

theorem acceptRequest_idle (free : s.link.restartDue = false) (sent : s.link.replies = [])
    (empty : s.link.waiting = []) : acceptRequest q s = takeRequest q s := by
  rw [acceptRequest, restartActs_of_not_due free]
  exact if_pos (by rw [sent, empty]; rfl)

theorem acceptRequest_busy (free : s.link.restartDue = false) (busy : s.link.replies ≠ [] ∨ s.link.waiting ≠ []) :
    acceptRequest q s = queueRequest q s := by
  rw [acceptRequest, restartActs_of_not_due free]
  exact if_neg (by simpa [or_iff_not_imp_left] using busy)

theorem queueRequest_buffers (room : bufferedCount s.link.waiting < 2) :
    queueRequest q s = s.setLink { s.link with waiting := s.link.waiting ++ [.request q] } := if_pos room

theorem queueRequest_overruns (full : 2 ≤ bufferedCount s.link.waiting) (room : overrunCount s.link.waiting < 8) :
    queueRequest q s = s.setLink
      { s.link with
        overruns := min 65535 (s.link.overruns + 1)
        waiting := s.link.waiting ++ [.overrun q.kind q.tag] } := by
  rw [← Config.count16, ← satSucc_eq_min]
  exact (if_neg (by omega)).trans (if_pos room)

theorem queueRequest_discards (full : 2 ≤ bufferedCount s.link.waiting) (listed : 8 ≤ overrunCount s.link.waiting) :
    queueRequest q s = s.setLink { s.link with overruns := min 65535 (s.link.overruns + 1) } := by
  have noPlace : ¬ overrunCount s.link.waiting < 8 := by omega
  rw [← Config.count16, ← satSucc_eq_min]
  exact (if_neg (by omega)).trans (if_neg noPlace)

/-- What is due acts before the request that arrives, and leaves nothing due (R190). -/
theorem acceptRequest_due (due : s.link.restartDue = true) :
    acceptRequest q s = acceptRequest q (serveNext (softRestart s)) := by
  have acted : restartActs s = serveNext (softRestart s) := if_pos due
  have settled : restartActs (serveNext (softRestart s)) = serveNext (softRestart s) :=
    restartActs_of_not_due (acted ▸ restartActs_due s)
  rw [acceptRequest, acceptRequest, acted, settled]

end Arrival

theorem exec_frameReceived (kind tag : Byte) {body : List Byte} (short : body.length ≤ 512) (s : State) :
    exec (.frameReceived (encodeControl kind tag body)) s
      = .next (acceptRequest { kind := kind, tag := tag, body := body } s) :=
  congrArg Host.Outcome.next (receiveOctets_encodeControl kind tag short s)

/-- Settles O46: the frame's way to the taking of its request, the judgement of a taken request, and then each
row of the catalogue by the reading of its body. -/
theorem framesAreTakenBufferedOrOverrun : Obligations.FramesAreTakenBufferedOrOverrun := by
  refine ⟨fun kind tag body s short free => ?arrives, fun kind tag body s short due => ?restarts,
    fun q s => ⟨takeRequest_unknown, takeRequest_notReady, takeRequest_getStatus, fun known ready =>
      takeRequest_malformed known fun h => ready h.1, fun known takes f => takeRequest_typed known takes⟩,
    fun tag s takes => ?bodies⟩
  case arrives =>
    dsimp only
    rw [exec_frameReceived kind tag short]
    refine ⟨fun sent empty => ?_, fun busy room => ?_, fun busy full room => ?_, fun busy full listed => ?_,
      fun a b wrong => ?_⟩
    · rw [acceptRequest_idle free sent empty]
    · rw [acceptRequest_busy free busy, queueRequest_buffers room]
      rfl
    · rw [acceptRequest_busy free busy, queueRequest_overruns full room]
      rfl
    · rw [acceptRequest_busy free busy, queueRequest_discards full listed]
      rfl
    · rw [← linkError_counts]
      exact congrArg Host.Outcome.next (receiveOctets_mismatch short wrong s rfl)
  case restarts =>
    refine ⟨by rw [softRestart_link], ?_⟩
    rw [exec_frameReceived kind tag short, exec_frameReceived kind tag short, acceptRequest_due due]
  case bodies =>
    have bare {c : Instr} {kind : Byte} {f : Request.Effect}
        (typed : exec c s = .next (takeTyped kind tag f s)) (known : knownKind kind = true)
        (read : requestEffect kind.toNat [] = some f) :
        exec c s = .next (takeRequest { kind := kind, tag := tag, body := [] } s) :=
      exec_of_body takes typed known read
    intro as opt
    refine ⟨?plain, fun n single => ?numbered, ?allCounts, fun b => ?flags, fun v o range offset => ?setTime,
      fun q o d g sequence low high delay => ?sample, fun n range => ?cancel, fun w => ?postWord,
      fun k v o range argument => ?schedule, fun n v o code single range argument => ?scheduleUnknown,
      fun l m range due => ?chainCommand, fun k => ?alarmKind, ?summary, fun b => ?all,
      fun n single code => ?alarmUnknown, fun c raise clear => ?setAlarm, fun c length ceiling => ?setFilter,
      fun c dwell => ?setSelection, ?setServo, ?setHoldover, ?setPort, ?setChain, ?setReference⟩
    case plain =>
      exact ⟨bare rfl rfl rfl, bare rfl rfl rfl, bare rfl rfl rfl, bare rfl rfl rfl, bare rfl rfl rfl,
        bare rfl rfl rfl, bare rfl rfl rfl, bare rfl rfl rfl, bare rfl rfl rfl, bare rfl rfl rfl,
        bare rfl rfl rfl, bare rfl rfl rfl, bare rfl rfl rfl⟩
    case numbered =>
      have number : Reads (readU 1) (putU 1 n) n := reads_U (n := 1) single
      refine ⟨exec_of_body takes rfl rfl (number.effect _), exec_of_body takes rfl rfl (number.effect _),
        exec_of_body takes rfl rfl (number.effect _), exec_of_body takes rfl rfl (number.effect _),
        exec_of_body takes rfl rfl (number.effect _), fun other => ?_,
        fun b => exec_of_body takes rfl rfl ((number.pair (reads_B b)).effect _), fun m range => ?_,
        fun v range => exec_of_body takes rfl rfl ((number.pair (reads_U range)).effect _), fun v low high => ?_⟩
      · have slot : slotOrAll n = some n := if_neg other
        exact exec_of_body takes rfl rfl ((number.effect _).trans (by rw [slot]))
      · exact exec_of_body takes rfl rfl ((number.pair (reads_U (n := 1) range)).effect _)
      · have amount : Reads (readI 4) (putI 4 v) v := readI_putI (by omega) (by omega)
        exact exec_of_body takes rfl rfl ((number.pair amount).effect _)
    case allCounts => exact exec_of_body takes rfl rfl ((reads_octet 0xFF).effect _)
    case flags =>
      exact ⟨exec_of_body takes rfl rfl ((reads_B b).effect _), exec_of_body takes rfl rfl ((reads_B b).effect _)⟩
    case setTime => exact exec_of_body takes rfl rfl (((reads_U range).pair (reads_optU offset)).effect _)
    case sample => exact exec_of_body takes rfl rfl ((reads_sample g sequence low high delay).effect _)
    case cancel => exact exec_of_body takes rfl rfl ((reads_U range).effect _)
    case postWord =>
      have word : BitVec.ofNat 32 w.toNat = w := by simp
      exact exec_of_body takes rfl rfl (((reads_U (n := 4) w.isLt).effect _).trans (by rw [word]))
    case schedule =>
      exact exec_of_body takes rfl rfl
        (((reads_actionKind k).triple (reads_U range) (reads_optU argument)).effect _)
    case scheduleUnknown =>
      have kind := (reads_U (n := 1) single).map actionKindOf
      rw [actionKindOf_none code] at kind
      exact exec_of_body takes rfl rfl ((kind.triple (reads_U range) (reads_optU argument)).effect _)
    case chainCommand =>
      refine ⟨fun k => exec_of_body takes rfl rfl
        (((reads_commandKind k).triple (reads_U (n := 1) range) (reads_leap due)).effect _),
        fun n single code => ?_⟩
      have kind := (reads_U (n := 1) single).map commandKindOf
      rw [commandKindOf_none code] at kind
      exact exec_of_body takes rfl rfl ((kind.triple (reads_U (n := 1) range) (reads_leap due)).effect _)
    case alarmKind =>
      have number := reads_octet (BitVec.ofNat 8 ((alarmIndex k).val + 1))
      exact ⟨exec_of_body takes rfl rfl ((number.effect _).trans (by rw [alarmQueryOf_kind])), fun m range =>
        exec_of_body takes rfl rfl
          (((number.pair (reads_U (n := 1) range)).effect _).trans (by rw [ackTargetOf_kind]))⟩
    case summary => exact exec_of_body takes rfl rfl ((reads_octet 0xFF).effect _)
    case all => exact exec_of_body takes rfl rfl (((reads_octet 0xFF).pair (reads_octet b)).effect _)
    case alarmUnknown =>
      have number : Reads (readU 1) (putU 1 n) n := reads_U (n := 1) (by omega)
      exact ⟨exec_of_body takes rfl rfl ((number.effect _).trans (by rw [alarmQueryOf_none single code])), fun b =>
        exec_of_body takes rfl rfl
          (((number.pair (reads_octet b)).effect _).trans (by rw [ackTargetOf_none single code]))⟩
    case setAlarm =>
      have record := reads_alarmConfig raise clear
      refine ⟨fun k => exec_of_body takes rfl rfl (((reads_alarmKind k).pair record).effect _),
        fun n single code => ?_⟩
      have kind := (reads_U (n := 1) single).map alarmKindOf
      rw [alarmKindOf_none code] at kind
      exact exec_of_body takes rfl rfl ((kind.pair record).effect _)
    case setFilter => exact exec_of_body takes rfl rfl ((reads_filterConfig length ceiling).effect _)
    case setSelection => exact exec_of_body takes rfl rfl ((reads_selection dwell).effect _)
    case setServo =>
      intro c kp ki kpAcq kiAcq kf pullRange rampLocked rampAcq step lock count unlock
      exact exec_of_body takes rfl rfl ((reads_servoConfig kp ki kpAcq kiAcq kf pullRange rampLocked rampAcq
        step lock count unlock).effect _)
    case setHoldover =>
      intro c entries average u0 aging low high eBase budget warn
      exact exec_of_body takes rfl rfl
        ((reads_holdoverConfig entries average u0 aging low high eBase budget warn).effect _)
    case setPort =>
      intro n c single frequency delay width rearm step jump
      exact exec_of_body takes rfl rfl
        (((reads_U (n := 1) single).pair (reads_portConfig frequency delay width rearm step jump)).effect _)
    case setChain =>
      intro c linkA linkB hop holdOff
      exact exec_of_body takes rfl rfl ((reads_chainConfig linkA linkB hop holdOff).effect _)
    case setReference =>
      intro n c single priority floor ceiling immediate delayed period qualify wait agreement nominal uLine
        allowance normal
      cases slot : slotOfNumber n with
      | some k =>
        have record := reads_reference priority floor ceiling immediate delayed period qualify wait agreement
          nominal uLine allowance (normal k slot)
        exact exec_of_body takes rfl rfl ((reads_setReference single slot record).effect _)
      | none =>
        have refused : requestSetReference n c s = refuse .invalid s := by rw [requestSetReference, slot]
        show Host.Outcome.next (takeTyped 0x08 tag (requestSetReference n c) s) = _
        rw [takeTyped_refuse takes 0x08 tag refused]
        exact (congrArg Host.Outcome.next (takeRequest_malformed
          (q := { kind := 0x08, tag := tag, body := putU 1 n ++ putReference c }) rfl (fun h => takes.1 h.1)
          (reads_none (readSetReference_none single slot _) _))).symm

end Sys2Proof.Machine
end

section
set_option Elab.async false

namespace Sys2Proof.Machine

/-! ## The queue of commands

The queue is written where a step takes its front command and nowhere else: what a command does leaves the
queue as it finds it.  For the blocks this stands in their frames; here it is carried over the link, the
count and the events. -/

/-! ### Requests and the link (R183 to R185, R190) -/

theorem CatalogueEffect.pending {f : Request.Effect} (h : CatalogueEffect f) (s : State) :
    (f s).1.pending = s.pending := by
  cases h <;> simp

@[simp] theorem addReply_pending (kind tag : Byte) (x : State × Answer) :
    (addReply kind tag x).pending = x.1.pending := rfl

@[simp] theorem takeRequest_pending (r : Request) (s : State) : (takeRequest r s).pending = s.pending := by
  rw [takeRequest, addReply_pending]
  unfold judgeRequest refuse
  split
  · rfl
  · split
    · rfl
    · split
      · rename_i f read
        exact (requestEffect_catalogue read).pending s
      · rfl

@[simp] theorem serveNext_pending (s : State) : (serveNext s).pending = s.pending := by
  unfold serveNext
  split
  · simp
  · rfl
  · rfl
  · rfl

@[simp] theorem restartActs_pending (s : State) : (restartActs s).pending = s.pending := by
  unfold restartActs
  split
  · simp
  · rfl

theorem takeTyped_pending (kind tag : Byte) {f : Request.Effect} (h : CatalogueEffect f) (s : State) :
    (takeTyped kind tag f s).pending = s.pending := by
  rw [takeTyped, addReply_pending]
  unfold handOver refuse
  split
  · exact restartActs_pending s
  · exact (h.pending _).trans (restartActs_pending s)

@[simp] theorem replyFinished_pending (s : State) : (replyFinished s).pending = s.pending := by
  unfold replyFinished
  split
  · rfl
  · dsimp only
    split
    · rfl
    · simp

@[simp] theorem linkError_pending (s : State) : (linkError s).pending = s.pending := rfl

@[simp] theorem queueRequest_pending (r : Request) (s : State) : (queueRequest r s).pending = s.pending := by
  unfold queueRequest
  dsimp only
  (repeat' split) <;> rfl

@[simp] theorem acceptRequest_pending (r : Request) (s : State) : (acceptRequest r s).pending = s.pending := by
  unfold acceptRequest
  dsimp only
  split <;> simp

@[simp] theorem completeFrame_pending (l : List Byte) (n : Nat) (s : State) :
    (completeFrame l n s).pending = s.pending := by
  unfold completeFrame
  split <;> simp

@[simp] theorem receiveOctets_pending (n : Nat) (l : List Byte) (s : State) :
    (receiveOctets n l s).pending = s.pending := by
  induction n generalizing l s with
  | zero => rfl
  | succ n ih =>
    cases l with
    | nil => rfl
    | cons b l =>
      unfold receiveOctets
      dsimp only
      (repeat' split) <;> simp [ih]

/-! ### The count (R2 to R4, R26) -/

@[simp] theorem settle_pending (s : State) : (settle s).pending = s.pending := by
  simp [settle]

@[simp] theorem settleBefore_pending (t : Nat) (s : State) : (settleBefore t s).pending = s.pending := by
  unfold settleBefore
  split <;> simp

@[simp] theorem advanceTo_pending (t : Nat) (s : State) : (advanceTo t s).pending = s.pending := by
  unfold advanceTo
  split <;> simp

@[simp] theorem nextBoundary_pending (order : List Block) (s : State) :
    (nextBoundary order s).pending = s.pending := by
  unfold nextBoundary
  split <;> simp

@[simp] theorem reachEnd_pending (s : State) : (reachEnd s).pending = s.pending := by
  unfold reachEnd
  dsimp only
  (repeat' split) <;> simp

@[simp] theorem onePico_pending (s : State) : (onePico s).pending = s.pending := by
  unfold onePico
  (repeat' split) <;> simp

@[simp] theorem picos_pending (k : Nat) (s : State) : (picos k s).pending = s.pending := by
  induction k generalizing s with
  | zero => rfl
  | succ k ih => exact (ih _).trans (onePico_pending s)

@[simp] theorem oscillatorTick_pending (s : State) : (oscillatorTick s).pending = s.pending := by
  unfold oscillatorTick
  dsimp only
  split
  · exact picos_pending _ _
  · rfl

@[simp] theorem idle_pending (s : State) : (idle s).pending = s.pending :=
  (oscillatorTick_pending _).trans (settle_pending s)

/-! ### Events of the pins and of the count (R26, R27, R125 to R127, R144) -/

/-- An event that comes at fraction `t` runs the count on to it and then has its effect. -/
theorem atFraction_pending (t : Nat) {f : State → State} (h : ∀ s, (f s).pending = s.pending) (s : State) :
    (if s.started then f (advanceTo t s) else s).pending = s.pending := by
  split
  · exact (h _).trans (advanceTo_pending t s)
  · rfl

@[simp] theorem lineLoss_pending (k : LineSlot) (s : State) : (lineLoss k s).pending = s.pending := by
  unfold lineLoss
  split <;> simp

@[simp] theorem runToInstant_pending (p : Fin 12) (i : Nat × Nat) (s : State) :
    (runToInstant p i s).pending = s.pending := by
  unfold runToInstant
  dsimp only
  split <;> simp

@[simp] theorem portEmission_pending (p : Fin 12) (s : State) : (portEmission p s).pending = s.pending := by
  unfold portEmission
  dsimp only
  (repeat' split) <;> simp

@[simp] theorem clockEdge_pending (p : Fin 12) (k : Nat) (rising : Bool) (s : State) :
    (clockEdge p k rising s).pending = s.pending := by
  unfold clockEdge
  dsimp only
  (repeat' split) <;> simp

/-! ### Every command -/

/-- No transition writes the queue. -/
theorem Transition.pending {s t : State} (h : Transition s t) : t.pending = s.pending := by
  cases h with
  | request kind tag hf s => exact takeTyped_pending kind tag hf s
  | satPulse k t s => exact atFraction_pending t (f := satPulseArrives k) (by simp) s
  | satWindowClose k s => exact atFraction_pending Config.half (f := closeWindow k) (by simp) s
  | lineEdge k t n s => exact atFraction_pending t (f := lineEdgeArrives k n) (by simp) s
  | chainMarker p t s => exact atFraction_pending t (f := captureMarker p) (by simp) s
  | chainFrame p t l b s => exact atFraction_pending t (f := receiveFrame p l b) (by simp) s
  | stays s => rfl
  | starts | saveSucceeds | saveFails | octets | linkError | replySent | unknownKind | restarts
  | boundary | endOfRange | lineLoss | qualifies | waitEnds | periodEnds | dwellExpires | rearmExpires
  | emission | pulseEnd | swapExpires | conflictExpires | tooLongExpires | alarmDelay | clockEdge | idle =>
    simp

/-- No command stops the part or is left without a meaning. -/
theorem exec_answers (c : Instr) (s : State) : ∃ t, exec c s = .next t := by
  cases c <;> exact ⟨_, rfl⟩

/-- Settles O3: a command answers a next state, which is that of PIN_RESET or of a transition, and neither
writes the queue. -/
theorem everyCommandAnswersANextState : Obligations.EveryCommandAnswersANextState := by
  intro c s
  obtain ⟨t, answer⟩ := exec_answers c s
  refine ⟨t, answer, ?_⟩
  obtain ⟨m, -, rfl⟩ | made := exec_transition answer
  · exact (pinReset_frame m s).2
  · exact made.pending

/-- Settles O1: the front command is what a step matches on. -/
theorem stepRunsFrontCommand : Obligations.StepRunsFrontCommand := by
  intro c rest s front
  rw [step, front]
  rfl

end Sys2Proof.Machine
end
